-- ==== Sys2Proof/Word.lean ====
section
/-! DEFINITION. The byte of the common store and of an SPI transfer (spec/09 R175, R176). -/

namespace Sys2Proof

/-- One byte. -/
abbrev Byte := BitVec 8

end Sys2Proof
end

