-- ==== Sys2Proof/Syntax.lean ====
section
/-! DEFINITION. The commands: one constructor of `Instr` for each of the 49 rows of spec/opcode_table.json.
The table gives its rows no operands and no bits; the operands are what reaches the part from outside at the
event (assumption logs 3, 7, 8, 9, 10). -/

namespace Sys2Proof

/-- The twelve keys (R85). -/
inductive Key
  | digit (d : Fin 10)
  | enter
  | erase
deriving DecidableEq, Repr

/-- The two tamper switches (R140). -/
inductive SwitchId
  | caseSw
  | coverSw
deriving DecidableEq, Repr

/-- What a switch input reads, and a settled position (R140). -/
inductive Position
  | opened
  | closed
deriving DecidableEq, Repr

/-- The mean values over the interval a frame closes, each rounded down to its unit and not yet saturated
(R1, R2): V in 0.1 V, currents in mA, element powers in mW, signed. Assumption log 7. -/
structure Means where
  v : Nat
  iL : Nat
  iN : Nat
  pL : Int
  pN : Int
deriving DecidableEq, Repr

/-- A run of `count` bytes of a STORE_READ; `goesOn` where it carries on the transfer of the last STORE_READ, so that
another event can fall between two bytes of one read (R175; assumption log 9). -/
structure ReadRun where
  count : Nat
  goesOn : Bool
deriving DecidableEq, Repr

/-- A REG_READ: the register's address, 1 for APEND, and how many data bytes are clocked. APEND_READ is the table's one
row for a REG_READ (R175, R187; assumption log 9). -/
structure RegisterRead where
  addr : BitVec 16
  count : Nat
deriving DecidableEq, Repr

/-- The four operations of an SPI transfer (R175). -/
inductive Operation
  | storeRead
  | storeWrite
  | regRead
  | regWrite
deriving DecidableEq, Repr

/-- Every operation, in the order of spec/11 section 11.2. -/
def Operation.all : List Operation := [.storeRead, .storeWrite, .regRead, .regWrite]

/-- The commands of spec/opcode_table.json, in the table's order. -/
inductive Instr
  | frameClose (m : Means)
  | conversionComplete (value : Nat)
  | coilPulseEnd
  | verifyWindowExpiry
  | retryTimerExpiry
  | secondTick
  | lockExpiry
  | recloseWaitExpiry
  | idleTimeout
  | testPulseHighExpiry
  | testPulseLowGapExpiry
  | keyPress (k : Key)
  | keyRelease (k : Key)
  | decodeCompletion
  | keySetCompletion
  | tariffLoadCompletion
  | switchChange (w : SwitchId) (p : Position)
  | switchEvent (w : SwitchId)
  | holdTimerExpiry
  | timedWake
  | mainsLoss (elapsed : Nat) (m : Means)
  | resetnLow
  | holdupCompletion (upTo : Fin 5)
  | resetnRelease (upTo : Fin 5)
  | mainsReturn (upTo : Fin 5)
  | reVerification
  | storeRead (addr : BitVec 16) (run : ReadRun)
  | storeWrite (addr : BitVec 16) (data : List Byte)
  | topup (slip : Fin 16) (chars : List Byte)
  | keySet (slip : Fin 16) (key : BitVec 64)
  | tariffLoad (slip : Fin 16) (offset : BitVec 16)
  | clockSet (slip : Fin 16) (time : BitVec 32)
  | supplyOrderOpen (slip : Fin 16)
  | supplyOrderRelease (slip : Fin 16)
  | settingsWrite (slip : Fin 16) (offset : BitVec 16)
  | settingsFetch (slip : Fin 16) (offset : BitVec 16)
  | profileSetup (slip : Fin 16) (offset : BitVec 16) (capacity d remaining : Byte)
  | capture (slip : Fin 16)
  | slipKindUnknown (slip : Fin 16) (kind : Byte)
  | apendRead (read : RegisterRead)
  | aackWrite (data : List Byte)
  | aconfWrite (data : List Byte)
  | clearCollision
  | linkReset (clearToo : Bool)
  | regWriteIgnored (addr : BitVec 16) (data : List Byte)
  | operationIgnored (op : Byte) (n : Nat)
  | attnPulseEnd
  | batteryRemoved
  | batteryFitted
deriving DecidableEq, Repr

end Sys2Proof
end

