-- ==== Sys2Proof/Decode.lean ====
section
/-! DEFINITION. What picks a command. An SPI transfer's first byte and its two address bytes pick one of the link port's
commands (R175, spec/11 section 11.2). The words of spec/opcode_table.json pick none: its rows give no bits. -/

namespace Sys2Proof

/-! ### Words of the table -/

/-- The command that the `nbits`-bit word `w` spells by the table's bits: none, for the table gives none (its "fields" are
empty and it has no "fixed" words). What the bytes of a transfer spell is `readTransfer`. -/
def decodeTableWord (_nbits _w : Nat) : Option Instr := none

/-! ### Transfers (R175, spec/11 section 11.2) -/

/-- The byte value of an operation. -/
def Operation.code : Operation → Byte
  | .storeRead => 0x31
  | .storeWrite => 0x32
  | .regRead => 0x35
  | .regWrite => 0x36

/-- The operation a transfer's first byte names; any other value names none. -/
def Operation.ofByte (b : Byte) : Option Operation := Operation.all.find? fun op => decide (op.code = b)

/-- The address of a transfer, most significant byte first. -/
def transferAddress (hi lo : Byte) : BitVec 16 := BitVec.ofNat 16 (256 * hi.toNat + lo.toNat)

/-- The command of a write to LCTL: its first byte's bit 1 is LINK_RESET, bit 0 CLEAR_COLLISION, bytes not received
count as 0, and a write that names neither control is no command (R175, R185, R189). -/
def readControl (data : List Byte) : Option Instr :=
  let b := data.headD 0
  if b.getLsbD 1 then some (.linkReset (b.getLsbD 0))
  else if b.getLsbD 0 then some .clearCollision
  else none

/-- The command of a REG_WRITE: the address names the register, 2 AACK, 3 ACONF, 4 LCTL; LSTAT, APEND, IDENT and the
addresses above 5 cannot be written (R175, R185). -/
def readRegWrite (addr : BitVec 16) (data : List Byte) : Option Instr :=
  match addr.toNat with
  | 2 => some (.aackWrite data)
  | 3 => some (.aconfWrite data)
  | 4 => readControl data
  | _ => some (.regWriteIgnored addr data)

/-- The command of a transfer that names an operation and an address, with its data bytes; a read counts them, and a
REG_READ in which none is clocked is no command (R175; assumption log 10). -/
def readOperation (op : Operation) (addr : BitVec 16) (data : List Byte) : Option Instr :=
  match op with
  | .storeRead => some (.storeRead addr ⟨data.length, false⟩)
  | .storeWrite => some (.storeWrite addr data)
  | .regRead => if data.isEmpty then none else some (.apendRead ⟨addr, data.length⟩)
  | .regWrite => readRegWrite addr data

/-- The command that the bytes the host clocks in spell, from the first to the last whole byte of one transfer: the
operation, the address, the data. A first byte that names no operation makes the rest ignored; a transfer that ends
before its address is complete is no command (R175; assumption log 9). -/
def readTransfer : List Byte → Option Instr
  | [] => none
  | b :: rest =>
    match Operation.ofByte b with
    | none => some (.operationIgnored b rest.length)
    | some op =>
      match rest with
      | hi :: lo :: data => readOperation op (transferAddress hi lo) data
      | _ => none

end Sys2Proof
end

