-- ==== Sys2Proof/Config.lean ====
section
/-! DEFINITION. What the manual leaves open: constants with no body, so that nothing can be proved about
their values. A claim that holds, holds whatever they are. -/

namespace Sys2Proof

/-- The free choices. Where one event is taken by several blocks "in either order" (R74, R113, R191), or a moment below
a second decides (R89, R108), and the outcomes differ, the `n`-th such choice takes the outcome numbered `freeOrder n`,
counted round the outcomes there are. `State.freeCount` gives `n`. Assumption logs 6, 11, 12, 14, 23. -/
opaque Config.freeOrder : Nat → Nat

/-- The clock count one second after 4,294,967,295. R40 gives the range "0 to 4,294,967,295" and no successor
for its end. Assumption log 20. -/
opaque Config.countAfterTop : Nat

/-- The outage POWER_BACK reports where the present count lies below the loss record's: R171's difference, "the present
clock count less the loss record's count", is then no number of seconds. Of the loss record's count and the present
one. Assumption log 47. -/
opaque Config.outageBelow : Nat → Nat → Nat

end Sys2Proof
end

