-- ==== Sys2Proof/Machine/Bytes.lean ====
section
/-! DEFINITION. Byte order and flags bytes (R202): multi-byte numbers are little-endian, signed numbers are in
two's complement, flags are numbered from bit 0 in the order listed. -/

namespace Sys2Proof.Machine

/-- `v` in `n` bytes, little-endian; what does not fit is cut off. -/
def leBytes : Nat → Nat → List Byte
  | 0, _ => []
  | n + 1, v => BitVec.ofNat 8 v :: leBytes n (v / 256)

/-- The number that bytes hold, little-endian. -/
def leNat : List Byte → Nat
  | [] => 0
  | b :: bs => b.toNat + 256 * leNat bs

/-- A signed number in `n` bytes, two's complement, little-endian. -/
def leInt (n : Nat) (v : Int) : List Byte := leBytes n (v % (2 ^ (8 * n) : Nat)).toNat

/-- The number whose bit `i` is the `i`-th flag. -/
def bitsNat : List Bool → Nat
  | [] => 0
  | b :: bs => b.toNat + 2 * bitsNat bs

/-- A flags byte: the first flag in bit 0. -/
def flagsByte (fs : List Bool) : Byte := BitVec.ofNat 8 (bitsNat fs)

/-- One byte holding a number below 256. -/
def byteOf (v : Nat) : Byte := BitVec.ofNat 8 v

/-- The first `n` bytes, filled up with zeros. -/
def padTo (n : Nat) (bs : List Byte) : List Byte := bs.take n ++ List.replicate (n - bs.length) 0

end Sys2Proof.Machine
end

