-- ==== Sys2Proof/Machine/State.lean ====
section
/-! DEFINITION. The state of the part: every register, buffer, counter, mode and pin the spec gives it, block by
block (spec/00 section 2.1), and the queue of commands. Each field's rule and value at reset stand in INVENTORY.md. -/

namespace Sys2Proof.Machine

/-- Why a command stops the part. No rule of the spec stops it, so there is no constructor. -/
inductive Fault
deriving DecidableEq, Repr

/-- Why a command has no meaning. -/
inductive Refusal
  /-- Raised by an arm of `exec` for a command that has no meaning yet. Safe. No arm raises it. -/
  | notModelled (mnemonic : String)
deriving DecidableEq, Repr

/-- A clock count with the clock's validity at the event (R138, R166, R168). -/
structure Stamp where
  count : Nat
  valid : Bool
deriving DecidableEq, Repr

/-! ### Measurement front end and auxiliary converter (R1 to R18) -/

/-- The three auxiliary channels (R10). -/
inductive Channel
  | loadV
  | magnet
  | battery
deriving DecidableEq, Repr

/-- One entry of the aux table (R10). -/
structure AuxEntry where
  value : Option Nat
  fresh : Bool
  settle : Bool
deriving DecidableEq, Repr

/-- The aux table, the conversion in flight, and the channel to resume at (R10, R11, R15). -/
structure Converter where
  loadV : AuxEntry
  magnet : AuxEntry
  battery : AuxEntry
  inFlight : Option Channel
  next : Channel
deriving DecidableEq, Repr

/-- One channel of a frame's aux reading (R12). -/
structure AuxSample where
  value : Option Nat
  fresh : Bool
deriving DecidableEq, Repr

/-- A closed frame (R1). -/
structure Frame where
  seq : Nat
  v : Nat
  iL : Nat
  iN : Nat
  pL : Int
  pN : Int
  duration : Nat
  overRange : Bool
  loadV : AuxSample
  magnet : AuxSample
  battery : AuxSample
deriving DecidableEq, Repr

/-- The frame in progress: its elapsed time in ms, which is the frame timer, and the mean values its running sums give
over that time (R4, R18; assumption log 7). -/
structure Progress where
  elapsed : Nat
  means : Means
deriving DecidableEq, Repr

/-- The front end: RUNNING (a frame in progress is open) or STOPPED, the sequence, the last closed frame, the frame in
progress (R3, R4). -/
structure FrontEnd where
  running : Bool
  seq : Nat
  last : Option Frame
  progress : Progress
deriving DecidableEq, Repr

/-! ### Energy register block (R19 to R39) -/

/-- An accumulator: watt-hours and the remainder in mWs (R28). -/
structure Accumulator where
  wh : Nat
  rem : Nat
deriving DecidableEq, Repr

/-- The stage that set the billed power last (R26). -/
inductive Basis
  | none
  | line
  | neutral
  | magnet
  | noVoltage
deriving DecidableEq, Repr

/-- The test-pulse output (R35). -/
inductive PulseState
  | idle
  | high
  | lowGap
deriving DecidableEq, Repr

/-- The energy register block. -/
structure Energy where
  billed : Accumulator
  phaseFwd : Accumulator
  phaseRev : Accumulator
  neutral : Accumulator
  power : Nat
  basis : Basis
  clamp : Bool
  backlog : Nat
  pulse : PulseState
deriving DecidableEq, Repr

/-! ### Clock and tariff unit (R40 to R62) -/

/-- The clock: count, validity, whether its domain is powered, the announced day (R40, R42). -/
structure Clock where
  count : Nat
  valid : Bool
  running : Bool
  announced : Option Nat
deriving DecidableEq, Repr

/-- A switch point of a schedule: a minute of day and a band (R49). -/
structure SwitchPoint where
  minute : Nat
  band : Nat
deriving DecidableEq, Repr

/-- A tariff record as validated (R49): the first B − 1 thresholds and B × N rates. -/
structure Tariff where
  id : Nat
  activation : Nat
  startDay : Nat
  blocks : Nat
  thresholds : List Nat
  bands : Nat
  rates : List Nat
  weekday : List SwitchPoint
  weekend : List SwitchPoint
  daily : Nat
deriving DecidableEq, Repr

/-- A load in flight (R50): the 96-byte buffer, the image area while it is part-owned, and the slip while it
has not been freed by a link reset (R53). -/
structure Load where
  image : List Byte
  area : Option Nat
  slip : Option (Fin 16)
deriving DecidableEq, Repr

/-- The tariff unit. -/
structure TariffUnit where
  active : Option Tariff
  pending : Option Tariff
  periodIndex : Option Int
  periodEnergy : Nat
  chargedDay : Option Nat
  load : Option Load
deriving DecidableEq, Repr

/-! ### Credit unit (R63 to R84) -/

/-- The credit states, in the order of R71. -/
inductive CreditState
  | normal
  | low
  | held
  | exhausted
deriving DecidableEq, Repr

/-- The emergency states, in the order of R77. -/
inductive Emergency
  | off
  | offered
  | taken
deriving DecidableEq, Repr

/-- The credit unit. -/
structure Credit where
  balance : Int
  debitRem : Nat
  writtenOff : Nat
  emergencyAmount : Nat
  emergency : Emergency
  state : CreditState
  friendly : Bool
deriving DecidableEq, Repr

/-! ### Code unit (R85 to R111) -/

/-- The source of a decode (R93): the keypad, or a slip; `live` is false once a link reset has freed the slip. -/
inductive Source
  | keypad
  | slip (n : Fin 16) (live : Bool)
deriving DecidableEq, Repr

/-- The decoder: IDLE, DECODING the copied characters, or KEYING (R93, R94, R108); `locked` is the outcome
KEY_LOCKED found at the taking. -/
inductive Decoder
  | idle
  | decoding (src : Source) (code : List Byte)
  | keying (n : Fin 16) (live : Bool) (locked : Bool)
deriving DecidableEq, Repr

/-- The code unit. `lock` is 0 when no lock is in force; `idle` is the offered ticks since the last taken press, from
which R89's whole seconds differ by less than one (assumption log 6). -/
structure CodeUnit where
  line : List (Fin 10)
  held : Bool
  waitingSub : Bool
  keysDown : List Key
  lockout : Bool
  idle : Nat
  scanning : Bool
  decoder : Decoder
  accepted : List Nat
  failCount : Nat
  lock : Nat
  key : BitVec 64
  keySet : Bool
deriving DecidableEq, Repr

/-! ### Supply controller (R112 to R136) -/

/-- The four causes (R112). -/
inductive Cause
  | tamper
  | order
  | credit
  | overload
deriving DecidableEq, Repr

/-- The cause set: each cause present or absent (R112). -/
structure Causes where
  tamper : Bool
  order : Bool
  credit : Bool
  overload : Bool
deriving DecidableEq, Repr

/-- The contactor machine's states, in the order of R114. -/
inductive MachineState
  | closed
  | opening
  | opened
  | awaitConfirm
  | closing
  | stuckClosed
  | stuckOpen
deriving DecidableEq, Repr

/-- The direction of an attempt, and the coil a pulse drives (R114, R115). -/
inductive Direction
  | toOpen
  | toClose
deriving DecidableEq, Repr

/-- The phase of an attempt (R114). -/
inductive Phase
  | pulse
  | verify
deriving DecidableEq, Repr

/-- The attempt record (R114), and the last fresh LOAD_V seen in the attempt (R125). -/
structure Attempt where
  direction : Direction
  pulse : Nat
  phase : Phase
  extensions : Nat
  window : Nat
  lastLoadV : Option Nat
deriving DecidableEq, Repr

/-- The overload state, with the reclose wait's remaining seconds (R131). -/
inductive Overload
  | none
  | waiting (remaining : Nat)
  | latched
deriving DecidableEq, Repr

/-- The supply controller. `retry` is 0 when the retry timer is stopped. -/
structure Supply where
  causes : Causes
  machine : MachineState
  unverified : Bool
  attempt : Option Attempt
  coil : Option Direction
  retry : Nat
  limit : Nat
  overCount : Nat
  overload : Overload
  trips : List Nat
deriving DecidableEq, Repr

/-! ### Tamper watch (R137 to R163) -/

/-- The eight tamper kinds, in the kind order of R137. -/
inductive TamperKind
  | caseOpen
  | cover
  | magnet
  | imbalance
  | reverse
  | noVoltage
  | bypass
  | clockBack
deriving DecidableEq, Repr

/-- The five frame-judged kinds, in the order of R137. -/
inductive FrameKind
  | magnet
  | imbalance
  | reverse
  | noVoltage
  | bypass
deriving DecidableEq, Repr

/-- A record's status, in the order of R138. -/
inductive TamperStatus
  | clear
  | active
  | latched
deriving DecidableEq, Repr

/-- A tamper record (R138). -/
structure TamperRecord where
  status : TamperStatus
  first : Option Stamp
  last : Option Stamp
  count : Nat
  onBattery : Bool
deriving DecidableEq, Repr

/-- The eight records (R138). -/
structure TamperRecords where
  caseOpen : TamperRecord
  cover : TamperRecord
  magnet : TamperRecord
  imbalance : TamperRecord
  reverse : TamperRecord
  noVoltage : TamperRecord
  bypass : TamperRecord
  clockBack : TamperRecord
deriving DecidableEq, Repr

/-- The five windows, each oldest result first (R146). -/
structure Windows where
  magnet : List Bool
  imbalance : List Bool
  reverse : List Bool
  noVoltage : List Bool
  bypass : List Bool
deriving DecidableEq, Repr

/-- The tamper watch, with the two settled positions of the battery domain (R140, R145). -/
structure Tamper where
  records : TamperRecords
  windows : Windows
  caseSettled : Option Position
  coverSettled : Option Position
deriving DecidableEq, Repr

/-! ### Link port, notice writer, profile channel (R175 to R201) -/

/-- The link port: the waiting list, the collision record, the attention state, ACONF, and the bytes the last
transfer shifted out. -/
structure Link where
  waiting : List (Fin 16)
  collision : Option Nat
  latched : BitVec 9
  seen : BitVec 9
  qual : BitVec 9
  aconf : BitVec 24
  attnPulse : Bool
  dataOut : List Byte
deriving DecidableEq, Repr

/-- The notice writer's state (R191). -/
structure Strip where
  writeIndex : Nat
  dropped : Nat
deriving DecidableEq, Repr

/-- A SET profile descriptor (R195). -/
structure Descriptor where
  offset : Nat
  capacity : Nat
  d : Nat
  remaining : Nat
  nextSlot : Nat
deriving DecidableEq, Repr

/-- A profile period's accumulators, opening slot number and minute count (R195, R197). -/
structure Period where
  wh : Nat
  minV : Option Nat
  maxV : Option Nat
  tamper : Bool
  supplyOpen : Bool
  clockInvalid : Bool
  step : Bool
  slot : Option Nat
  minutes : Nat
deriving DecidableEq, Repr

/-- The saved period with its end time (R200). -/
structure SavedPeriod where
  period : Period
  endTime : Stamp
deriving DecidableEq, Repr

/-- The profile channel. -/
structure Profile where
  desc : Option Descriptor
  unrecorded : Nat
  period : Option Period
  saved : Option SavedPeriod
deriving DecidableEq, Repr

/-! ### Power logic (R164 to R174, R194) -/

/-- The power states (R164). -/
inductive PowerState
  | mains
  | holdup
  | watch
  | dark
deriving DecidableEq, Repr

/-- How far start-up has come (R170): begun, or the last step done. Steps 5 and 6 are one event (R173). -/
inductive Stage
  | begun
  | checked
  | cleared
  | replayed
  | recomputed
  | running
deriving DecidableEq, Repr

/-- The part in WATCH (R167). -/
inductive WatchMode
  | awake
  | asleep
  | timedWake
deriving DecidableEq, Repr

/-- Why HOLDUP was entered from RUNNING (R166). -/
inductive EntryReason
  | mainsLoss
  | resetn
deriving DecidableEq, Repr

/-- The loss record (R166). -/
structure LossRecord where
  time : Stamp
  reason : EntryReason
deriving DecidableEq, Repr

/-- The dark record (R169). -/
structure DarkRecord where
  time : Stamp
  battery : Nat
deriving DecidableEq, Repr

/-- An entry of the battery event list (R168). The last three fields are the model's own: what the record was
before and after the event, which the replayed notice carries (R158, R171; assumption log 15). -/
structure BatteryEvent where
  switch : SwitchId
  position : Position
  time : Stamp
  before : TamperStatus
  count : Nat
  first : Option Stamp
deriving DecidableEq, Repr

/-- The power logic. `fitted` is the model's own: a battery has been fitted to the part before (R40, assumption log
22). -/
structure Power where
  state : PowerState
  stage : Stage
  holdupDone : Bool
  watch : WatchMode
  holdTimer : Nat
  wakeTimer : Nat
  loss : Option LossRecord
  dark : Option DarkRecord
  continuity : Bool
  darkSinceMark : Bool
  events : List BatteryEvent
  overflow : Nat
  spent : Bool
  formatMark : Bool
  checkOk : Bool
  startFactory : Bool
  startMarkAbsent : Bool
  startDark : Option DarkRecord
  fitted : Bool
deriving DecidableEq, Repr

/-! ### Settings record (spec/09 section 9.4) and input pins -/

/-- The settings record's 18 fields, field 18 in two parts. -/
structure Settings where
  creep : Nat
  imbRatio : Nat
  imbMin : Nat
  nominal : Nat
  penalty : Nat
  reverse : Nat
  magnet : Nat
  windowW : Nat
  windowK : Nat
  lowCredit : Nat
  friendlyDebt : Nat
  friendlyStart : Nat
  friendlyEnd : Nat
  weekend : Bool
  tripDelay : Nat
  recloseWait : Nat
  tripLimit : Nat
  idleTimeout : Nat
  holdTime : Nat
deriving DecidableEq, Repr

/-- The levels of the input pins. -/
structure Pins where
  mains : Bool
  resetnHigh : Bool
  battery : Bool
  caseSw : Position
  coverSw : Position
  keys : List Key
deriving DecidableEq, Repr

/-! ### The state -/

/-- The state of the part, and the queue of commands waiting. -/
structure State where
  store : List Host.Cell
  front : FrontEnd
  conv : Converter
  energy : Energy
  clock : Clock
  tariff : TariffUnit
  credit : Credit
  code : CodeUnit
  supply : Supply
  tamper : Tamper
  link : Link
  strip : Strip
  profile : Profile
  power : Power
  settings : Settings
  pins : Pins
  freeCount : Nat
  pending : List Instr
deriving DecidableEq, Repr

/-! ### One named update per block -/

def State.withStore (s : State) (x : List Host.Cell) : State := { s with store := x }
def State.withFront (s : State) (x : FrontEnd) : State := { s with front := x }
def State.withConv (s : State) (x : Converter) : State := { s with conv := x }
def State.withEnergy (s : State) (x : Energy) : State := { s with energy := x }
def State.withClock (s : State) (x : Clock) : State := { s with clock := x }
def State.withTariff (s : State) (x : TariffUnit) : State := { s with tariff := x }
def State.withCredit (s : State) (x : Credit) : State := { s with credit := x }
def State.withCode (s : State) (x : CodeUnit) : State := { s with code := x }
def State.withSupply (s : State) (x : Supply) : State := { s with supply := x }
def State.withTamper (s : State) (x : Tamper) : State := { s with tamper := x }
def State.withLink (s : State) (x : Link) : State := { s with link := x }
def State.withStrip (s : State) (x : Strip) : State := { s with strip := x }
def State.withProfile (s : State) (x : Profile) : State := { s with profile := x }
def State.withPower (s : State) (x : Power) : State := { s with power := x }
def State.withSettings (s : State) (x : Settings) : State := { s with settings := x }
def State.withPins (s : State) (x : Pins) : State := { s with pins := x }
def State.withFreeCount (s : State) (x : Nat) : State := { s with freeCount := x }
def State.withPending (s : State) (x : List Instr) : State := { s with pending := x }

/-! ### First-start values -/

/-- The settings record's defaults (spec/09 section 9.4). -/
def Settings.default : Settings where
  creep := 20
  imbRatio := 12
  imbMin := 200
  nominal := 230
  penalty := 1000
  reverse := 20
  magnet := 600
  windowW := 8
  windowK := 6
  lowCredit := 1000
  friendlyDebt := 5000
  friendlyStart := 0
  friendlyEnd := 0
  weekend := false
  tripDelay := 60
  recloseWait := 300
  tripLimit := 3
  idleTimeout := 30
  holdTime := 10

/-- An aux entry at start-up (R18). -/
def AuxEntry.empty : AuxEntry := ⟨none, false, false⟩

/-- The aux table at start-up, the cycle at LOAD_V (R18). -/
def Converter.empty : Converter :=
  ⟨AuxEntry.empty, AuxEntry.empty, AuxEntry.empty, none, .loadV⟩

/-- A frame in progress with zero elapsed time and empty sums (R4, R18). -/
def Progress.empty : Progress := ⟨0, ⟨0, 0, 0, 0, 0⟩⟩

/-- The front end at start-up (R18). -/
def FrontEnd.startUp : FrontEnd := ⟨false, 0, none, Progress.empty⟩

/-- An accumulator on first start (R34). -/
def Accumulator.zero : Accumulator := ⟨0, 0⟩

/-- A tamper record on first start (R162). -/
def TamperRecord.factory : TamperRecord := ⟨.clear, none, none, 0, false⟩

/-- The eight records on first start (R162). -/
def TamperRecords.factory : TamperRecords :=
  ⟨TamperRecord.factory, TamperRecord.factory, TamperRecord.factory, TamperRecord.factory,
   TamperRecord.factory, TamperRecord.factory, TamperRecord.factory, TamperRecord.factory⟩

/-- The windows at start-up (R146). -/
def Windows.empty : Windows := ⟨[], [], [], [], []⟩

/-- The link port at start-up and at link reset (R190); ACONF 0x015555 (R202). -/
def Link.empty : Link where
  waiting := []
  collision := none
  latched := 0
  seen := 0
  qual := 0
  aconf := 0x015555#24
  attnPulse := false
  dataOut := []

/-- The credit unit on first start (R82). -/
def Credit.factory : Credit where
  balance := 0
  debitRem := 0
  writtenOff := 0
  emergencyAmount := 0
  emergency := .off
  state := .exhausted
  friendly := false

/-- The code unit's volatile items at start-up (R111), over its retained ones. -/
def CodeUnit.volatileReset (c : CodeUnit) : CodeUnit :=
  { c with line := [], held := false, waitingSub := false, keysDown := [], lockout := false,
           idle := 0, scanning := false, decoder := .idle }

/-- The code unit on first start (R101, R103, R108, R111). -/
def CodeUnit.factory : CodeUnit where
  line := []
  held := false
  waitingSub := false
  keysDown := []
  lockout := false
  idle := 0
  scanning := false
  decoder := .idle
  accepted := []
  failCount := 0
  lock := 0
  key := 0
  keySet := false

/-- The supply controller on first start (R135). -/
def Supply.factory : Supply where
  causes := ⟨false, false, true, false⟩
  machine := .opened
  unverified := false
  attempt := none
  coil := none
  retry := 0
  limit := 0
  overCount := 0
  overload := .none
  trips := []

/-- The tariff unit on first start (R62). -/
def TariffUnit.factory : TariffUnit := ⟨none, none, none, 0, none, none⟩

/-- The energy register block on first start (R34, R37, R38). -/
def Energy.factory : Energy where
  billed := Accumulator.zero
  phaseFwd := Accumulator.zero
  phaseRev := Accumulator.zero
  neutral := Accumulator.zero
  power := 0
  basis := .none
  clamp := false
  backlog := 0
  pulse := .idle

/-- The profile channel on first start (R195). -/
def Profile.factory : Profile := ⟨none, 0, none, none⟩

/-- The part that has never run, before the first connection of mains (R164): retained items at their first-start
values, the format mark absent (R170), nothing powered. Values the spec does not state: assumption logs 1, 9, 31, 32, 33. -/
def State.reset : State where
  store := []
  front := FrontEnd.startUp
  conv := Converter.empty
  energy := Energy.factory
  clock := ⟨0, false, false, none⟩
  tariff := TariffUnit.factory
  credit := Credit.factory
  code := CodeUnit.factory
  supply := Supply.factory
  tamper := ⟨TamperRecords.factory, Windows.empty, none, none⟩
  link := Link.empty
  strip := ⟨0, 0⟩
  profile := Profile.factory
  power :=
    { state := .dark, stage := .begun, holdupDone := false, watch := .awake, holdTimer := 0, wakeTimer := 0,
      loss := none, dark := none, continuity := false, darkSinceMark := false, events := [], overflow := 0,
      spent := false, formatMark := false, checkOk := false, startFactory := false,
      startMarkAbsent := false, startDark := none, fitted := false }
  settings := Settings.default
  pins := ⟨false, true, false, .closed, .closed, []⟩
  freeCount := 0
  pending := []

end Sys2Proof.Machine
end

