-- ==== Sys2Proof/Machine/Codes.lean ====
section
/-! DEFINITION. The number a name is stored as (R202): the tables of spec/11 section 11.1, and otherwise the name's
position, counting from 0, in its defining rule's list. -/

namespace Sys2Proof.Machine

/-- Slip states (R178, R202). -/
inductive SlipState
  | free
  | posted
  | taken
  | done
deriving DecidableEq, Repr

/-- The state a slip's state byte holds. The byte only ever holds 0 to 3 (R178). -/
def SlipState.ofByte (b : Byte) : SlipState :=
  match b.toNat with
  | 0 => .free
  | 1 => .posted
  | 2 => .taken
  | _ => .done

def SlipState.code : SlipState → Nat
  | .free => 0
  | .posted => 1
  | .taken => 2
  | .done => 3

/-- Outcomes and refusal reasons (R202); `ok` is ACCEPTED too. -/
inductive Verdict
  | none
  | ok
  | okClamped
  | badKind
  | badArgument
  | badTariff
  | keyLocked
  | badDigits
  | badFormat
  | noKey
  | locked
  | badCheck
  | badClass
  | used
  | stale
  | badValue
  | overCap
  | confirmed
  | nothingToConfirm
  | taken
  | notOffered
  | badLength
deriving DecidableEq, Repr

def Verdict.code : Verdict → Nat
  | .none => 0
  | .ok => 1
  | .okClamped => 2
  | .badKind => 3
  | .badArgument => 4
  | .badTariff => 5
  | .keyLocked => 6
  | .badDigits => 7
  | .badFormat => 8
  | .noKey => 9
  | .locked => 10
  | .badCheck => 11
  | .badClass => 12
  | .used => 13
  | .stale => 14
  | .badValue => 15
  | .overCap => 16
  | .confirmed => 17
  | .nothingToConfirm => 18
  | .taken => 19
  | .notOffered => 20
  | .badLength => 21

/-- Notice kinds, in the order of the table of R193 (R202). -/
inductive NoticeKind
  | tamperOn
  | tamperOff
  | tamperCleared
  | supply
  | relayFault
  | overloadTrip
  | creditState
  | emergencyTaken
  | codeKeypad
  | codeRemote
  | tariffActive
  | clockStep
  | powerBack
  | watchLost
  | batteryLow
  | profileFull
deriving DecidableEq, Repr

def NoticeKind.code : NoticeKind → Nat
  | .tamperOn => 1
  | .tamperOff => 2
  | .tamperCleared => 3
  | .supply => 4
  | .relayFault => 5
  | .overloadTrip => 6
  | .creditState => 7
  | .emergencyTaken => 8
  | .codeKeypad => 9
  | .codeRemote => 10
  | .tariffActive => 11
  | .clockStep => 12
  | .powerBack => 13
  | .watchLost => 14
  | .batteryLow => 15
  | .profileFull => 16

/-- Attention causes (R186), by their bit of APEND (R202). -/
inductive AttnCause
  | slipDone
  | notice
  | collision
  | start
  | tamper
  | supply
  | credit
  | keypad
  | profile
deriving DecidableEq, Repr

def AttnCause.bit : AttnCause → Nat
  | .slipDone => 0
  | .notice => 1
  | .collision => 2
  | .start => 3
  | .tamper => 4
  | .supply => 5
  | .credit => 6
  | .keypad => 7
  | .profile => 8

/-- Credit triggers, in the order of R72. -/
inductive CreditTrigger
  | energy
  | daily
  | codeCredit
  | codeEmergency
  | reset
  | emergency
  | settings
  | clockSet
  | minute
  | start
deriving DecidableEq, Repr

def CreditTrigger.code : CreditTrigger → Nat
  | .energy => 0
  | .daily => 1
  | .codeCredit => 2
  | .codeEmergency => 3
  | .reset => 4
  | .emergency => 5
  | .settings => 6
  | .clockSet => 7
  | .minute => 8
  | .start => 9

/-- Supply triggers, in the order of R125. -/
inductive SupplyTrigger
  | cause
  | confirm
  | verified
  | pulseEnd
  | fault
  | loadDead
  | retry
  | start
deriving DecidableEq, Repr

def SupplyTrigger.code : SupplyTrigger → Nat
  | .cause => 0
  | .confirm => 1
  | .verified => 2
  | .pulseEnd => 3
  | .fault => 4
  | .loadDead => 5
  | .retry => 6
  | .start => 7

/-- Clock-set classes (R46, R202). -/
inductive ClockClass
  | firstSet
  | trim
  | forward
  | backward
  | calendarEnd
deriving DecidableEq, Repr

def ClockClass.code : ClockClass → Nat
  | .firstSet => 0
  | .trim => 1
  | .forward => 2
  | .backward => 3
  | .calendarEnd => 4

def CreditState.code : CreditState → Nat
  | .normal => 0
  | .low => 1
  | .held => 2
  | .exhausted => 3

def Emergency.code : Emergency → Nat
  | .off => 0
  | .offered => 1
  | .taken => 2

def MachineState.code : MachineState → Nat
  | .closed => 0
  | .opening => 1
  | .opened => 2
  | .awaitConfirm => 3
  | .closing => 4
  | .stuckClosed => 5
  | .stuckOpen => 6

def TamperKind.code : TamperKind → Nat
  | .caseOpen => 0
  | .cover => 1
  | .magnet => 2
  | .imbalance => 3
  | .reverse => 4
  | .noVoltage => 5
  | .bypass => 6
  | .clockBack => 7

def TamperStatus.code : TamperStatus → Nat
  | .clear => 0
  | .active => 1
  | .latched => 2

def Basis.code : Basis → Nat
  | .none => 0
  | .line => 1
  | .neutral => 2
  | .magnet => 3
  | .noVoltage => 4

def Direction.code : Direction → Nat
  | .toOpen => 0
  | .toClose => 1

/-- Overload states, in the order of R131. -/
def Overload.code : Overload → Nat
  | .none => 0
  | .waiting _ => 1
  | .latched => 2

/-- Decoder states, in the order of R93. -/
def Decoder.code : Decoder → Nat
  | .idle => 0
  | .decoding _ _ => 1
  | .keying _ _ _ => 2

/-- A cause's rank (R112). -/
def Cause.rank : Cause → Nat
  | .tamper => 4
  | .order => 3
  | .credit => 2
  | .overload => 1

/-- A cause set in one byte: the cause of rank r in bit r − 1 (R202). -/
def Causes.byte (c : Causes) : Byte := flagsByte [c.overload, c.credit, c.order, c.tamper]

/-- The reason as its rank, NONE as 0 (R112, R202). -/
def Causes.reason (c : Causes) : Nat :=
  if c.tamper then Cause.tamper.rank
  else if c.order then Cause.order.rank
  else if c.credit then Cause.credit.rank
  else if c.overload then Cause.overload.rank
  else 0

/-- How far start-up has come, as a number of steps (R170). -/
def Stage.num : Stage → Nat
  | .begun => 0
  | .checked => 1
  | .cleared => 2
  | .replayed => 3
  | .recomputed => 4
  | .running => 6

/-- The tamper kinds in the kind order (R137). -/
def TamperKind.all : List TamperKind :=
  [.caseOpen, .cover, .magnet, .imbalance, .reverse, .noVoltage, .bypass, .clockBack]

/-- The frame-judged kinds in the kind order (R137, R146). -/
def FrameKind.all : List FrameKind := [.magnet, .imbalance, .reverse, .noVoltage, .bypass]

/-- The tamper kind a frame kind is. -/
def FrameKind.kind : FrameKind → TamperKind
  | .magnet => .magnet
  | .imbalance => .imbalance
  | .reverse => .reverse
  | .noVoltage => .noVoltage
  | .bypass => .bypass

/-- The tamper kind of a switch (R137). -/
def switchKind : SwitchId → TamperKind
  | .caseSw => .caseOpen
  | .coverSw => .cover

end Sys2Proof.Machine
end

