-- ==== Sys2Proof/Machine/Ops.lean ====
section
/-! DEFINITION. The common store (R176) and the named operations on it: reading and writing a byte, keeping the
canonical form, the slips' places, and what the power state and stage allow. A block has no exception entry. -/

namespace Sys2Proof.Machine

/-! ### Memory -/

/-- The byte at `a`; an unlisted byte reads 0 (R171, R189). -/
def readCell : List Host.Cell → Nat → Byte
  | [], _ => 0
  | (k, v) :: t, a => if k = a then v else readCell t a

/-- The list without any entry for `a`. -/
def eraseCell : List Host.Cell → Nat → List Host.Cell
  | [], _ => []
  | (k, v) :: t, a => if k = a then eraseCell t a else (k, v) :: eraseCell t a

/-- An entry put in its place in the rising order. -/
def insertCell : List Host.Cell → Nat → Byte → List Host.Cell
  | [], a, b => [(a, b)]
  | (k, v) :: t, a, b => if a < k then (a, b) :: (k, v) :: t else (k, v) :: insertCell t a b

/-- One byte written. Writing 0, which an unlisted byte reads as, removes the entry. -/
def writeCell (m : List Host.Cell) (a : Nat) (b : Byte) : List Host.Cell :=
  if b = 0 then eraseCell m a else insertCell (eraseCell m a) a b

/-- Bytes written from `a` upward. -/
def writeCells : List Host.Cell → Nat → List Byte → List Host.Cell
  | m, _, [] => m
  | m, a, b :: bs => writeCells (writeCell m a b) (a + 1) bs

/-- `n` bytes read from `a` upward. -/
def readCells (m : List Host.Cell) : Nat → Nat → List Byte
  | _, 0 => []
  | a, n + 1 => readCell m a :: readCells m (a + 1) n

/-- The canonical form: addresses strictly rising, no entry 0. -/
def Memory.wf : List Host.Cell → Bool
  | [] => true
  | (k, v) :: t =>
    decide (v ≠ 0) && (match t with
      | [] => true
      | (k', _) :: _ => decide (k < k')) && Memory.wf t

/-! ### What the power state and the stage allow -/

/-- RUNNING: LSTAT reads RUNNING (R185). -/
def isRunning (s : State) : Bool :=
  decide (s.power.state = .mains) && decide (s.power.stage = .running)

/-- The link port answers and the store runs: MAINS from step 2 of start-up (R164, R171, R185). -/
def linkUp (s : State) : Bool :=
  decide (s.power.state = .mains) && decide (2 ≤ s.power.stage.num)

/-- MAINS from step 3 of start-up: running mains operation for switch events (R141, R144). -/
def mainsOperation (s : State) : Bool :=
  decide (s.power.state = .mains) && decide (3 ≤ s.power.stage.num)

/-- The tamper lamp is driven: MAINS from step 4 of start-up (R157). -/
def lampDriven (s : State) : Bool :=
  decide (s.power.state = .mains) && decide (4 ≤ s.power.stage.num)

/-! ### Bytes of the store -/

/-- The store byte at `a`. -/
def peek (s : State) (a : Nat) : Byte := readCell s.store a

/-- `n` store bytes from `a`. -/
def peekBytes (s : State) (a n : Nat) : List Byte := readCells s.store a n

/-- A little-endian field of `n` bytes at `a`. -/
def peekNat (s : State) (a n : Nat) : Nat := leNat (peekBytes s a n)

/-- The part writes bytes from `a`; while the store does not run, nothing is written (R164, R191). -/
def poke (a : Nat) (bs : List Byte) (s : State) : State :=
  if linkUp s then s.withStore (writeCells s.store a bs) else s

/-! ### Slips (R176, R178, spec/11 section 11.4) -/

/-- The first byte of slip `n` (R176). -/
def slipBase (n : Fin 16) : Nat := 0x200 + 64 * n.val

/-- Slip `n`'s state. -/
def slipState (s : State) (n : Fin 16) : SlipState := SlipState.ofByte (peek s (slipBase n))

/-- Slip `n`'s kind value. -/
def slipKind (s : State) (n : Fin 16) : Nat := (peek s (slipBase n + 1)).toNat

/-- An argument field of slip `n`: `k` bytes at offset `off`. -/
def slipArg (s : State) (n : Fin 16) (off k : Nat) : Nat := peekNat s (slipBase n + off) k

/-- The sixteen slips. -/
def allSlips : List (Fin 16) := List.finRange 16

/-- The read index (R191): the store byte 0x100. -/
def readIndex (s : State) : Nat := (peek s 0x100).toNat

/-- How many notices are unread: (write index − read index) mod 32 (R191). -/
def unread (s : State) : Nat := (s.strip.writeIndex + 256 - readIndex s) % 32

/-- The clock as it reads now, with its validity. -/
def now (s : State) : Stamp := ⟨s.clock.count, s.clock.valid⟩

end Sys2Proof.Machine
end

