-- ==== Sys2Proof/Machine/Choice.lean ====
section
/-! DEFINITION. One event taken by several blocks in an order the rules leave open (R6, R74, R113, R191): every order is
made, and where they differ a free value chooses (assumption logs 11, 12, 14). -/

namespace Sys2Proof.Machine

/-- A list with `x` put in at each place. -/
def insertions {α : Type} (x : α) : List α → List (List α)
  | [] => [[x]]
  | y :: ys => (x :: y :: ys) :: (insertions x ys).map (y :: ·)

/-- The orders of a list. -/
def orders {α : Type} : List α → List (List α)
  | [] => [[]]
  | x :: xs => (orders xs).flatMap (insertions x)

/-- The works done one after another, first to last. -/
def runAll (works : List (State → State)) (s : State) : State := works.foldl (fun s w => w s) s

/-- The result where all orders agree; where they do not, the one a free value names, and the choice is counted. -/
def freePick (results : List State) (s : State) : State :=
  match results with
  | [] => s
  | r :: rs =>
    if rs.all (fun x => decide (x = r)) then r
    else ((r :: rs).getD (Config.freeOrder s.freeCount % (rs.length + 1)) r).withFreeCount (s.freeCount + 1)

/-- The works taken in any order (R74, R113, R191). -/
def inAnyOrder (works : List (State → State)) (s : State) : State :=
  freePick ((orders works).map fun o => runAll o s) s

end Sys2Proof.Machine
end

