-- ==== Sys2Proof/Machine/Converter.lean ====
section
/-! DEFINITION. The auxiliary converter (R10 to R18): the aux table, its taking at a frame close, and its conduct around
coil pulses and power events. -/

namespace Sys2Proof.Machine

/-- The order of the cycle (R11). -/
def Channel.succ : Channel → Channel
  | .loadV => .magnet
  | .magnet => .battery
  | .battery => .loadV

/-- The top of a channel's range (R10). -/
def Channel.top : Channel → Nat
  | .loadV => 3000
  | .magnet => 1023
  | .battery => 4095

/-- A channel's entry. -/
def Converter.get (c : Converter) : Channel → AuxEntry
  | .loadV => c.loadV
  | .magnet => c.magnet
  | .battery => c.battery

/-- The table with one entry replaced. -/
def Converter.set (c : Converter) (ch : Channel) (e : AuxEntry) : Converter :=
  match ch with
  | .loadV => { c with loadV := e }
  | .magnet => { c with magnet := e }
  | .battery => { c with battery := e }

/-- A conversion begins on channel `ch` (R11). -/
def Converter.start (c : Converter) (ch : Channel) : Converter := { c with inFlight := some ch, next := ch }

/-- The entry after a completion: discarded where settling is owed (R16), else saturated, written and fresh (R10, R11). -/
def AuxEntry.complete (e : AuxEntry) (ch : Channel) (v : Nat) : AuxEntry :=
  if e.settle then { e with settle := false } else { e with value := some (min v ch.top), fresh := true }

/-- A channel's fresh mark is cleared by a taking (R10, R14). -/
def AuxEntry.taken (e : AuxEntry) : AuxEntry := { e with fresh := false }

/-- The copy a frame's aux reading carries (R12, R13). -/
def AuxEntry.sample (e : AuxEntry) : AuxSample := ⟨e.value, e.fresh && e.value.isSome⟩

/-- A frame close takes all three channels (R12). -/
def Converter.takeAll (c : Converter) : Converter :=
  { c with loadV := c.loadV.taken, magnet := c.magnet.taken, battery := c.battery.taken }

/-- A coil pulse begins: fresh marks clear, settling owed, the conversion in flight aborted and remembered (R15). -/
def AuxEntry.disturbed (e : AuxEntry) : AuxEntry := { e with fresh := false, settle := true }

def Converter.pulseBegins (c : Converter) : Converter where
  loadV := c.loadV.disturbed
  magnet := c.magnet.disturbed
  battery := c.battery.disturbed
  inFlight := none
  next := c.inFlight.getD c.next

/-- A coil pulse ends in MAINS: the cycle resumes at the channel remembered (R16). -/
def Converter.pulseEnds (c : Converter) : Converter := c.start c.next

/-- Entry to HOLDUP: the conversion in flight is abandoned (R17). -/
def Converter.abandon (c : Converter) : Converter := { c with inFlight := none }

/-- Start-up: the table cleared, the cycle beginning at LOAD_V (R18). -/
def Converter.startUp : Converter := Converter.empty.start .loadV

end Sys2Proof.Machine
end

