-- ==== Sys2Proof/Machine/Flags.lean ====
section
/-! DEFINITION. The attention causes, the qualifying set and the ATTN line (R186, R187, R188), and the collision
flag (R177): every flag the link port computes. -/

namespace Sys2Proof.Machine

/-- A set of attention causes holding one cause. -/
def AttnCause.mask (c : AttnCause) : BitVec 9 := BitVec.ofNat 9 (2 ^ c.bit)

/-- At least one slip is DONE (R186). -/
def anySlipDone (s : State) : Bool := allSlips.any fun n => decide (slipState s n = .done)

/-- The three condition causes as they hold (R186). -/
def conditionCauses (s : State) : BitVec 9 :=
  (if anySlipDone s then AttnCause.slipDone.mask else 0) |||
  (if unread s ≠ 0 then AttnCause.notice.mask else 0) |||
  (if s.link.collision.isSome then AttnCause.collision.mask else 0)

/-- The six latched causes, as a set (R186). -/
def latchedMask : BitVec 9 := 0x1F8#9

/-- The pending causes (R186). -/
def pendingCauses (s : State) : BitVec 9 := conditionCauses s ||| s.link.latched

/-- The level ACONF gives the cause of bit `c` (R202). -/
def aconfLevel (a : BitVec 24) (c : Nat) : Nat := (a.toNat / 2 ^ (2 * c)) % 4

/-- ACONF's threshold (R202). -/
def aconfThreshold (a : BitVec 24) : Nat := (a.toNat / 2 ^ 18) % 4

/-- ACONF's line mode: PULSE or LEVEL (R202). -/
def aconfPulse (a : BitVec 24) : Bool := decide ((a.toNat / 2 ^ 20) % 2 = 1)

/-- The set of causes whose level is above the threshold (R188). -/
def levelMask (a : BitVec 24) : BitVec 9 :=
  BitVec.ofNat 9 (bitsNat ((List.range 9).map fun c => decide (aconfThreshold a < aconfLevel a c)))

/-- The qualifying set (R188). -/
def qualifying (s : State) : BitVec 9 := pendingCauses s &&& levelMask s.link.aconf

/-- The qualifying set is judged anew; in PULSE mode a cause it gains starts a pulse, and a cause that joins
while a pulse runs is covered by it (R188). -/
def attnUpdate (s : State) : State :=
  if linkUp s then
    let q := qualifying s
    let gained := decide (q &&& ~~~s.link.qual ≠ 0)
    let pulse := aconfPulse s.link.aconf && (s.link.attnPulse || gained)
    s.withLink { s.link with qual := q, attnPulse := pulse }
  else s

/-- ATTN is asserted (low): in LEVEL mode while the qualifying set is not empty, in PULSE mode while a pulse
runs; released while the link port is not driven (R164, R188). -/
def attnAsserted (s : State) : Bool :=
  linkUp s && (if aconfPulse s.link.aconf then s.link.attnPulse else decide (s.link.qual ≠ 0))

/-- A latched cause is raised: pending, and out of the seen set (R186, R187). -/
def raise (c : AttnCause) (s : State) : State :=
  if linkUp s then
    attnUpdate (s.withLink { s.link with
      latched := s.link.latched ||| c.mask, seen := s.link.seen &&& ~~~c.mask })
  else s

/-- A collision at byte `a`: the flag is set, and the first address is kept (R177). -/
def collide (a : Nat) (s : State) : State :=
  attnUpdate (s.withLink { s.link with collision := some (s.link.collision.getD a) })

/-- CLEAR_COLLISION: the flag and the address are cleared (R177, R185). -/
def clearCollisionFlag (s : State) : State :=
  attnUpdate (s.withLink { s.link with collision := none })

/-- A slip is completed: every result field and the outcome, and then the state byte DONE (R179). `result` fills
bytes 28 to 63; result bytes a kind does not write read 0 (R181, R202). Byte 3, which the layout does not use, stays as the
host left it (assumption log 53). -/
def completeSlip (n : Fin 16) (v : Verdict) (result : List Byte) (s : State) : State :=
  attnUpdate
    (poke (slipBase n) [byteOf SlipState.done.code]
      (poke (slipBase n + 2) [byteOf v.code]
        (poke (slipBase n + 28) (padTo 36 result) s)))

/-- The taking of slip `n`: outcome NONE, state TAKEN, off the waiting list (R179). -/
def markTaken (n : Fin 16) (s : State) : State :=
  poke (slipBase n) [byteOf SlipState.taken.code]
    (poke (slipBase n + 2) [byteOf Verdict.none.code]
      (s.withLink { s.link with waiting := s.link.waiting.erase n }))

/-- The lamp is lit while it is driven and any record is not CLEAR (R157). -/
def anyTamper (r : TamperRecords) : Bool :=
  decide (r.caseOpen.status ≠ .clear) || decide (r.cover.status ≠ .clear) ||
  decide (r.magnet.status ≠ .clear) || decide (r.imbalance.status ≠ .clear) ||
  decide (r.reverse.status ≠ .clear) || decide (r.noVoltage.status ≠ .clear) ||
  decide (r.bypass.status ≠ .clear) || decide (r.clockBack.status ≠ .clear)

/-- The tamper lamp output (R157). -/
def lampLit (s : State) : Bool := lampDriven s && anyTamper s.tamper.records

/-! ### The link registers as read (R185, spec/11 section 11.2) -/

/-- LSTAT: link state, collision flag, collision address. -/
def lstatBytes (s : State) : List Byte :=
  flagsByte [isRunning s, s.link.collision.isSome] :: leBytes 2 (s.link.collision.getD 0)

/-- APEND: the pending causes. -/
def apendBytes (s : State) : List Byte := leBytes 2 (pendingCauses s).toNat

/-- ACONF as it stands. -/
def aconfBytes (s : State) : List Byte := leBytes 3 s.link.aconf.toNat

/-- IDENT: part code 0x7110, revision code 0x01. -/
def identBytes : List Byte := leBytes 2 0x7110 ++ [byteOf 0x01]

end Sys2Proof.Machine
end

