-- ==== Sys2Proof/Machine/Calendar.lean ====
section
/-! DEFINITION. The calendar (R43, R44, R59): every value is derived from the count of a VALID clock. -/

namespace Sys2Proof.Machine

/-- 2100-01-01 00:00:00, the end of the calendar (R40, R46). -/
def calendarEnd : Nat := 3155760000

/-- Day index (R43). -/
def dayIndex (t : Nat) : Nat := t / 86400

/-- Weekday, 0 = Monday (R43). -/
def weekday (t : Nat) : Nat := (dayIndex t + 5) % 7

/-- Day type: WEEKEND or not (R43). -/
def isWeekend (t : Nat) : Bool := decide (5 ≤ weekday t)

/-- Minute of day (R43). -/
def minuteOfDay (t : Nat) : Nat := (t % 86400) / 60

/-- Within a group of four years: the whole years passed and the days left in the year (R44). -/
def yearInGroup (r : Nat) : Nat × Nat :=
  if r < 366 then (0, r) else (1 + (r - 366) / 365, (r - 366) % 365)

/-- The month, counting from `m`, and the days left in it (R44). -/
def monthFrom : List Nat → Nat → Nat → Nat × Nat
  | [], m, r => (m, r)
  | len :: rest, m, r => if r < len then (m, r) else monthFrom rest (m + 1) (r - len)

/-- The month lengths of a year (R44). -/
def monthLengths (leap : Bool) : List Nat :=
  [31, if leap then 29 else 28, 31, 30, 31, 30, 31, 31, 30, 31, 30, 31]

/-- A date: years since 2000, month 1 to 12, day of month (R44). -/
structure Date where
  year : Nat
  month : Nat
  day : Nat
deriving DecidableEq, Repr

/-- The date of a VALID time (R44). -/
def dateOf (t : Nat) : Date :=
  let d := dayIndex t
  let y := yearInGroup (d % 1461)
  let m := monthFrom (monthLengths (decide (y.1 = 0))) 1 y.2
  ⟨4 * (d / 1461) + y.1, m.1, m.2 + 1⟩

/-- The period index of a VALID time under period start day `r` (R59). -/
def periodIndexOf (r t : Nat) : Int :=
  let d := dateOf t
  (d.year * 12 + (d.month - 1) : Nat) - (if d.day < r then 1 else 0)

/-- Whether minute `m` lies in the daily window from `a` to `e` (R75). -/
def inDailyWindow (a e m : Nat) : Bool :=
  if a < e then decide (a ≤ m ∧ m < e)
  else if e < a then decide (a ≤ m ∨ m < e)
  else false

/-- Whether a friendly window applies at the present minute (R75). -/
def friendlyApplies (c : Clock) (g : Settings) : Bool :=
  c.valid && (inDailyWindow g.friendlyStart g.friendlyEnd (minuteOfDay c.count) ||
    (g.weekend && isWeekend c.count))

end Sys2Proof.Machine
end

