-- ==== Sys2Proof/Machine/Operands.lean ====
section
/-! DEFINITION. Every operand form: places in the open area, the code characters (R96), the tariff image (R49, R51)
and the settings image (R182, R183, spec/11 section 11.6). -/

namespace Sys2Proof.Machine

/-! ### Places in the store -/

/-- The `n` bytes from `off` lie wholly within the open area, 0x800 to 0xFFF (R176). -/
def inOpenArea (off n : Nat) : Bool := decide (0x800 ≤ off ∧ off + n ≤ 0x1000)

/-- Address `a` is one of the `n` bytes from `off`. -/
def inSpan (off n a : Nat) : Bool := decide (off ≤ a ∧ a < off + n)

/-- Two places share a byte. -/
def overlap (a n b m : Nat) : Bool := decide (0 < n ∧ 0 < m ∧ a < b + m ∧ b < a + n)

/-- The active profile area: offset and length while the remaining count is above 0 (R196). -/
def profileArea (s : State) : Option (Nat × Nat) :=
  match s.profile.desc with
  | some d => if 0 < d.remaining then some (d.offset, 16 * d.capacity) else none
  | none => none

/-- The tariff image area in flight (R50): 96 bytes. -/
def imageArea (s : State) : Option (Nat × Nat) :=
  match s.tariff.load with
  | some l => l.area.map fun a => (a, 96)
  | none => none

/-- The `n` bytes from `off` share a byte with a place. -/
def meets (off n : Nat) : Option (Nat × Nat) → Bool
  | some (a, m) => overlap off n a m
  | none => false

/-- Address `a` lies in a place. -/
def isIn (a : Nat) : Option (Nat × Nat) → Bool
  | some (off, n) => inSpan off n a
  | none => false

/-! ### Code characters (R96) -/

/-- A character's digit: '0' to '9' are 0x30 to 0x39. -/
def digitOf (b : Byte) : Option Nat :=
  if 0x30 ≤ b.toNat ∧ b.toNat ≤ 0x39 then some (b.toNat - 0x30) else none

/-- Every character's digit, or none where one is no digit. -/
def digitsOf : List Byte → Option (List Nat)
  | [] => some []
  | b :: bs =>
    match digitOf b, digitsOf bs with
    | some d, some ds => some (d :: ds)
    | _, _ => none

/-- The decimal number the digits spell, most significant first. -/
def decimal (ds : List Nat) : Nat := ds.foldl (fun n d => 10 * n + d) 0

/-- The characters of an entry line. -/
def lineChars (line : List (Fin 10)) : List Byte := line.map fun d => byteOf (0x30 + d.val)

/-! ### Tariff image (R49, R51, spec/11 section 11.6) -/

/-- A little-endian field of an image. -/
def imageNat (img : List Byte) (off k : Nat) : Nat := leNat ((img.drop off).take k)

/-- What judging a tariff image gives: the record, or the first failing field with its place and "count" mark. -/
inductive TariffVerdict
  | good (t : Tariff)
  | bad (field index : Nat) (count : Bool)
deriving DecidableEq, Repr

/-- The first threshold that is 0 or does not lie above the one before it; `prev` starts at 0 (R49 field 5). -/
def thresholdFault : Nat → Nat → List Nat → Option Nat
  | _, _, [] => none
  | prev, i, v :: vs => if v ≤ prev then some i else thresholdFault v (i + 1) vs

/-- The first switch point outside its valid values: the first minute 0, minutes strictly ascending and at most
1,439, each band below `bands` (R49 field 8). -/
def pointFault (bands : Nat) : Option Nat → Nat → List SwitchPoint → Option Nat
  | _, _, [] => none
  | prev, i, p :: ps =>
    let minuteOk := match prev with
      | none => decide (p.minute = 0)
      | some m => decide (m < p.minute ∧ p.minute ≤ 1439)
    if minuteOk && decide (p.band < bands) then pointFault bands (some p.minute) (i + 1) ps else some i

/-- The three places of thresholds, the first `n` of them. -/
def imageThresholds (img : List Byte) (n : Nat) : List Nat :=
  (List.range n).map fun i => imageNat img (8 + 2 * i) 2

/-- The first `n` of the twelve rates. -/
def imageRates (img : List Byte) (n : Nat) : List Nat :=
  (List.range n).map fun i => imageNat img (15 + 2 * i) 2

/-- `n` switch points of the schedule whose point count stands at `base`. -/
def imagePoints (img : List Byte) (base n : Nat) : List SwitchPoint :=
  (List.range n).map fun i => ⟨imageNat img (base + 1 + 3 * i) 2, imageNat img (base + 3 + 3 * i) 1⟩

/-- A schedule's fault: its place and whether it is the point count. -/
def scheduleFault (img : List Byte) (base bands : Nat) : Option (Nat × Bool) :=
  let n := imageNat img base 1
  if n < 1 ∨ 8 < n then some (0, true)
  else (pointFault bands none 0 (imagePoints img base n)).map fun i => (i, false)

/-- The 96-byte image judged field by field, and within a field in place order (R51). -/
def judgeTariff (img : List Byte) : TariffVerdict :=
  let activation := imageNat img 2 4
  let r := imageNat img 6 1
  let b := imageNat img 7 1
  let n := imageNat img 14 1
  let daily := imageNat img 89 4
  if calendarEnd ≤ activation then .bad 2 0 false
  else if r < 1 ∨ 28 < r then .bad 3 0 false
  else if b < 1 ∨ 4 < b then .bad 4 0 false
  else match thresholdFault 0 0 (imageThresholds img (b - 1)) with
  | some i => .bad 5 i false
  | none =>
    if n < 1 ∨ 3 < n then .bad 6 0 false
    else match scheduleFault img 39 n with
    | some (i, c) => .bad 8 i c
    | none =>
      match scheduleFault img 64 n with
      | some (i, c) => .bad 9 i c
      | none =>
        if 100000 < daily then .bad 10 0 false
        else .good
          { id := imageNat img 0 2, activation := activation, startDay := r, blocks := b,
            thresholds := imageThresholds img (b - 1), bands := n, rates := imageRates img (b * n),
            weekday := imagePoints img 39 (imageNat img 39 1),
            weekend := imagePoints img 64 (imageNat img 64 1), daily := daily }

/-! ### Settings image (R183, spec/11 section 11.6) -/

/-- The image's fields before any clamp. -/
def Settings.ofImage (img : List Byte) : Settings where
  creep := imageNat img 0 2
  imbRatio := imageNat img 2 1
  imbMin := imageNat img 3 2
  nominal := imageNat img 5 2
  penalty := imageNat img 7 2
  reverse := imageNat img 9 2
  magnet := imageNat img 11 2
  windowW := imageNat img 13 1
  windowK := imageNat img 14 1
  lowCredit := imageNat img 15 4
  friendlyDebt := imageNat img 19 4
  friendlyStart := imageNat img 23 2
  friendlyEnd := imageNat img 25 2
  weekend := decide (imageNat img 27 1 ≠ 0)
  tripDelay := imageNat img 28 2
  recloseWait := imageNat img 30 2
  tripLimit := imageNat img 32 1
  idleTimeout := imageNat img 33 1
  holdTime := imageNat img 34 1

/-- The 40 bytes FETCH writes (R182). -/
def Settings.image (g : Settings) : List Byte :=
  padTo 40
    (leBytes 2 g.creep ++ leBytes 1 g.imbRatio ++ leBytes 2 g.imbMin ++ leBytes 2 g.nominal ++
     leBytes 2 g.penalty ++ leBytes 2 g.reverse ++ leBytes 2 g.magnet ++ leBytes 1 g.windowW ++
     leBytes 1 g.windowK ++ leBytes 4 g.lowCredit ++ leBytes 4 g.friendlyDebt ++
     leBytes 2 g.friendlyStart ++ leBytes 2 g.friendlyEnd ++ leBytes 1 g.weekend.toNat ++
     leBytes 2 g.tripDelay ++ leBytes 2 g.recloseWait ++ leBytes 1 g.tripLimit ++
     leBytes 1 g.idleTimeout ++ leBytes 1 g.holdTime)

/-- A value set to the nearest end of its range. -/
def clampTo (lo hi v : Nat) : Nat := if v < lo then lo else if hi < v then hi else v

/-- The first field holding a minute above 1,439, of fields 12 and 13 (R183). -/
def Settings.badMinute (g : Settings) : Option Nat :=
  if 1439 < g.friendlyStart then some 12 else if 1439 < g.friendlyEnd then some 13 else none

/-- Each field set to the nearest end of its range, field 9 against the W this record installs (R183). -/
def Settings.clamped (g : Settings) : Settings :=
  let w := clampTo 1 16 g.windowW
  { g with
    creep := clampTo 5 500 g.creep
    imbRatio := clampTo 3 50 g.imbRatio
    imbMin := clampTo 50 5000 g.imbMin
    nominal := clampTo 100 260 g.nominal
    penalty := clampTo 0 30000 g.penalty
    reverse := clampTo 5 500 g.reverse
    magnet := clampTo 1 1023 g.magnet
    windowW := w
    windowK := clampTo 1 w g.windowK
    lowCredit := clampTo 0 1000000 g.lowCredit
    friendlyDebt := clampTo 0 1000000 g.friendlyDebt
    tripDelay := clampTo 5 600 g.tripDelay
    recloseWait := clampTo 10 3600 g.recloseWait
    tripLimit := clampTo 1 10 g.tripLimit
    idleTimeout := clampTo 5 120 g.idleTimeout
    holdTime := clampTo 1 60 g.holdTime }

/-- Which fields the clamp changed, field f in place f − 1 (R183, spec/11 section 11.4). -/
def Settings.clampMarks (g : Settings) : List Bool :=
  let c := g.clamped
  [decide (c.creep ≠ g.creep), decide (c.imbRatio ≠ g.imbRatio), decide (c.imbMin ≠ g.imbMin),
   decide (c.nominal ≠ g.nominal), decide (c.penalty ≠ g.penalty), decide (c.reverse ≠ g.reverse),
   decide (c.magnet ≠ g.magnet), decide (c.windowW ≠ g.windowW), decide (c.windowK ≠ g.windowK),
   decide (c.lowCredit ≠ g.lowCredit), decide (c.friendlyDebt ≠ g.friendlyDebt), false, false, false,
   decide (c.tripDelay ≠ g.tripDelay), decide (c.recloseWait ≠ g.recloseWait),
   decide (c.tripLimit ≠ g.tripLimit),
   decide (c.idleTimeout ≠ g.idleTimeout) || decide (c.holdTime ≠ g.holdTime)]

end Sys2Proof.Machine
end

