-- ==== Sys2Proof/Machine/Rates.lean ====
section
/-! DEFINITION. The rate of a watt-hour (R56, R57): block from period energy, band from the schedule. -/

namespace Sys2Proof.Machine

/-- The block: 1 plus the number of thresholds whose value × 1,000 is at or below period energy (R56). -/
def blockOf (t : Tariff) (periodEnergy : Nat) : Nat :=
  1 + (t.thresholds.filter fun v => decide (v * 1000 ≤ periodEnergy)).length

/-- The band of the last switch point at or before minute `m` (R57). -/
def bandAt (points : List SwitchPoint) (m : Nat) : Nat :=
  points.foldl (fun b p => if p.minute ≤ m then p.band else b) 0

/-- The band at the clock as it reads: band 0 while it is INVALID (R57). -/
def bandOf (t : Tariff) (c : Clock) : Nat :=
  if c.valid then bandAt (if isWeekend c.count then t.weekend else t.weekday) (minuteOfDay c.count) else 0

/-- The rate at place (block − 1) × N + band of field 7 (R57). -/
def rateAt (t : Tariff) (block band : Nat) : Nat := t.rates.getD ((block - 1) * t.bands + band) 0

/-- The rate of the next watt-hour; 0 with no tariff active (R57). -/
def unitRate (t : TariffUnit) (c : Clock) : Nat :=
  match t.active with
  | some a => rateAt a (blockOf a t.periodEnergy) (bandOf a c)
  | none => 0

end Sys2Proof.Machine
end

