-- ==== Sys2Proof/Machine/Page.lean ====
section
/-! DEFINITION. The status page (spec/11 section 11.3): one writer per group of fields. Each block calls the writer
of the fields it changed (R9, R38, R45, R58, R62, R84, R111, R136, R163, R191, R199). While the store does not run,
`poke` writes nothing. -/

namespace Sys2Proof.Machine

/-- An optional number in `n` bytes, 0 while absent (R202). -/
def optBytes (n : Nat) (v : Option Nat) : List Byte := leBytes n (v.getD 0)

/-- The count of an optional time, 0 while absent (R202). -/
def stampBytes (t : Option Stamp) : List Byte := leBytes 4 ((t.map Stamp.count).getD 0)

/-- A stamp that is present holds a VALID time. -/
def stampValid (t : Option Stamp) : Bool := (t.map Stamp.valid).getD false

/-- 0x00 to 0x1C: the closed frame and its aux reading (R9); before any frame the fields read 0 and "no value". -/
def frameBytes (f : Option Frame) : List Byte :=
  match f with
  | none => leBytes 22 0 ++ [byteOf 0x70] ++ leBytes 6 0
  | some f =>
    leBytes 4 f.seq ++ leBytes 2 f.v ++ leBytes 2 f.duration ++ leBytes 3 f.iL ++ leBytes 3 f.iN ++
    leInt 4 f.pL ++ leInt 4 f.pN ++
    [flagsByte [f.overRange, f.loadV.fresh, f.magnet.fresh, f.battery.fresh,
      f.loadV.value.isNone, f.magnet.value.isNone, f.battery.value.isNone]] ++
    optBytes 2 f.loadV.value ++ optBytes 2 f.magnet.value ++ optBytes 2 f.battery.value

def pageFrame (s : State) : State := poke 0x00 (frameBytes s.front.last) s

/-- An accumulator: a 4-byte count then a 3-byte remainder. -/
def accumulatorBytes (a : Accumulator) : List Byte := leBytes 4 a.wh ++ leBytes 3 a.rem

/-- 0x1D to 0x3D: the accumulators, billed power, basis and clamp mark (R38). -/
def energyBytes (e : Energy) : List Byte :=
  accumulatorBytes e.billed ++ accumulatorBytes e.phaseFwd ++ accumulatorBytes e.phaseRev ++
  accumulatorBytes e.neutral ++ leBytes 4 e.power ++ [byteOf (e.basis.code + 128 * e.clamp.toNat)]

/-- 0x3E: the test-pulse backlog, written at each pulse beginning too (R38). -/
def pageBacklog (s : State) : State := poke 0x3E [byteOf s.energy.backlog] s

def pageEnergy (s : State) : State := pageBacklog (poke 0x1D (energyBytes s.energy) s)

/-- 0x3F to 0x42 and bit 0 of 0x43: the count and the validity (R45). -/
def pageClock (s : State) : State :=
  poke 0x3F (leBytes 4 s.clock.count ++
    [byteOf (2 * ((peek s 0x43).toNat / 2) + s.clock.valid.toNat)]) s

/-- 0x43 to 0x48: the derived values, 0 while the clock is INVALID (R45). -/
def calendarBytes (c : Clock) : List Byte :=
  if c.valid then
    let d := dateOf c.count
    [byteOf (1 + 2 * weekday c.count + 16 * (isWeekend c.count).toNat), byteOf d.year, byteOf d.month,
     byteOf d.day] ++ leBytes 2 (minuteOfDay c.count)
  else leBytes 6 0

def pageCalendar (s : State) : State := poke 0x43 (calendarBytes s.clock) s

/-- 0x49 and 0x4B to 0x5A: the tariff unit's items (R62). -/
def tariffBytes (t : TariffUnit) : List Byte :=
  optBytes 2 (t.active.map Tariff.id) ++ optBytes 2 (t.pending.map Tariff.id) ++
  optBytes 4 (t.pending.map Tariff.activation) ++ leInt 2 (t.periodIndex.getD 0) ++
  leBytes 4 t.periodEnergy ++ optBytes 2 t.chargedDay

def pageTariff (s : State) : State :=
  poke 0x4B (tariffBytes s.tariff)
    (poke 0x49 [flagsByte [s.tariff.active.isSome, s.tariff.pending.isSome, s.tariff.periodIndex.isSome,
      s.tariff.chargedDay.isSome]] s)

/-- 0x4A: the block and band the next watt-hour would take at the present minute, 0 with no tariff active (R58); written
wherever they change (R62), the minute too. -/
def blockBandByte (t : TariffUnit) (c : Clock) : Byte :=
  match t.active with
  | some a => byteOf (blockOf a t.periodEnergy + 16 * bandOf a c)
  | none => 0

def pageBlockBand (s : State) : State := poke 0x4A [blockBandByte s.tariff s.clock] s

/-- The disconnect level L (R70). -/
def Credit.level (c : Credit) : Int := if c.emergency = .taken then -(c.emergencyAmount : Int) else 0

/-- 0x5B to 0x6B: the credit unit's items (R84). -/
def creditBytes (c : Credit) : List Byte :=
  [byteOf (c.state.code + 4 * c.emergency.code + 16 * c.friendly.toNat)] ++ leInt 4 c.balance ++
  leBytes 2 c.debitRem ++ leBytes 4 c.writtenOff ++ leBytes 3 c.emergencyAmount ++ leInt 3 c.level

def pageCredit (s : State) : State := poke 0x5B (creditBytes s.credit) s

/-- Two digits per byte, the first in the high half. -/
def packDigits : List (Fin 10) → List Byte
  | [] => []
  | [d] => [byteOf (16 * d.val)]
  | d :: e :: ds => byteOf (16 * d.val + e.val) :: packDigits ds

/-- 0x6C to 0x76: the entry line (R87). -/
def entryBytes (line : List (Fin 10)) : List Byte := byteOf line.length :: padTo 10 (packDigits line)

def pageEntry (s : State) : State := poke 0x6C (entryBytes s.code.line) s

/-- The source KEYPAD is shown while the decoder is DECODING a keypad submission (R111). -/
def Decoder.fromKeypad : Decoder → Bool
  | .decoding .keypad _ => true
  | _ => false

/-- The slip being decoded, 0 where there is none (R111); a slip that a link reset has freed is still shown (assumption log
18). -/
def Decoder.slipNumber : Decoder → Nat
  | .decoding (.slip n _) _ => n.val
  | _ => 0

/-- 0x77 to 0x82: decoder, hold, key state, count, lock, accepted list (R101, R111). -/
def codeBytes (c : CodeUnit) : List Byte :=
  [byteOf (c.decoder.code + 4 * c.decoder.fromKeypad.toNat + 8 * c.held.toNat + 16 * c.keySet.toNat),
   byteOf c.decoder.slipNumber, byteOf c.failCount] ++ leBytes 2 c.lock ++ [byteOf c.accepted.length] ++
  optBytes 3 c.accepted.head? ++ optBytes 3 c.accepted.getLast?

def pageCode (s : State) : State := poke 0x77 (codeBytes s.code) s

/-- 0x85: pulse number, phase VERIFY, extensions; 0 with no attempt (R136). -/
def attemptByte (a : Option Attempt) : Byte :=
  match a with
  | some a => byteOf (a.pulse + 4 * (decide (a.phase = .verify)).toNat + 16 * a.extensions)
  | none => 0

/-- The reclose wait's remaining seconds, 0 outside WAITING (R136). -/
def Overload.remaining : Overload → Nat
  | .waiting r => r
  | _ => 0

/-- 0x83 to 0x92: the supply controller's items (R136). -/
def supplyBytes (p : Supply) : List Byte :=
  [byteOf (p.machine.code + 16 * p.causes.reason), p.causes.byte, attemptByte p.attempt] ++
  leBytes 2 p.retry ++ leBytes 2 p.limit ++ leBytes 2 p.overCount ++
  [byteOf (p.overload.code + 16 * p.trips.length)] ++ leBytes 2 p.overload.remaining ++
  optBytes 4 p.trips.getLast?

def pageSupply (s : State) : State := poke 0x83 (supplyBytes s.supply) s

/-- The record of a kind. -/
def TamperRecords.get (r : TamperRecords) : TamperKind → TamperRecord
  | .caseOpen => r.caseOpen
  | .cover => r.cover
  | .magnet => r.magnet
  | .imbalance => r.imbalance
  | .reverse => r.reverse
  | .noVoltage => r.noVoltage
  | .bypass => r.bypass
  | .clockBack => r.clockBack

/-- The records with one kind's replaced. -/
def TamperRecords.set (r : TamperRecords) (k : TamperKind) (x : TamperRecord) : TamperRecords :=
  match k with
  | .caseOpen => { r with caseOpen := x }
  | .cover => { r with cover := x }
  | .magnet => { r with magnet := x }
  | .imbalance => { r with imbalance := x }
  | .reverse => { r with reverse := x }
  | .noVoltage => { r with noVoltage := x }
  | .bypass => { r with bypass := x }
  | .clockBack => { r with clockBack := x }

/-- A tamper record's 11 bytes. -/
def recordBytes (r : TamperRecord) : List Byte :=
  [byteOf (r.status.code + 4 * bitsNat [r.first.isSome, stampValid r.first, r.last.isSome,
    stampValid r.last, r.onBattery])] ++ leBytes 2 r.count ++ stampBytes r.first ++ stampBytes r.last

/-- The record of kind n at 0x93 + 11 × n, written when it changes (R163). -/
def pageRecord (k : TamperKind) (s : State) : State :=
  poke (0x93 + 11 * k.code) (recordBytes (s.tamper.records.get k)) s

/-- A window's number of results held and of TRUE results. -/
def windowBytes (w : List Bool) : List Byte := [byteOf w.length, byteOf (w.filter id).length]

/-- 0xEB to 0xF4: the windows, written after each frame (R163). -/
def pageWindows (s : State) : State :=
  let w := s.tamper.windows
  poke 0xEB (windowBytes w.magnet ++ windowBytes w.imbalance ++ windowBytes w.reverse ++
    windowBytes w.noVoltage ++ windowBytes w.bypass) s

/-- A settled position reads OPEN. -/
def readsOpen (p : Option Position) : Bool := decide (p = some .opened)

/-- 0xF5: the settled positions and the lamp (R157, R163). -/
def pageSwitches (s : State) : State :=
  poke 0xF5 [flagsByte [readsOpen s.tamper.caseSettled, readsOpen s.tamper.coverSettled, lampLit s]] s

/-- Bit 2 of 0xF5: the lamp alone, where a record changes without a switch event (R157). -/
def pageLamp (s : State) : State :=
  let b := (peek s 0xF5).toNat
  poke 0xF5 [byteOf (b % 4 + 4 * (lampLit s).toNat)] s

/-- 0xF6 to 0xF8: strip write index and dropped count (R191). -/
def pageStrip (s : State) : State :=
  poke 0xF6 (byteOf s.strip.writeIndex :: leBytes 2 s.strip.dropped) s

/-- 0xF9 to 0xFC: next slot, remaining count, unrecorded count (R199). -/
def profileBytes (p : Profile) : List Byte :=
  [byteOf ((p.desc.map Descriptor.nextSlot).getD 0), byteOf ((p.desc.map Descriptor.remaining).getD 0)] ++
  leBytes 2 p.unrecorded

def pageProfile (s : State) : State := poke 0xF9 (profileBytes s.profile) s

/-- The eight records. -/
def pageRecords (s : State) : State := TamperKind.all.foldl (fun s k => pageRecord k s) s

/-- Every field, at start-up and at link reset (R171, R189). -/
def pageAll (s : State) : State :=
  pageProfile (pageStrip (pageSwitches (pageWindows (pageRecords (pageSupply (pageCode (pageEntry (pageCredit
    (pageBlockBand (pageTariff (pageCalendar (pageClock (pageEnergy (pageFrame s))))))))))))))

end Sys2Proof.Machine
end

