-- ==== Sys2Proof/Machine/Notices.lean ====
section
/-! DEFINITION. The notice writer (R191, R193; entry layout spec/11 section 11.5). -/

namespace Sys2Proof.Machine

/-- The 16 bytes of a notice: kind, subject and notice flags (`head`, bits 0 to 6) with the time's validity in bit 7,
time, detail. -/
def noticeBytes (k : NoticeKind) (head : Nat) (t : Stamp) (detail : List Byte) : List Byte :=
  [byteOf k.code, byteOf (head + 128 * t.valid.toNat)] ++ leBytes 4 t.count ++ padTo 10 detail

/-- A notice is written whole at the write index and the index moves on, or, with 31 unread, is dropped and counted;
while the store does not run it is neither (R191). -/
def writeNotice (k : NoticeKind) (head : Nat) (t : Stamp) (detail : List Byte) (s : State) : State :=
  if linkUp s then
    if unread s < 31 then
      attnUpdate (pageStrip
        ((poke (0x600 + 16 * s.strip.writeIndex) (noticeBytes k head t detail) s).withStrip
          { s.strip with writeIndex := (s.strip.writeIndex + 1) % 32 }))
    else pageStrip (s.withStrip { s.strip with dropped := min (s.strip.dropped + 1) 65535 })
  else s

/-- A notice with the time of the event that writes it (R193). -/
def notice (k : NoticeKind) (head : Nat) (detail : List Byte) (s : State) : State :=
  writeNotice k head (now s) detail s

end Sys2Proof.Machine
end

