-- ==== Sys2Proof/Machine/Profile.lean ====
section
/-! DEFINITION. The profile channel (R195 to R200): periods, their events, closes and records. -/

namespace Sys2Proof.Machine

/-- Some tamper kind is ACTIVE (R197). -/
def anyActive (r : TamperRecords) : Bool := TamperKind.all.any fun k => decide ((r.get k).status = .active)

/-- The slot number of a VALID time (R197). -/
def slotOf (d t : Nat) : Nat := t / (60 * (d + 1))

/-- A period as it opens (R197). -/
def newPeriod (d : Descriptor) (s : State) : Period where
  wh := 0
  minV := none
  maxV := none
  tamper := anyActive s.tamper.records
  supplyOpen := decide (s.supply.machine ≠ .closed)
  clockInvalid := !s.clock.valid
  step := false
  slot := if s.clock.valid then some (slotOf d.d s.clock.count) else none
  minutes := 0

/-- A period opens while the descriptor is SET (R195, R197). -/
def openPeriod (s : State) : State :=
  s.withProfile { s.profile with period := s.profile.desc.map fun d => newPeriod d s }

/-- A change of the period in progress, where one runs. -/
def overPeriod (f : Period → Period) (s : State) : State :=
  s.withProfile { s.profile with period := s.profile.period.map f }

/-- One watt-hour handed off (R30, R197). -/
def profileWattHour : State → State := overPeriod fun p => { p with wh := min (p.wh + 1) 65535 }

/-- A frame's V taken (R197). -/
def profileFrame (v : Nat) : State → State := overPeriod fun p =>
  { p with minV := some (match p.minV with | some m => min m v | none => v),
           maxV := some (match p.maxV with | some m => max m v | none => v) }

/-- A tamper kind enters ACTIVE (R197). -/
def profileTamper : State → State := overPeriod fun p => { p with tamper := true }

/-- The machine changes to a state other than CLOSED (R197). -/
def profileSupplyOpen : State → State := overPeriod fun p => { p with supplyOpen := true }

/-- The 16 bytes of a profile record (R199, spec/11 section 11.5). -/
def profileRecordBytes (p : Period) (endTime : Nat) (partialMark : Bool) : List Byte :=
  padTo 16 (leBytes 4 endTime ++ leBytes 2 p.wh ++ optBytes 2 p.minV ++ optBytes 2 p.maxV ++
    [flagsByte [p.tamper, p.supplyOpen, p.clockInvalid, p.step, partialMark]])

/-- A closed period is recorded or counted unrecorded, by the remaining count (R199). -/
def recordPeriod (p : Period) (endTime : Nat) (partialMark : Bool) (s : State) : State :=
  match s.profile.desc with
  | none => s
  | some d =>
    if d.remaining = 0 then
      pageProfile (s.withProfile { s.profile with unrecorded := min (s.profile.unrecorded + 1) 65535 })
    else
      let left := if d.remaining = 255 then 255 else d.remaining - 1
      let d1 : Descriptor := { d with remaining := left, nextSlot := (d.nextSlot + 1) % d.capacity }
      let s1 := pageProfile
        ((poke (d.offset + 16 * d.nextSlot) (profileRecordBytes p endTime partialMark) s).withProfile
          { s.profile with desc := some d1 })
      if left = 0 then
        notice .profileFull 0 (byteOf d.nextSlot :: leBytes 4 endTime) (raise .profile s1)
      else s1

/-- The period in progress closes at the present clock count (R199). -/
def closePeriod (stepMark : Bool) (s : State) : State :=
  match s.profile.period with
  | some p => recordPeriod { p with step := p.step || stepMark } s.clock.count false s
  | none => s

/-- A close at which a new period opens (R198). -/
def turnPeriod (stepMark : Bool) (s : State) : State :=
  if s.profile.period.isSome then openPeriod (closePeriod stepMark s) else s

/-- An offered minute tick: the minute count, CLOCK_INVALID, and the judgement of the period (R197, R198). -/
def profileMinute (s : State) : State :=
  match s.profile.desc, s.profile.period with
  | some d, some p =>
    let q := { p with minutes := p.minutes + 1, clockInvalid := p.clockInvalid || !s.clock.valid }
    let s1 := s.withProfile { s.profile with period := some q }
    let due := if s.clock.valid then
        (match q.slot with
         | some n => decide (n < slotOf d.d s.clock.count)
         | none => false)
      else decide (d.d + 1 ≤ q.minutes)
    if due then turnPeriod false s1 else s1
  | _, _ => s

/-- Entry to HOLDUP: the period in progress is saved with the clock at that event as its end time (R200). -/
def savePeriod (s : State) : State :=
  match s.profile.period with
  | some p => s.withProfile { s.profile with period := none, saved := some ⟨p, now s⟩ }
  | none => s

/-- Step 3 of start-up: the saved period closes with PARTIAL and a new period opens (R200). -/
def resumePeriods (s : State) : State :=
  let s1 := match s.profile.saved with
    | some v =>
      recordPeriod { v.period with clockInvalid := v.period.clockInvalid || !v.endTime.valid }
        v.endTime.count true (s.withProfile { s.profile with saved := none })
    | none => s
  openPeriod s1

end Sys2Proof.Machine
end

