-- ==== Sys2Proof/Machine/Supply.lean ====
section
/-! DEFINITION. The supply controller (R112 to R136): the cause set, the contactor machine and its attempts, CONFIRM,
the overload count and trip. -/

namespace Sys2Proof.Machine

/-- Whether a cause is present (R112). -/
def Causes.has (c : Causes) : Cause → Bool
  | .tamper => c.tamper
  | .order => c.order
  | .credit => c.credit
  | .overload => c.overload

/-- The set with one cause placed or removed. -/
def Causes.put (c : Causes) (k : Cause) (b : Bool) : Causes :=
  match k with
  | .tamper => { c with tamper := b }
  | .order => { c with order := b }
  | .credit => { c with credit := b }
  | .overload => { c with overload := b }

/-- No cause is present. -/
def Causes.isEmpty (c : Causes) : Bool := !(c.tamper || c.order || c.credit || c.overload)

/-- An update of the supply controller's record. -/
def overSupply (f : Supply → Supply) (s : State) : State := s.withSupply (f s.supply)

/-- The SUPPLY notice, subject the new state (R125, R129). -/
def supplyNotice (old : MachineState) (trigger : SupplyTrigger) (wasUnverified : Bool) (s : State) : State :=
  notice .supply s.supply.machine.code
    [byteOf old.code, s.supply.causes.byte, byteOf s.supply.causes.reason, byteOf trigger.code,
     flagsByte [wasUnverified]] s

/-- A state change: the attempt and the retry timer end, leaving CLOSED sets the overload count to 0, one SUPPLY notice,
the SUPPLY attention cause, the status page and the profile period's SUPPLY_OPEN (R116, R123, R125, R197). -/
def changeMachine (m : MachineState) (trigger : SupplyTrigger) (wasUnverified : Bool) (s : State) : State :=
  let old := s.supply.machine
  let s1 := pageSupply (overSupply (fun p =>
    { p with machine := m, attempt := none, retry := 0, overCount := if old = .closed then 0 else p.overCount }) s)
  let s2 := if m = .closed then s1 else profileSupplyOpen s1
  raise .supply (supplyNotice old trigger wasUnverified s2)

/-- A coil pulse begins: the coil is driven and the converter takes the event (R115, R15). -/
def beginPulse (d : Direction) (s : State) : State :=
  (overSupply (fun p => { p with coil := some d }) s).withConv s.conv.pulseBegins

/-- An attempt begins with pulse number 1 and extension count 0, and its first pulse (R114, R116, R118). -/
def beginAttempt (d : Direction) (s : State) : State :=
  pageSupply (beginPulse d (overSupply (fun p =>
    { p with attempt := some ⟨d, 1, .pulse, 0, 0, none⟩ }) s))

/-- The machine enters OPENING or CLOSING with a new attempt. -/
def enterOpening (trigger : SupplyTrigger) (s : State) : State :=
  beginAttempt .toOpen (changeMachine .opening trigger false s)

def enterClosing (s : State) : State := beginAttempt .toClose (changeMachine .closing .confirm false s)

/-- The phase of the attempt is VERIFY. -/
def inVerify (p : Supply) : Bool :=
  match p.attempt with
  | some a => decide (a.phase = .verify)
  | none => false

/-- The machine acts on a change of the cause set in its state (R116, R118, R122, R123, R124). -/
def actOnCauses (s : State) : State :=
  match s.supply.machine, s.supply.causes.isEmpty with
  | .closed, false => enterOpening .cause s
  | .opened, true => changeMachine .awaitConfirm .cause false s
  | .awaitConfirm, false => changeMachine .opened .cause false s
  | .closing, false => if inVerify s.supply then enterOpening .cause s else s
  | .stuckClosed, true => changeMachine .closed .cause false s
  | .stuckOpen, false => changeMachine .opened .cause false s
  | _, _ => s

/-- A cause is placed or removed. Where it already is so, nothing changes; the machine acts while the link status reads
RUNNING (R112, R114, R126, R172). -/
def setCause (k : Cause) (b : Bool) (s : State) : State :=
  if s.supply.causes.has k = b then s
  else
    let s1 := pageSupply (overSupply (fun p => { p with causes := p.causes.put k b }) s)
    if isRunning s1 then actOnCauses s1 else s1

/-- The answer to a CONFIRM (R121). -/
def confirmAnswer (m : MachineState) : Verdict :=
  if m = .awaitConfirm ∨ m = .stuckOpen then .confirmed else .nothingToConfirm

/-- A CONFIRM is taken (R121). -/
def takeConfirm (s : State) : State :=
  if confirmAnswer s.supply.machine = .confirmed then enterClosing s else s

/-- The pulse of an attempt in HOLDUP has ended: the attempt is abandoned and the state is retained with the unverified
mark set (R126). -/
def markUnverified (s : State) : State :=
  overSupply (fun p =>
    { p with attempt := none, unverified := decide (p.machine = .opening ∨ p.machine = .closing) }) s

/-- The end of a coil pulse (R115, R118); in HOLDUP the converter does not resume (R16, R126). -/
def endPulse (s : State) : State :=
  let s1 := overSupply (fun p => { p with coil := none }) s
  if s.power.state = .mains then
    let s2 := s1.withConv s1.conv.pulseEnds
    if s2.supply.machine = .closing ∧ s2.supply.causes.isEmpty = false then enterOpening .pulseEnd s2
    else pageSupply (overSupply (fun p =>
      { p with attempt := p.attempt.map fun a => { a with phase := .verify, window := 2000 } }) s2)
  else markUnverified s1

/-- V of the last frame closed, absent before any (R119). -/
def lastV (s : State) : Option Nat := s.front.last.map Frame.v

/-- V counts as below 100.0 V (R119). -/
def weakSupply (s : State) : Bool :=
  match lastV s with
  | some v => decide (v < 1000)
  | none => true

/-- The RELAY_FAULT notice, subject the direction (R125). The flags byte with LOAD_V's presence stands before it (assumption
log 51). -/
def relayFaultNotice (a : Attempt) (s : State) : State :=
  notice .relayFault a.direction.code
    ([byteOf a.pulse, byteOf a.extensions, flagsByte [a.lastLoadV.isSome]] ++ optBytes 2 a.lastLoadV ++
      optBytes 2 (lastV s)) s

/-- An attempt has failed (R119, R123, R124). -/
def failAttempt (a : Attempt) (s : State) : State :=
  let s1 := relayFaultNotice a s
  match a.direction with
  | .toClose => changeMachine .stuckOpen .fault false s1
  | .toOpen =>
    let s2 := changeMachine .stuckClosed .fault false s1
    if s2.supply.causes.isEmpty then changeMachine .closed .cause false s2
    else pageSupply (overSupply (fun p => { p with retry := 600 }) s2)

/-- A verify window expires unverified: extended, a further pulse, or the attempt fails (R119). -/
def windowExpires (a : Attempt) (s : State) : State :=
  if weakSupply s && decide (a.extensions < 10) then
    pageSupply (overSupply (fun p =>
      { p with attempt := some { a with extensions := a.extensions + 1, window := 2000 } }) s)
  else if a.pulse < 3 then
    pageSupply (beginPulse a.direction (overSupply (fun p =>
      { p with attempt := some { a with pulse := a.pulse + 1, extensions := 0, phase := .pulse, window := 0 } }) s))
  else failAttempt a s

/-! ### Frame closes (R117, R118, R123, R130, R131) -/

/-- LOAD_V fresh and below 20.0 V. -/
def deadLoad (f : Frame) : Bool :=
  match f.loadV.value with
  | some v => f.loadV.fresh && decide (v < 200)
  | none => false

/-- LOAD_V fresh, at or above 20.0 V and at or above 80 % of V (R118). -/
def liveLoad (f : Frame) : Bool :=
  match f.loadV.value with
  | some v => f.loadV.fresh && decide (200 ≤ v ∧ f.v * 4 ≤ v * 5)
  | none => false

/-- The attempt notes the last fresh LOAD_V seen in it (R125), that of a frame whose own carries or tamper
judgement began it too, but not that of the frame that trips an overload (assumption log 55). -/
def noteLoadV (f : Frame) (s : State) : State :=
  if f.loadV.fresh then
    overSupply (fun p => { p with attempt := p.attempt.map fun a => { a with lastLoadV := f.loadV.value } }) s
  else s

/-- The overload trips (R131). The notice has no flag beside its subject: the reclose wait follows the history's length, and
reads 0 when latched (assumption log 54). -/
def overloadTrip (power : Nat) (s : State) : State :=
  let trips := (s.supply.trips ++ [s.clock.count]).drop ((s.supply.trips.length + 1) - 10)
  let latch := decide (s.settings.tripLimit ≤ trips.length)
  let state := if latch then Overload.latched else Overload.waiting s.settings.recloseWait
  let s1 := pageSupply (overSupply (fun p =>
    { p with overCount := 0, trips := trips, overload := state }) s)
  let s2 := setCause .overload true s1
  notice .overloadTrip state.code
    (leBytes 4 power ++ leBytes 2 s.supply.limit ++ [byteOf trips.length] ++ leBytes 2 state.remaining) s2

/-- The overload count judges a full frame in CLOSED with a limit set (R130). -/
def overloadFrame (f : Frame) (power : Nat) (s : State) : State :=
  if f.duration = 1000 ∧ s.supply.limit ≠ 0 then
    if s.supply.limit * 1000 < power then
      let n := s.supply.overCount + 1
      if s.settings.tripDelay ≤ n then overloadTrip power s
      else pageSupply (overSupply (fun p => { p with overCount := n }) s)
    else pageSupply (overSupply (fun p => { p with overCount := 0 }) s)
  else s

/-- The supply controller takes a frame, by the machine's state as it stood (R117, R118, R122, R123, R130). -/
def supplyFrame (f : Frame) (power : Nat) (s : State) : State :=
  match s.supply.machine with
  | .closed => overloadFrame f power s
  | .opening =>
    let s1 := noteLoadV f s
    if inVerify s1.supply && deadLoad f then
      let s2 := changeMachine .opened .verified false s1
      if s2.supply.causes.isEmpty then changeMachine .awaitConfirm .cause false s2 else s2
    else s1
  | .closing =>
    let s1 := noteLoadV f s
    if inVerify s1.supply && liveLoad f then changeMachine .closed .verified false s1 else s1
  | .stuckClosed => if deadLoad f then changeMachine .opened .loadDead false s else s
  | .opened => s
  | .awaitConfirm => s
  | .stuckOpen => s

/-! ### Timers, limits and orders (R123, R131, R132, R134) -/

/-- The overload state becomes NONE and OVERLOAD is removed (R132). -/
def endOverload (s : State) : State :=
  setCause .overload false (pageSupply (overSupply (fun p => { p with overload := .none }) s))

/-- The retry timer expires (R123). -/
def retryExpires (s : State) : State := enterOpening .retry s

/-- SET_POWER_LIMIT applied: the limit, an empty history, a count of 0, and the end of a latch (R106, R132). -/
def applyPowerLimit (w : Nat) (s : State) : State :=
  let s1 := pageSupply (overSupply (fun p => { p with limit := w, trips := [], overCount := 0 }) s)
  if s.supply.overload = .latched then endOverload s1 else s1

/-- At an offered minute tick: entries more than 3,600 s old, and entries after the present count, are removed (R132). -/
def pruneTrips (s : State) : State :=
  pageSupply (overSupply (fun p =>
    { p with trips := p.trips.filter fun t => decide (s.clock.count ≤ t + 3600 ∧ t ≤ s.clock.count) }) s)

/-! ### Start-up (R127 to R129) -/

/-- The state at the end of the re-verification step (R129). -/
def resolveMachine (m : MachineState) (readsClosed setEmpty : Bool) : MachineState :=
  match readsClosed, setEmpty with
  | false, true => if m = .stuckOpen then .stuckOpen else .awaitConfirm
  | false, false => .opened
  | true, false => .opening
  | true, true =>
    match m with
    | .closed | .closing | .stuckClosed | .stuckOpen => .closed
    | .opening | .opened | .awaitConfirm => .opening

/-- The machine is resolved from a LOAD_V reading: notice START where the state differs or the mark was set, the mark
cleared, and an open attempt where the result is OPENING (R128, R129). -/
def resolveSupply (loadV : Nat) (s : State) : State :=
  let old := s.supply.machine
  let mark := s.supply.unverified
  let m := resolveMachine old (decide (200 ≤ loadV)) s.supply.causes.isEmpty
  let s1 := overSupply (fun p => { p with unverified := false }) s
  let s2 := if m ≠ old ∨ mark = true then changeMachine m .start mark s1 else s1
  if m = .opening then beginAttempt .toOpen s2 else s2

end Sys2Proof.Machine
end

