-- ==== Sys2Proof/Machine/Credit.lean ====
section
/-! DEFINITION. The credit unit (R63 to R84): the account, the evaluation, emergency credit. -/

namespace Sys2Proof.Machine

/-- The balance's floor and cap (R63). -/
def balanceFloor : Int := -9999999
def balanceCap : Int := 99999999

/-- The top of a 32-bit count. -/
def countTop : Nat := 4294967295

/-- The credit state by the first row that matches (R71). -/
def creditStateFor (g : Settings) (friendly : Bool) (c : Credit) : CreditState :=
  if (g.lowCredit : Int) < c.balance then .normal
  else if c.level < c.balance then .low
  else if friendly && decide (c.level - (g.friendlyDebt : Int) < c.balance) then .held
  else .exhausted

/-- The emergency state settled after the credit state is found (R77). -/
def settleEmergency (st : CreditState) (c : Credit) : Emergency :=
  match c.emergency with
  | .taken => if st = .normal then .off else .taken
  | .off | .offered => if st ≠ .normal ∧ 0 < c.emergencyAmount then .offered else .off

/-- The credit unit's items after an evaluation (R71, R77, R84). -/
def Credit.evaluated (g : Settings) (clock : Clock) (c : Credit) : Credit :=
  let friendly := friendlyApplies clock g
  let st := creditStateFor g friendly c
  { c with state := st, emergency := settleEmergency st c, friendly := friendly }

/-- The CREDIT_STATE notice, subject the new state (R73). -/
def creditStateNotice (old : CreditState) (trigger : CreditTrigger) (s : State) : State :=
  notice .creditState s.credit.state.code
    (byteOf old.code :: leInt 4 s.credit.balance ++ [byteOf s.credit.emergency.code, byteOf trigger.code]) s

/-- The credit unit evaluates: a changed state writes CREDIT_STATE, raises CREDIT and places or removes the CREDIT cause
(R71 to R73; order of notices, assumption log 14). -/
def evaluateCredit (trigger : CreditTrigger) (s : State) : State :=
  let old := s.credit.state
  let s1 := pageCredit (s.withCredit (s.credit.evaluated s.settings s.clock))
  let st := s1.credit.state
  if st = old then s1
  else
    let s2 := raise .credit (creditStateNotice old trigger s1)
    if st = .exhausted then setCause .credit true s2
    else if old = .exhausted then setCause .credit false s2
    else s2

/-- The account after a debit of `units`, stopped at the floor, the rest written off (R66). -/
def Credit.lower (c : Credit) (units : Nat) : Credit :=
  let wanted := c.balance - units
  let balance := max wanted balanceFloor
  { c with balance := balance, writtenOff := min (c.writtenOff + (balance - wanted).toNat) countTop }

/-- The account after an energy debit at `rate` thousandths (R64). -/
def Credit.energyDebit (c : Credit) (rate : Nat) : Credit :=
  let sum := c.debitRem + rate
  { c.lower (sum / 1000) with debitRem := sum % 1000 }

/-- An energy debit and its evaluation (R64). -/
def energyDebit (rate : Nat) (s : State) : State :=
  evaluateCredit .energy (pageCredit (s.withCredit (s.credit.energyDebit rate)))

/-- A daily debit and its evaluation (R65). -/
def dailyDebit (amount : Nat) (s : State) : State :=
  evaluateCredit .daily (pageCredit (s.withCredit (s.credit.lower amount)))

/-- A credit addition would exceed the cap (R67). -/
def overCap (c : Credit) (value : Nat) : Bool := decide (balanceCap < c.balance + value)

/-- A credit addition and its evaluation (R67). -/
def addCredit (value : Nat) (s : State) : State :=
  evaluateCredit .codeCredit (pageCredit (s.withCredit { s.credit with balance := s.credit.balance + value }))

/-- SET_EMERGENCY applied (R79). -/
def setEmergencyAmount (amount : Nat) (s : State) : State :=
  evaluateCredit .codeEmergency (pageCredit (s.withCredit { s.credit with emergencyAmount := amount }))

/-- RESET_CREDIT applied (R80). -/
def resetCredit (s : State) : State :=
  evaluateCredit .reset (pageCredit (s.withCredit
    { s.credit with balance := 0, debitRem := 0, writtenOff := 0, emergency := .off }))

/-- The EMERGENCY_TAKEN notice, as the account stands in `after` (R78). -/
def emergencyNotice (after : Credit) (s : State) : State :=
  notice .emergencyTaken 0
    (leBytes 3 after.emergencyAmount ++ leInt 4 after.balance ++ [byteOf after.state.code]) s

/-- The answer to an EMERGENCY request (R78). -/
def emergencyAnswer (c : Credit) : Verdict := if c.emergency = .offered then .taken else .notOffered

/-- An EMERGENCY request is taken (R78). Whether its EMERGENCY_TAKEN notice stands before or after the notices of its
evaluation, R78's wording and worked case F do not agree: a free choice (assumption log 14). -/
def takeEmergency (s : State) : State :=
  if emergencyAnswer s.credit = .taken then
    let s1 := pageCredit (s.withCredit { s.credit with emergency := .taken })
    let s2 := evaluateCredit .emergency s1
    freePick [emergencyNotice s2.credit s2, evaluateCredit .emergency (emergencyNotice s2.credit s1)] s
  else s

/-- The evaluation of start-up: CREDIT stands in the rebuilt set exactly when the state is EXHAUSTED (R83, R127). -/
def startCredit (s : State) : State :=
  let s1 := evaluateCredit .start s
  setCause .credit (decide (s1.credit.state = .exhausted)) s1

end Sys2Proof.Machine
end

