-- ==== Sys2Proof/Machine/Tamper.lean ====
section
/-! DEFINITION. The tamper watch (R137 to R163): record transitions, switches, windows, the backward clock step, the
TAMPER cause, clearing by code. -/

namespace Sys2Proof.Machine

/-! ### Record transitions (R139) -/

/-- A count that increases by 1 and saturates at 65,535. -/
def bump (n : Nat) : Nat := min (n + 1) 65535

/-- CLEAR or LATCHED to ACTIVE; an ACTIVE record takes no transition (R139, R141). -/
def TamperRecord.activated (r : TamperRecord) (t : Stamp) (onBattery : Bool) : TamperRecord :=
  match r.status with
  | .clear =>
    { status := .active, first := some t, last := some t, count := bump r.count, onBattery := r.onBattery || onBattery }
  | .latched =>
    { r with status := .active, last := some t, count := bump r.count, onBattery := r.onBattery || onBattery }
  | .active => { r with onBattery := r.onBattery || onBattery }

/-- ACTIVE to LATCHED; a CLEAR or LATCHED record takes no transition (R139, R142). -/
def TamperRecord.ceased (r : TamperRecord) (t : Stamp) (onBattery : Bool) : TamperRecord :=
  if r.status = .active then
    { r with status := .latched, last := some t, onBattery := r.onBattery || onBattery }
  else { r with onBattery := r.onBattery || onBattery }

/-- CLEAR or LATCHED to LATCHED by event (R139, R155). -/
def TamperRecord.stepped (r : TamperRecord) (t : Stamp) : TamperRecord :=
  { r with status := .latched, first := if r.status = .clear then some t else r.first, last := some t,
           count := bump r.count }

/-- LATCHED to CLEAR by code (R139, R159). -/
def TamperRecord.cleared (r : TamperRecord) : TamperRecord :=
  if r.status = .latched then { r with status := .clear, onBattery := false } else r

/-- A record is replaced and written to the status page, with the lamp (R157, R163). -/
def putRecord (k : TamperKind) (r : TamperRecord) (s : State) : State :=
  pageLamp (pageRecord k (s.withTamper { s.tamper with records := s.tamper.records.set k r }))

/-- The disconnecting kinds (R137). -/
def disconnecting (k : TamperKind) : Bool := decide (k = .caseOpen ∨ k = .bypass)

/-! ### Notices (R158) -/

/-- TAMPER_ON, subject the kind. -/
def tamperOn (k : TamperKind) (onBattery : Bool) (t : Stamp) (before after : TamperStatus) (count : Nat)
    (more : List Byte) (s : State) : State :=
  writeNotice .tamperOn (k.code + 16 * onBattery.toNat) t
    ([byteOf before.code, byteOf after.code] ++ leBytes 2 count ++ more) s

/-- TAMPER_OFF, subject the kind; bits 4 to 6 hold "on battery", first-seen valid and last-seen valid. -/
def tamperOff (k : TamperKind) (onBattery : Bool) (t : Stamp) (count : Nat) (first last : Option Stamp)
    (s : State) : State :=
  writeNotice .tamperOff
    (k.code + 16 * onBattery.toNat + 32 * (stampValid first).toNat + 64 * (stampValid last).toNat) t
    (leBytes 2 count ++ stampBytes first ++ stampBytes last) s

/-- A kind enters ACTIVE in mains operation: the record, TAMPER_ON, the TAMPER attention cause, the profile period's
TAMPER, and the TAMPER cause where a disconnecting kind left CLEAR (R141, R147, R154, R156, R158), also between steps 3
and 4 of start-up (assumption log 45). -/
def kindOn (k : TamperKind) (more : List Byte) (s : State) : State :=
  let old := s.tamper.records.get k
  let r := old.activated (now s) false
  let s1 := tamperOn k false (now s) old.status r.status r.count more (putRecord k r s)
  let s2 := profileTamper (raise .tamper s1)
  if disconnecting k && decide (old.status = .clear) then setCause .tamper true s2 else s2

/-- A kind leaves ACTIVE for LATCHED in mains operation: the record and TAMPER_OFF (R142, R147, R158). -/
def kindOff (k : TamperKind) (s : State) : State :=
  let r := (s.tamper.records.get k).ceased (now s) false
  tamperOff k false (now s) r.count r.first r.last (putRecord k r s)

/-! ### Switches (R140 to R144) -/

/-- A switch's settled position. -/
def Tamper.settled (t : Tamper) : SwitchId → Option Position
  | .caseSw => t.caseSettled
  | .coverSw => t.coverSettled

/-- The settled position replaced. -/
def Tamper.settle (t : Tamper) (w : SwitchId) (p : Option Position) : Tamper :=
  match w with
  | .caseSw => { t with caseSettled := p }
  | .coverSw => { t with coverSettled := p }

/-- A switch input's level. -/
def Pins.switch (p : Pins) : SwitchId → Position
  | .caseSw => p.caseSw
  | .coverSw => p.coverSw

/-- The battery event list takes an event, or the overflow count does (R168). -/
def appendEvent (e : BatteryEvent) (s : State) : State :=
  if s.power.events.length < 8 then s.withPower { s.power with events := s.power.events ++ [e] }
  else s.withPower { s.power with overflow := min (s.power.overflow + 1) 255 }

/-- A switch event outside running mains operation: the record's transition with the seen-on-battery mark, and the
event handed to the power logic (R144). -/
def switchOnBattery (w : SwitchId) (p : Position) (s : State) : State :=
  let k := switchKind w
  let old := s.tamper.records.get k
  let r := match p with
    | .opened => old.activated (now s) true
    | .closed => old.ceased (now s) true
  appendEvent ⟨w, p, now s, old.status, r.count, r.first⟩ (putRecord k r s)

/-- A switch event in mains operation (R141, R142); the switch fields are written at it (R163). -/
def switchOnMains (w : SwitchId) (p : Position) (s : State) : State :=
  let k := switchKind w
  let active := decide ((s.tamper.records.get k).status = .active)
  pageSwitches (match p, active with
    | .opened, false => kindOn k [] s
    | .closed, true => kindOff k s
    | .opened, true => s
    | .closed, false => s)

/-- The input has held its reading for 50 ms: the settled position becomes the reading, and the event is taken
(R140). -/
def switchSettles (w : SwitchId) (p : Position) (s : State) : State :=
  let s1 := s.withTamper (s.tamper.settle w (some p))
  if mainsOperation s then switchOnMains w p s1 else switchOnBattery w p s1

/-- The settled position a record calls for after DARK or into factory state (R145). -/
def settledFor (r : TamperRecord) : Position := if r.status = .active then .opened else .closed

/-! ### Frame windows (R146 to R154) -/

/-- A kind's window. -/
def Windows.get (w : Windows) : FrameKind → List Bool
  | .magnet => w.magnet
  | .imbalance => w.imbalance
  | .reverse => w.reverse
  | .noVoltage => w.noVoltage
  | .bypass => w.bypass

/-- The windows with one replaced. -/
def Windows.set (w : Windows) (k : FrameKind) (l : List Bool) : Windows :=
  match k with
  | .magnet => { w with magnet := l }
  | .imbalance => { w with imbalance := l }
  | .reverse => { w with reverse := l }
  | .noVoltage => { w with noVoltage := l }
  | .bypass => { w with bypass := l }

/-- A result appended; the oldest is removed first where W are held (R146). -/
def appendResult (w : Nat) (l : List Bool) (b : Bool) : List Bool := l.drop (l.length + 1 - w) ++ [b]

/-- TRUE results held. -/
def trueCount (l : List Bool) : Nat := (l.filter id).length

/-- A fresh aux value at or above a level. -/
def freshAtLeast (a : AuxSample) (level : Nat) : Bool :=
  match a.value with
  | some v => a.fresh && decide (level ≤ v)
  | none => false

/-- A kind's result for a frame (R149 to R153). -/
def frameResult (k : FrameKind) (f : Frame) (g : Settings) (m : MachineState) : Bool :=
  let top := max f.iL f.iN
  match k with
  | .magnet => freshAtLeast f.magnet g.magnet
  | .imbalance => decide (g.imbMin ≤ top ∧ g.imbRatio * top < (max f.iL f.iN - min f.iL f.iN) * 100)
  | .reverse => decide (f.pL < -((g.reverse * 1000 : Nat) : Int))
  | .noVoltage => decide (f.v < 400 ∧ 500 ≤ top)
  | .bypass => decide (m = .opened) && freshAtLeast f.loadV 1000

/-- One kind takes the frame: its result appended, and the kind judged on its window (R147). A BYPASS cleared just before
is judged by the machine as it then stands (assumption log 46). -/
def judgeKind (f : Frame) (k : FrameKind) (s : State) : State :=
  let w := appendResult s.settings.windowW (s.tamper.windows.get k) (frameResult k f s.settings s.supply.machine)
  let s1 := s.withTamper { s.tamper with windows := s.tamper.windows.set k w }
  let active := decide ((s.tamper.records.get k.kind).status = .active)
  if active = false ∧ s.settings.windowK ≤ trueCount w then
    kindOn k.kind [byteOf (trueCount w), byteOf s.settings.windowW] s1
  else if active = true ∧ s.settings.windowW ≤ w.length ∧ trueCount w = 0 then kindOff k.kind s1
  else s1

/-- The tamper watch takes a frame: the five kinds in the kind order, then the window fields (R147, R163). -/
def tamperFrame (f : Frame) (s : State) : State := pageWindows (FrameKind.all.foldl (fun s k => judgeKind f k s) s)

/-! ### The backward clock step (R155) -/

/-- CLOCK_BACK: the record's step (R139), TAMPER_ON and the TAMPER attention cause (R155, R158). The step's magnitude
stands right after the count, at bytes 4 to 7 of the detail, no place being kept for a window kind's two fields
(assumption log 59). -/
def clockBack (magnitude : Nat) (s : State) : State :=
  let old := s.tamper.records.get .clockBack
  let r := old.stepped (now s)
  raise .tamper (tamperOn .clockBack false (now s) old.status r.status r.count (leBytes 4 magnitude)
    (putRecord .clockBack r s))

/-! ### Clearing by code (R159, R161) -/

/-- A set of kinds in one byte, one bit per kind in the kind order (R202). -/
def kindSet (ks : List TamperKind) : Byte := flagsByte (TamperKind.all.map fun k => decide (k ∈ ks))

/-- The kinds named by the least significant 8 bits of a code's value (R105). -/
def namedKinds (value : Nat) : List TamperKind := TamperKind.all.filter fun k => value.testBit k.code

/-- Of the named kinds, those a clear clears, and those it keeps (R159). -/
def clearedKinds (r : TamperRecords) (ks : List TamperKind) : List TamperKind :=
  ks.filter fun k => decide ((r.get k).status = .latched)

def keptKinds (r : TamperRecords) (ks : List TamperKind) : List TamperKind :=
  ks.filter fun k => decide ((r.get k).status ≠ .latched)

/-- CASE or BYPASS is not CLEAR (R112, R127, R156). -/
def disconnects (r : TamperRecords) : Bool :=
  decide (r.caseOpen.status ≠ .clear) || decide (r.bypass.status ≠ .clear)

/-- CLEAR_TAMPER applied: the records in the kind order, TAMPER_CLEARED where any was cleared, and the TAMPER cause
removed where the clear left CASE and BYPASS both CLEAR (R159, R161). -/
def clearTamper (named : List TamperKind) (sequence : Nat) (s : State) : State :=
  let cleared := clearedKinds s.tamper.records named
  let kept := keptKinds s.tamper.records named
  let s1 := cleared.foldl (fun s k => putRecord k (s.tamper.records.get k).cleared s) s
  let removed := cleared.any disconnecting && !disconnects s1.tamper.records
  let s2 :=
    if cleared.isEmpty then s1
    else notice .tamperCleared 0
      ([kindSet cleared, kindSet kept] ++ leBytes 3 sequence ++ [flagsByte [removed]]) s1
  if removed then setCause .tamper false s2 else s2

end Sys2Proof.Machine
end

