-- ==== Sys2Proof/Machine/Energy.lean ====
section
/-! DEFINITION. The energy register block (R19 to R39): billed power, frame energy, accumulators, the hand-off of each
watt-hour, the test-pulse output. -/

namespace Sys2Proof.Machine

/-- The creep stage of one element (R20). -/
def creepStage (threshold : Nat) (p : Int) : Nat := if threshold * 100 ≤ p.natAbs then p.natAbs else 0

/-- The states in which the relay may be closed (R23). -/
def gatesPenalty : MachineState → Bool
  | .closed => true
  | .opening => true
  | .closing => true
  | .stuckClosed => true
  | .opened => false
  | .awaitConfirm => false
  | .stuckOpen => false

/-- A power with the stage that set it last. -/
structure Based where
  power : Nat
  basis : Basis
deriving DecidableEq, Repr

/-- A stage that raises the base to its own figure where that is strictly higher (R23, R24, R26). -/
def Based.raisedTo (b : Based) (figure : Nat) (name : Basis) : Based :=
  if b.power < figure then ⟨figure, name⟩ else b

/-- The element-choice stage (R21, R26). -/
def elementChoice (g : Settings) (imbalance : Bool) (f : Frame) : Based :=
  let eL := creepStage g.creep f.pL
  let eN := creepStage g.creep f.pN
  let line : Based := ⟨eL, if eL = 0 then .none else .line⟩
  if imbalance then line.raisedTo eN .neutral else line

/-- The penalty stage (R23, R24). -/
def penaltyStage (g : Settings) (magnet noVoltage gated : Bool) (f : Frame) (b : Based) : Based :=
  let b1 := if gated && magnet then b.raisedTo (g.penalty * 1000) .magnet else b
  if gated && noVoltage then b1.raisedTo (max f.iL f.iN * g.nominal) .noVoltage else b1

/-- The base before the clamp, by the statuses and the machine's state as they stand (R21 to R24). -/
def basePower (s : State) (f : Frame) : Based :=
  let r := s.tamper.records
  penaltyStage s.settings (decide (r.magnet.status = .active)) (decide (r.noVoltage.status = .active))
    (gatesPenalty s.supply.machine) f
    (elementChoice s.settings (decide (r.imbalance.status = .active)) f)

/-- The clamp (R25). -/
def powerClamp : Nat := 30000000

/-- Energy of a frame in mWs (R27). -/
def frameEnergy (power duration : Nat) : Nat := power * duration / 1000

/-- One watt-hour in mWs (R28). -/
def wattHour : Nat := 3600000

/-- Energy added to an accumulator (R28). -/
def Accumulator.add (a : Accumulator) (e : Nat) : Accumulator :=
  ⟨(a.wh + (a.rem + e) / wattHour) % 1000000000, (a.rem + e) % wattHour⟩

/-- The powers of the informational accumulators after creep (R32). -/
def forwardPower (g : Settings) (f : Frame) : Nat := if 0 < f.pL then creepStage g.creep f.pL else 0
def reversePower (g : Settings) (f : Frame) : Nat := if f.pL < 0 then creepStage g.creep f.pL else 0
def neutralPower (g : Settings) (f : Frame) : Nat := creepStage g.creep f.pN

/-- A pulse begins where the output is IDLE or its LOW_GAP has ended, one is owed, and the output is driven, in MAINS
(R35). -/
def beginTestPulse (s : State) : State :=
  pageBacklog (s.withEnergy { s.energy with backlog := s.energy.backlog - 1, pulse := .high })

/-- The backlog gains one and, with the output IDLE, a pulse begins at once (R35, R36). -/
def owePulse (s : State) : State :=
  let s1 := s.withEnergy { s.energy with backlog := s.energy.backlog + 1 }
  if s.energy.pulse = .idle ∧ s.power.state = .mains then beginTestPulse s1 else s1

/-- The tariff unit counts the watt-hour, holding at the top (R58). -/
def countWattHour (s : State) : State :=
  s.withTariff { s.tariff with periodEnergy := min (s.tariff.periodEnergy + 1) countTop }

/-- One watt-hour carried into BILLED is handed off: rate and period energy, debit and evaluation, profile period, test
pulse (R29, R30). -/
def carry (s : State) : State :=
  let rate := unitRate s.tariff s.clock
  let s1 := s.withEnergy { s.energy with billed :=
    { s.energy.billed with wh := (s.energy.billed.wh + 1) % 1000000000 } }
  owePulse (profileWattHour (energyDebit rate (countWattHour s1)))

/-- Carries one after another (R29). -/
def carries : Nat → State → State
  | 0, s => s
  | n + 1, s => carries n (carry s)

/-- The energy register block takes a frame: billed power, the four accumulators, the carries in turn, and the status
page (R25 to R32, R38, R58). -/
def energyFrame (f : Frame) (s : State) : State :=
  let base := basePower s f
  let power := min base.power powerClamp
  let sum := s.energy.billed.rem + frameEnergy power f.duration
  let s1 := s.withEnergy
    { s.energy with
      power := power
      basis := base.basis
      clamp := decide (powerClamp < base.power)
      billed := { s.energy.billed with rem := sum % wattHour }
      phaseFwd := s.energy.phaseFwd.add (frameEnergy (forwardPower s.settings f) f.duration)
      phaseRev := s.energy.phaseRev.add (frameEnergy (reversePower s.settings f) f.duration)
      neutral := s.energy.neutral.add (frameEnergy (neutralPower s.settings f) f.duration) }
  pageBlockBand (pageTariff (pageEnergy (carries (sum / wattHour) s1)))

/-- The HIGH time expires (R35). -/
def pulseHighEnds (s : State) : State := s.withEnergy { s.energy with pulse := .lowGap }

/-- The LOW_GAP time expires (R35, R36). -/
def pulseGapEnds (s : State) : State :=
  if 0 < s.energy.backlog then beginTestPulse s else s.withEnergy { s.energy with pulse := .idle }

/-- The backlog is discarded and the output goes low (R37). -/
def discardBacklog (s : State) : State := s.withEnergy { s.energy with backlog := 0, pulse := .idle }

end Sys2Proof.Machine
end

