-- ==== Sys2Proof/Machine/TariffUnit.lean ====
section
/-! DEFINITION. The tariff unit (R49 to R62): activation, billing periods, daily charges, and the load. -/

namespace Sys2Proof.Machine

/-- The source of an activation, in the order of R54. -/
inductive TariffSource
  | pending
  | load
deriving DecidableEq, Repr

def TariffSource.code : TariffSource → Nat
  | .pending => 0
  | .load => 1

/-- The stored period index after an activation: it only moves on, and only with the clock VALID (R55). -/
def movedIndex (stored : Option Int) (r : Nat) (c : Clock) : Option Int :=
  match stored with
  | some i => if c.valid then some (max i (periodIndexOf r c.count)) else some i
  | none => none

/-- A tariff becomes active (R54, R55), with its TARIFF_ACTIVE notice, subject the source. The flags byte with the replaced
id's presence stands before that id (assumption log 51). -/
def activateTariff (t : Tariff) (src : TariffSource) (s : State) : State :=
  let old := s.tariff.active
  let s1 := s.withTariff { s.tariff with
    active := some t, pending := none, periodIndex := movedIndex s.tariff.periodIndex t.startDay s.clock }
  notice .tariffActive src.code
    (leBytes 2 t.id ++ [flagsByte [old.isSome]] ++ optBytes 2 (old.map Tariff.id) ++ leBytes 4 t.activation)
    (pageBlockBand (pageTariff s1))

/-- A pending tariff is due: the clock is VALID and the time is at or after its activation time (R54). -/
def pendingDue (s : State) : Bool :=
  match s.tariff.pending with
  | some t => s.clock.valid && decide (t.activation ≤ s.clock.count)
  | none => false

/-- An offered second tick activates a pending tariff that is due (R54). -/
def tariffSecond (s : State) : State :=
  match s.tariff.pending with
  | some t => if pendingDue s then activateTariff t .pending s else s
  | none => s

/-- The billing period is judged (R60). -/
def rollover (t : Tariff) (s : State) : State :=
  let i := periodIndexOf t.startDay s.clock.count
  let turn := match s.tariff.periodIndex with
    | none => true
    | some j => decide (j < i)
  if turn then
    pageBlockBand (pageTariff (s.withTariff { s.tariff with periodIndex := some i, periodEnergy := 0 }))
  else s

/-- The days owed a daily charge, capped at 31 (R61). -/
def daysOwed (stored now : Nat) : Nat := min (now - stored) 31

/-- The days are judged (R61): the charge is asked for, and then the index moves. -/
def chargeDays (t : Tariff) (s : State) : State :=
  let d := dayIndex s.clock.count
  let move := fun s : State => pageTariff (s.withTariff { s.tariff with chargedDay := some d })
  match s.tariff.chargedDay with
  | none => move s
  | some c =>
    if c < d then
      let amount := daysOwed c d * t.daily
      move (if 0 < amount then dailyDebit amount s else s)
    else s

/-- An offered minute tick: rollover and daily charge, with the clock VALID and a tariff active (R60, R61). -/
def tariffMinute (s : State) : State :=
  match s.tariff.active with
  | some t => if s.clock.valid then chargeDays t (rollover t s) else s
  | none => s

/-! ### The load (R50 to R53) -/

/-- The offset is refused: the 96 bytes not wholly in the open area, or meeting the active profile area (R50). -/
def loadRefused (s : State) (off : Nat) : Bool := !inOpenArea off 96 || meets off 96 (profileArea s)

/-- A TARIFF_LOAD slip is taken: refused at once, or the image copied and the load in flight (R50). -/
def takeTariffLoad (n : Fin 16) (s : State) : State :=
  let off := slipArg s n 4 2
  let s1 := markTaken n s
  if loadRefused s off then completeSlip n .badArgument [] s1
  else s1.withTariff { s1.tariff with load := some ⟨peekBytes s off 96, some off, some n⟩ }

/-- Installed as active at once: activation time 0, or the clock VALID and the time reached (R52). -/
def activeAtLoad (t : Tariff) (c : Clock) : Bool :=
  decide (t.activation = 0) || (c.valid && decide (t.activation ≤ c.count))

/-- A record that passed every check is installed, active or pending (R52). -/
def installTariff (t : Tariff) (s : State) : State :=
  if activeAtLoad t s.clock then activateTariff t .load s
  else pageTariff (s.withTariff { s.tariff with pending := some t })

/-- The result fields of a TARIFF_LOAD (R52, R202). -/
def loadResult (field index : Nat) (count : Bool) (id installedAs : Nat) (before discarded : Option Nat) : List Byte :=
  [byteOf field, byteOf index, flagsByte [count, before.isSome, discarded.isSome]] ++ leBytes 2 id ++
  [byteOf installedAs] ++ optBytes 2 before ++ optBytes 2 discarded

/-- The load completes: judged, installed or refused, the image area returned, and the slip completed where it has not
been freed (R51 to R53). The id active before the load is read at the completion (assumption log 43), and a failing image
reports its own id and that one (assumption log 52). -/
def finishLoad (l : Load) (s : State) : State :=
  let before := s.tariff.active.map Tariff.id
  let discarded := s.tariff.pending.map Tariff.id
  let free := fun s : State => s.withTariff { s.tariff with load := none }
  let answer := fun (v : Verdict) (result : List Byte) (s : State) =>
    match l.slip with
    | some n => completeSlip n v result s
    | none => s
  match judgeTariff l.image with
  | .bad field index count =>
    answer .badTariff (loadResult field index count (imageNat l.image 0 2) 0 before none) (free s)
  | .good t =>
    answer .ok (loadResult 0 0 false t.id (!activeAtLoad t s.clock).toNat before discarded)
      (free (installTariff t s))

end Sys2Proof.Machine
end

