-- ==== Sys2Proof/Machine/ClockUnit.lean ====
section
/-! DEFINITION. The clock (R40 to R48): counting, the ticks it offers, the day change, and CLOCK_SET. -/

namespace Sys2Proof.Machine

/-- The count after a second tick; what follows 4,294,967,295 is free within the range (R40, assumption log 20). -/
def nextCount (c : Nat) : Nat := if c = countTop then Config.countAfterTop % (countTop + 1) else c + 1

/-- The tick takes a VALID count to the end of the calendar (R40). -/
def endsCalendar (c : Clock) : Bool := c.valid && decide (calendarEnd ≤ nextCount c.count)

/-- The clock after a second tick (R40). -/
def Clock.tick (c : Clock) : Clock :=
  { c with count := nextCount c.count, valid := c.valid && !endsCalendar c }

/-- The clock restarts at 0, INVALID, and runs: leaving DARK, or a battery fitted to an unpowered part (R40). -/
def Clock.restart (c : Clock) : Clock := { c with count := 0, valid := false, running := true }

/-- The clock stops and becomes INVALID (R40, R169). -/
def Clock.stop (c : Clock) : Clock := { c with valid := false, running := false }

/-- A day change is raised at this offered tick (R42). -/
def dayChanges (c : Clock) : Bool :=
  c.valid && (match c.announced with
    | some d => decide (d < dayIndex c.count)
    | none => false)

/-- The announced day after an offered tick (R42). -/
def Clock.announce (c : Clock) : Clock :=
  if c.valid then
    { c with announced := some (match c.announced with
        | some d => max d (dayIndex c.count)
        | none => dayIndex c.count) }
  else c

/-- An offered tick is a minute tick (R41). -/
def isMinute (c : Clock) : Bool := decide (c.count % 60 = 0)

/-! ### CLOCK_SET (R46, R47) -/

/-- The step of a set on a VALID clock: new − old. -/
def setStep (old new : Nat) : Int := (new : Int) - (old : Int)

/-- The class of a set, by the clock as it stood before (R46). -/
def setClass (c : Clock) (new : Nat) : ClockClass :=
  if c.valid = false then .firstSet
  else if 60 < setStep c.count new then .forward
  else if setStep c.count new < -60 then .backward
  else .trim

/-- The set raises CLOCK_BACK: a VALID clock stepped back by more than 3,600 s (R46). -/
def setsBack (c : Clock) (new : Nat) : Bool := c.valid && decide (setStep c.count new < -3600)

/-- Direction and magnitude as reported; a FIRST_SET carries no step (R46). -/
def stepDirection (c : Clock) (new : Nat) : Nat := if c.valid && decide (new < c.count) then 1 else 0
def stepMagnitude (c : Clock) (new : Nat) : Nat := if c.valid then (setStep c.count new).natAbs else 0

/-- The CLOCK_STEP notice of a set, subject the class (R47). -/
def clockStepNotice (old : Clock) (new : Nat) (s : State) : State :=
  notice .clockStep (setClass old new).code
    (leBytes 4 old.count ++ leBytes 4 new ++ [flagsByte [!old.valid]]) s

/-- The effects an accepted set hands on, in R47's order; the block and band follow the new minute (R62). -/
def setClock (new : Nat) (s : State) : State :=
  let old := s.clock
  let s0 := s.withClock { s.clock with count := new, valid := true }
  let s1 := pageBlockBand (pageCalendar (pageClock s0))
  let s2 := if setClass old new = .trim then s1 else clockStepNotice old new s1
  let s3 := if setsBack old new then clockBack (stepMagnitude old new) s2 else s2
  let s4 := if setClass old new = .trim then s3 else turnPeriod true s3
  evaluateCredit .clockSet s4

/-- The result fields of an accepted set (R47). A FIRST_SET has no step: no presence flag says so, and both fields of the
step read 0 (assumption log 57). -/
def setResult (old : Clock) (new : Nat) : List Byte :=
  leBytes 4 old.count ++ [flagsByte [old.valid]] ++ leBytes 4 new ++
  [byteOf (setClass old new).code, byteOf (stepDirection old new)] ++ leBytes 4 (stepMagnitude old new)

/-- A CLOCK_SET slip is taken and completes at that event (R46, R47). -/
def takeClockSet (n : Fin 16) (s : State) : State :=
  let new := slipArg s n 4 4
  let s1 := markTaken n s
  if calendarEnd ≤ new then completeSlip n .badArgument [] s1
  else completeSlip n .ok (setResult s.clock new) (setClock new s1)

end Sys2Proof.Machine
end

