-- ==== Sys2Proof/Machine/CodeUnit.lean ====
section
/-! DEFINITION. The code unit (R85 to R111): the keypad and its entry line, the decoder and its arbiter, decoding,
the accepted-sequence list, the lock, the meter key. -/

namespace Sys2Proof.Machine

/-- An update of the code unit's record. -/
def overCode (f : CodeUnit → CodeUnit) (s : State) : State := s.withCode (f s.code)

/-! ### Decoding (R96 to R100) -/

/-- Eight bits of the CRC register, most significant first: x^16 + x^12 + x^5 + 1 (R98). -/
def crcBits : Nat → BitVec 16 → BitVec 16
  | 0, c => c
  | n + 1, c => crcBits n (if c.msb then (c <<< 1) ^^^ 0x1021#16 else c <<< 1)

/-- One byte taken into the CRC register. -/
def crcByte (c : BitVec 16) (b : Byte) : BitVec 16 := crcBits 8 (c ^^^ (b.setWidth 16 <<< 8))

/-- The CRC-16 of bytes, from all ones, not inverted at the end (R98). -/
def crc16 (bs : List Byte) : BitVec 16 := bs.foldl crcByte 0xFFFF#16

/-- `v` in `n` bytes, most significant byte first (R98). -/
def beBytes (n v : Nat) : List Byte := (leBytes n v).reverse

/-- A code's clear fields (R97). -/
structure Code where
  cls : Nat
  seq : Nat
  value : Nat
deriving DecidableEq, Repr

/-- The clear part: the masked part of N against the least significant 48 bits of the key (R97). -/
def clearPart (n : Nat) (key : BitVec 64) : Nat := (n / 2 ^ 16 % 2 ^ 48) ^^^ (key.toNat % 2 ^ 48)

/-- The clear class, sequence and value (R97). -/
def clearFields (p : Nat) : Code := ⟨p / 2 ^ 44, p / 2 ^ 24 % 2 ^ 20, p % 2 ^ 24⟩

/-- The check a clear part calls for under a key (R98). -/
def checkOf (key : BitVec 64) (p : Nat) : Nat := (crc16 (beBytes 8 key.toNat ++ beBytes 6 p)).toNat

/-- The most entries the accepted-sequence list holds (R101). -/
def listTop : Nat := 40

/-- Steps 7 to 9: class, sequence, value (R99, R100). -/
def judgeFields (c : Code) (accepted : List Nat) (credit : Credit) : Verdict :=
  if c.cls = 0 ∨ 6 ≤ c.cls then .badClass
  else if c.seq ∈ accepted then .used
  else if listTop ≤ accepted.length ∧ accepted.head?.any (fun m => decide (c.seq < m)) then .stale
  else if c.cls = 1 ∧ overCap credit c.value = true then .overCap
  else if c.cls = 2 ∧ namedKinds c.value = [] then .badValue
  else if c.cls = 5 ∧ c.value ≠ 0 then .badValue
  else .ok

/-- Steps 1 to 9: the outcome, and the clear fields where step 6 was passed (R96 to R100). -/
def judgeCode (chars : List Byte) (s : State) : Verdict × Option Code :=
  match digitsOf chars with
  | none => (.badDigits, none)
  | some ds =>
    let n := decimal ds
    if 2 ^ 64 ≤ n then (.badFormat, none)
    else if s.code.keySet = false then (.noKey, none)
    else if 0 < s.code.lock then (.locked, none)
    else
      let p := clearPart n s.code.key
      if checkOf s.code.key p ≠ n % 2 ^ 16 then (.badCheck, none)
      else (judgeFields (clearFields p) s.code.accepted s.credit, some (clearFields p))

/-- A power limit clamped (R106). -/
def clampLimit (w : Nat) : Nat := if w = 0 then 0 else if w < 100 then 100 else min w 60000

/-- An emergency amount clamped (R107). -/
def clampEmergency (e : Nat) : Nat := min e 100000

/-- The applied value of an accepted code (R100). -/
def appliedValue (c : Code) : Nat :=
  match c.cls with
  | 1 => c.value
  | 2 => (kindSet (namedKinds c.value)).toNat
  | 3 => clampLimit c.value
  | 4 => clampEmergency c.value
  | _ => 0

/-- The class of an accepted code is applied (R104 to R107). -/
def applyCode (c : Code) (s : State) : State :=
  match c.cls with
  | 1 => addCredit c.value s
  | 2 => clearTamper (namedKinds c.value) c.seq s
  | 3 => applyPowerLimit (clampLimit c.value) s
  | 4 => setEmergencyAmount (clampEmergency c.value) s
  | 5 => resetCredit s
  | _ => s

/-- A sequence put in its place in the ascending list. -/
def insertSeq (q : Nat) : List Nat → List Nat
  | [] => [q]
  | x :: xs => if q < x then q :: x :: xs else x :: insertSeq q xs

/-- The list after an acceptance: at 40 entries the smallest is removed first (R101). -/
def acceptSeq (q : Nat) (l : List Nat) : List Nat := insertSeq q (if listTop ≤ l.length then l.drop 1 else l)

/-- Step 10: the class applied, the sequence inserted, the count 0 (R100). -/
def acceptCode (c : Code) (s : State) : State :=
  pageCode (overCode (fun u => { u with accepted := acceptSeq c.seq u.accepted, failCount := 0 }) (applyCode c s))

/-- A BAD_CHECK advances the count and at 5 brings the lock into force with 600 s (R102). -/
def CodeUnit.checkFailed (u : CodeUnit) : CodeUnit :=
  let n := min (u.failCount + 1) 5
  { u with failCount := n, lock := if n = 5 then 600 else u.lock }

/-- The effects of a judged code on everything but its report (R95 to R102). -/
def settleCode (v : Verdict) (c : Option Code) (s : State) : State :=
  match v, c with
  | .ok, some c => acceptCode c s
  | .badCheck, _ => pageCode (overCode CodeUnit.checkFailed s)
  | _, _ => s

/-! ### Reports (R91, R109, R110) -/

/-- Class and sequence in one 3-byte field, the class in the top 4 bits; 0 where none was found (R202). -/
def classSeqBytes (c : Option Code) : List Byte := leBytes 3 ((c.map fun c => c.cls * 2 ^ 20 + c.seq).getD 0)

/-- The kinds a CLEAR_TAMPER code clears and keeps, by the records it found (R105); empty for any other outcome. -/
def splitKinds (v : Verdict) (c : Option Code) (r : TamperRecords) : Byte × Byte :=
  match v, c with
  | .ok, some c =>
    if c.cls = 2 then (kindSet (clearedKinds r (namedKinds c.value)), kindSet (keptKinds r (namedKinds c.value)))
    else (0, 0)
  | _, _ => (0, 0)

/-- The applied value of a report: 0 for a refusal (R109). -/
def reportedValue (v : Verdict) (c : Option Code) : Nat :=
  match v, c with
  | .ok, some c => appliedValue c
  | _, _ => 0

/-- The applied value as a notice gives it: for CLEAR_TAMPER, the two sets (R91), filled up with a byte 0 to the applied
value's three bytes (assumption log 44). -/
def noticeValue (v : Verdict) (c : Option Code) (r : TamperRecords) : List Byte :=
  match v, c with
  | .ok, some d =>
    if d.cls = 2 then [(splitKinds v c r).1, (splitKinds v c r).2, 0] else leBytes 3 (appliedValue d)
  | _, _ => leBytes 3 0

/-- The detail of CODE_KEYPAD's CODE entry and of CODE_REMOTE: class and sequence, applied value, balance (R91, R109);
`r` are the records as the code found them. -/
def codeDetail (v : Verdict) (c : Option Code) (r : TamperRecords) (s : State) : List Byte :=
  classSeqBytes c ++ noticeValue v c r ++ leInt 4 s.credit.balance

/-- The result fields of a TOPUP (R109). -/
def topupResult (v : Verdict) (c : Option Code) (r : TamperRecords) (s : State) : List Byte :=
  [flagsByte [c.isSome]] ++ classSeqBytes c ++ leBytes 3 (reportedValue v c) ++
  [(splitKinds v c r).1, (splitKinds v c r).2] ++ leInt 4 s.credit.balance ++ [byteOf s.code.failCount] ++
  leBytes 2 s.code.lock

/-- The four entries, in the order of R193. -/
inductive Entry
  | confirm
  | emergency
  | short
  | fullCode
deriving DecidableEq, Repr

/-- R90's table lists CODE before SHORT; R91's and R193's lists, which define the entry a notice carries, list SHORT first
(assumption log 49). -/
def Entry.code : Entry → Nat
  | .confirm => 0
  | .emergency => 1
  | .short => 2
  | .fullCode => 3

/-- A CODE_KEYPAD notice and the KEYPAD attention cause (R91). -/
def keypadOutcome (e : Entry) (v : Verdict) (detail : List Byte) (s : State) : State :=
  raise .keypad (notice .codeKeypad (e.code + 4 * v.code) detail s)

/-! ### The arbiter (R93, R94) -/

/-- A TOPUP or KEY_SET slip. -/
def isCodeSlip (s : State) (n : Fin 16) : Bool := decide (slipKind s n = 1 ∨ slipKind s n = 2)

/-- The decoder is IDLE. -/
def decoderIdle (u : CodeUnit) : Bool := decide (u.decoder = .idle)

/-- A TOPUP or KEY_SET slip is taken by the decoder, its argument copied; a KEY_SET stores an UNSET key (R94, R108). -/
def takeCodeSlip (n : Fin 16) (s : State) : State :=
  let s1 := markTaken n s
  if slipKind s n = 1 then
    pageCode (overCode (fun u => { u with decoder := .decoding (.slip n true) (peekBytes s (slipBase n + 4) 20) }) s1)
  else
    let key := BitVec.ofNat 64 (slipArg s n 4 8)
    pageCode (overCode (fun u =>
      { u with decoder := .keying n true u.keySet, key := if u.keySet then u.key else key, keySet := true }) s1)

/-- A keypad submission is taken by the decoder (R93). -/
def takeSubmission (s : State) : State :=
  pageCode (overCode (fun u => { u with waitingSub := false, decoder := .decoding .keypad (lineChars u.line) }) s)

/-- The work is done: the decoder is IDLE, and the arbiter hands it to a waiting keypad submission, or to the oldest
waiting TOPUP or KEY_SET slip (R93, R180). -/
def arbitrate (s : State) : State :=
  let s1 := pageCode (overCode (fun u => { u with decoder := .idle }) s)
  if s1.code.waitingSub then takeSubmission s1
  else match s1.link.waiting.find? (isCodeSlip s1) with
    | some n => takeCodeSlip n s1
    | none => s1

/-- The hold ends with the line cleared and the idle timer restarted (R89, R92). -/
def endHold (s : State) : State :=
  pageCode (pageEntry (overCode (fun u => { u with line := [], held := false, idle := 0 }) s))

/-- The report of a decode: a keypad submission's CODE_KEYPAD and end of hold, a slip's result, or CODE_REMOTE where a
link reset has freed the slip (R91, R92, R109, R110). -/
def reportDecode (src : Source) (v : Verdict) (c : Option Code) (r : TamperRecords) (s : State) : State :=
  match src with
  | .keypad => endHold (keypadOutcome .fullCode v (codeDetail v c r s) s)
  | .slip n true => completeSlip n v (topupResult v c r s) s
  | .slip _ false => notice .codeRemote v.code (codeDetail v c r s) s

/-- A decode completes (R95). -/
def finishDecode (src : Source) (chars : List Byte) (s : State) : State :=
  let v := (judgeCode chars s).1
  let c := (judgeCode chars s).2
  arbitrate (reportDecode src v c s.tamper.records (settleCode v c s))

/-- A KEY_SET completes (R108). -/
def finishKeySet (n : Fin 16) (live locked : Bool) (s : State) : State :=
  arbitrate (if live then
    completeSlip n (if locked then .keyLocked else .ok) [byteOf s.code.keySet.toNat] s else s)

/-! ### The keypad (R85 to R92) -/

/-- A press is taken: not held, no other key down, the lockout clear (R86). -/
def pressTaken (u : CodeUnit) : Bool := !u.held && u.keysDown.isEmpty && !u.lockout

/-- The line is cleared. -/
def clearLine (s : State) : State := overCode (fun u => { u with line := [] }) s

/-- ENTER on 20 digits: held, and decoded at once or waiting for the decoder (R92, R93). -/
def submitLine (s : State) : State :=
  let s1 := overCode (fun u => { u with held := true }) s
  if decoderIdle s1.code then takeSubmission s1 else pageCode (overCode (fun u => { u with waitingSub := true }) s1)

/-- ENTER by the contents of the line (R90, R91). -/
def pressEnter (s : State) : State :=
  let line := s.code.line
  if line = [] then
    let v := confirmAnswer s.supply.machine
    let s1 := takeConfirm s
    keypadOutcome .confirm v [byteOf s1.supply.machine.code] s1
  else if line = [0] then
    let v := emergencyAnswer s.credit
    let s1 := clearLine (takeEmergency s)
    keypadOutcome .emergency v (byteOf s1.credit.emergency.code :: leInt 4 s1.credit.balance) s1
  else if line.length = 20 then submitLine s
  else keypadOutcome .short .badLength [byteOf line.length] (clearLine s)

/-- A taken key acts on the line (R88, R90). -/
def pressKey (k : Key) (s : State) : State :=
  match k with
  | .digit d => overCode (fun u => { u with line := if u.line.length < 20 then u.line ++ [d] else u.line }) s
  | .erase => overCode (fun u => { u with line := u.line.dropLast }) s
  | .enter => pressEnter s

/-- A taken press: KEYPAD raised, the idle timer restarted, the key's act, the line on the status page (R87). -/
def takePress (k : Key) (s : State) : State :=
  pageEntry (pressKey k (overCode (fun u => { u with idle := 0 }) (raise .keypad s)))

/-- A press event while the scanner runs; a press of a key that is down is none (R85, R86). -/
def scanPress (k : Key) (s : State) : State :=
  if k ∈ s.code.keysDown then s
  else if pressTaken s.code then takePress k (overCode (fun u => { u with keysDown := [k] }) s)
  else overCode (fun u => { u with keysDown := k :: u.keysDown, lockout := true }) s

/-- A release event while the scanner runs (R85, R86). -/
def scanRelease (k : Key) (s : State) : State :=
  if k ∈ s.code.keysDown then
    let left := s.code.keysDown.erase k
    overCode (fun u => { u with keysDown := left, lockout := u.lockout && !left.isEmpty }) s
  else s

/-- The idle timer has reached the timeout: a non-empty line is cleared (R89). -/
def idleExpires (s : State) : State := if s.code.line = [] then s else pageEntry (clearLine s)

/-- The idle timer counts while the scanner runs and the keypad is not held (R89). -/
def idleCounts (u : CodeUnit) : Bool := u.scanning && !u.held

/-- One offered tick of the idle timer. After n ticks the whole seconds since the press are n − 1 or n: at the tick that
makes n − 1 reach the timeout the expiry is past (R89; assumption log 6). -/
def idleSecond (s : State) : State :=
  if idleCounts s.code then
    let s1 := overCode (fun u => { u with idle := u.idle + 1 }) s
    if s.settings.idleTimeout < s1.code.idle then idleExpires s1 else s1
  else s

/-- The lock ends and the count becomes 0 (R103). -/
def endLock (s : State) : State := pageCode (overCode (fun u => { u with lock := 0, failCount := 0 }) s)

/-- One offered second of the lock (R103). -/
def lockSecond (s : State) : State :=
  if s.code.lock = 0 then s
  else if s.code.lock = 1 then endLock s
  else pageCode (overCode (fun u => { u with lock := u.lock - 1 }) s)

end Sys2Proof.Machine
end

