-- ==== Sys2Proof/Machine/LinkPort.lean ====
section
/-! DEFINITION. The link port (R175 to R190) and the requests that complete at their taking (R134, R181 to R184, R196,
R201): the dispatcher, the ownership judgement of host writes, link registers, link reset. -/

namespace Sys2Proof.Machine

/-! ### Requests that complete at their taking -/

/-- SUPPLY_ORDER: OPEN places ORDER, RELEASE removes it, and the machine acts (R134). -/
def takeSupplyOrder (n : Fin 16) (s : State) : State :=
  let arg := slipArg s n 4 1
  let s1 := markTaken n s
  if arg = 1 ∨ arg = 2 then
    let s2 := setCause .order (decide (arg = 1)) s1
    completeSlip n .ok
      [byteOf s2.supply.machine.code, s2.supply.causes.byte, byteOf s2.supply.causes.reason] s2
  else completeSlip n .badArgument [] s1

/-- W or K changes: the five windows are cleared (R148). -/
def clearWindows (old g : Settings) (s : State) : State :=
  if old.windowW ≠ g.windowW ∨ old.windowK ≠ g.windowK then s.withTamper { s.tamper with windows := Windows.empty }
  else s

/-- The idle timer compares its count with the new timeout (R89, R184). Where n ticks have passed and the timeout is n,
whether n whole seconds have is free (assumption log 6). -/
def judgeIdle (s : State) : State :=
  if idleCounts s.code then
    if s.settings.idleTimeout < s.code.idle then idleExpires s
    else if s.settings.idleTimeout = s.code.idle then freePick [idleExpires s, s] s
    else s
  else s

/-- A settings record is installed, and each block takes the new fields (R183, R184). -/
def installSettings (g : Settings) (s : State) : State :=
  evaluateCredit .settings (judgeIdle (clearWindows s.settings g (s.withSettings g)))

/-- The clamped fields' three bytes (R202). -/
def clampBytes (g : Settings) : List Byte := leBytes 3 (bitsNat g.clampMarks)

/-- A SETTINGS WRITE of an image in the open area (R183). -/
def settingsWrite (n : Fin 16) (off : Nat) (s : State) : State :=
  let g := Settings.ofImage (peekBytes s off 40)
  match g.badMinute with
  | some field => completeSlip n .badArgument [byteOf field] s
  | none =>
    completeSlip n (if g.clampMarks.any id then .okClamped else .ok) (0 :: clampBytes g)
      (installSettings g.clamped s)

/-- A SETTINGS FETCH (R182). -/
def settingsFetch (n : Fin 16) (off : Nat) (s : State) : State :=
  if meets off 40 (profileArea s) || meets off 40 (imageArea s) then completeSlip n .badArgument [] s
  else completeSlip n .ok [] (poke off s.settings.image s)

/-- SETTINGS: the offset is judged first, then the action (R182). -/
def takeSettings (n : Fin 16) (s : State) : State :=
  let off := slipArg s n 4 2
  let action := slipArg s n 6 1
  let s1 := markTaken n s
  if inOpenArea off 40 then
    if action = 1 then settingsWrite n off s1
    else if action = 2 then settingsFetch n off s1
    else completeSlip n .badArgument [] s1
  else completeSlip n .badArgument [] s1

/-- The periods a profile may have, in minutes (R196). -/
def periodLengths : List Nat := [1, 2, 3, 4, 5, 6, 10, 12, 15, 20, 30, 60]

/-- A PROFILE_SETUP's arguments are refused (R196). -/
def setupRefused (s : State) (off capacity d : Nat) : Bool :=
  decide (capacity < 1 ∨ 128 < capacity) || !inOpenArea off (16 * capacity) ||
  meets off (16 * capacity) (imageArea s) || decide (d + 1 ∉ periodLengths)

/-- How the period in progress closes at PROFILE_SETUP: NONE, RECORDED, UNRECORDED (R196, R202). -/
def closedAs (p : Profile) : Nat :=
  match p.period, p.desc with
  | some _, some d => if 0 < d.remaining then 1 else 2
  | _, _ => 0

/-- PROFILE_SETUP: the old period closes, the new descriptor is installed, a period opens (R196). -/
def takeProfileSetup (n : Fin 16) (s : State) : State :=
  let off := slipArg s n 4 2
  let capacity := slipArg s n 6 1
  let d := slipArg s n 7 1
  let remaining := slipArg s n 8 1
  let s1 := markTaken n s
  if setupRefused s off capacity d then completeSlip n .badArgument [] s1
  else
    let s2 := closePeriod false s1
    let s3 := openPeriod (s2.withProfile
      { s2.profile with desc := some ⟨off, capacity, d, remaining, 0⟩, unrecorded := 0 })
    completeSlip n .ok (byteOf (closedAs s.profile) :: leBytes 2 s2.profile.unrecorded) (pageProfile s3)

/-- The result fields of a CAPTURE (R201). -/
def captureResult (s : State) : List Byte :=
  leBytes 4 s.clock.count ++ [flagsByte [s.clock.valid]] ++ accumulatorBytes s.energy.billed ++
  leInt 4 s.credit.balance ++ leBytes 2 s.credit.debitRem ++
  [byteOf s.credit.state.code, byteOf s.credit.emergency.code] ++ leBytes 4 s.tariff.periodEnergy ++
  [byteOf s.supply.machine.code, s.supply.causes.byte] ++
  TamperKind.all.map fun k => byteOf (s.tamper.records.get k).status.code

/-- CAPTURE (R201). -/
def takeCapture (n : Fin 16) (s : State) : State := completeSlip n .ok (captureResult s) (markTaken n s)

/-- A kind value that names no kind (R181). -/
def takeUnknown (n : Fin 16) (s : State) : State := completeSlip n .badKind [] (markTaken n s)

/-! ### The dispatcher (R180) -/

/-- A posted slip is taken by the block that handles its kind (R180, R202). -/
def takeSlip (n : Fin 16) (s : State) : State :=
  match slipKind s n with
  | 1 => takeCodeSlip n s
  | 2 => takeCodeSlip n s
  | 3 => takeTariffLoad n s
  | 4 => takeClockSet n s
  | 5 => takeSupplyOrder n s
  | 6 => takeSettings n s
  | 7 => takeProfileSetup n s
  | 8 => takeCapture n s
  | _ => takeUnknown n s

/-- A TARIFF_LOAD slip. -/
def isLoadSlip (s : State) (n : Fin 16) : Bool := decide (slipKind s n = 3)

/-- The slip's block can accept it (R180). -/
def accepts (s : State) (n : Fin 16) : Bool :=
  if isCodeSlip s n then decoderIdle s.code && !s.code.waitingSub
  else if isLoadSlip s n then s.tariff.load.isNone
  else true

/-- A slip's state byte is written by the part or by an accepted host write. -/
def putSlipState (n : Fin 16) (st : SlipState) (s : State) : State := poke (slipBase n) [byteOf st.code] s

/-- A slip is posted: it joins the waiting list at its tail, and is taken when its block can accept it (R178, R180). -/
def postSlip (n : Fin 16) (s : State) : State :=
  let s1 := putSlipState n .posted (s.withLink { s.link with waiting := s.link.waiting ++ [n] })
  if accepts s1 n then takeSlip n s1 else s1

/-- After a load's completion the oldest waiting TARIFF_LOAD is taken; one refused at its taking leaves the block free
for the next (R180, assumption log 30). -/
def drainLoads : Nat → State → State
  | 0, s => s
  | fuel + 1, s =>
    if s.tariff.load.isSome then s
    else match s.link.waiting.find? (isLoadSlip s) with
      | some n => drainLoads fuel (takeTariffLoad n s)
      | none => s

/-! ### Host writes (R176 to R178, R192) -/

/-- A host byte is applied. -/
def putByte (a : Nat) (b : Byte) (s : State) : State := poke a [b] s

/-- A new read index is accepted when it lies in the span from the read index to the write index, round the ring (R192). -/
def inReadSpan (s : State) (v : Nat) : Bool :=
  decide (v < 32 ∧ (v + 256 - readIndex s) % 32 ≤ unread s)

/-- A host write to a state byte (R178). -/
def hostState (n : Fin 16) (b : Byte) (s : State) : State :=
  match slipState s n, b.toNat with
  | .free, 1 => postSlip n s
  | .posted, 0 => putSlipState n .free (s.withLink { s.link with waiting := s.link.waiting.erase n })
  | .done, 0 => attnUpdate (putSlipState n .free s)
  | _, _ => collide (slipBase n) s

/-- A slip's body belongs to the host while the slip is FREE or DONE (R176). -/
def hostBody (s : State) (n : Fin 16) : Bool := decide (slipState s n = .free ∨ slipState s n = .done)

/-- The slip a slip-region address lies in. -/
def slipOf (a : Nat) : Fin 16 := Fin.ofNat 16 ((a - 0x200) / 64)

/-- One byte of a host write is judged against the ownership as it stands (R172, R176, R177). -/
def hostByte (a : Nat) (b : Byte) (s : State) : State :=
  if isRunning s = false then collide a s
  else if a < 0x100 then collide a s
  else if a = 0x100 then
    if inReadSpan s b.toNat then attnUpdate (putByte a b s) else collide a s
  else if a < 0x200 then putByte a b s
  else if a < 0x600 then
    if (a - 0x200) % 64 = 0 then hostState (slipOf a) b s
    else if hostBody s (slipOf a) then putByte a b s else collide a s
  else if a < 0x800 then collide a s
  else if isIn a (profileArea s) || isIn a (imageArea s) then collide a s
  else putByte a b s

/-- Bytes of a host write one after another, 0xFFF followed by 0x000 (R175). -/
def hostBytes : Nat → List Byte → State → State
  | _, [], s => s
  | a, b :: bs, s => hostBytes ((a + 1) % 4096) bs (hostByte (a % 4096) b s)

/-! ### Transfers (R175, R185) -/

/-- The bytes shifted out by a transfer. -/
def withDataOut (bs : List Byte) (s : State) : State := s.withLink { s.link with dataOut := bs }

/-- A STORE_WRITE transfer; while the link port does not answer, nothing (R164, R175). -/
def storeWrite (addr : Nat) (data : List Byte) (s : State) : State :=
  let s1 := withDataOut [] s
  if linkUp s then hostBytes (addr % 4096) data s1 else s1

/-- The bytes a STORE_READ returns (R175). -/
def storeBytes (s : State) (addr n : Nat) : List Byte := (List.range n).map fun i => peek s ((addr + i) % 4096)

/-- A slip filled and posted: kind and arguments into the body, then POSTED (spec/09 section 9.3). -/
def postFilled (n : Fin 16) (kind : Byte) (args : List Byte) (s : State) : State :=
  let s1 := withDataOut [] s
  if linkUp s then
    hostBytes (slipBase n) [byteOf SlipState.posted.code]
      (hostBytes (slipBase n + 4) args (hostBytes (slipBase n + 1) [kind] s1))
  else s1

/-- AACK: each latched cause named, pending and in the seen set is cleared (R187). -/
def acknowledge (named : BitVec 9) (s : State) : State :=
  let gone := named &&& s.link.latched &&& s.link.seen
  attnUpdate (s.withLink { s.link with latched := s.link.latched &&& ~~~gone, seen := s.link.seen &&& ~~~gone })

/-- ACONF takes effect at its taking; its unused bits read 0 (R188, R202). -/
def writeAconf (v : Nat) (s : State) : State :=
  attnUpdate (s.withLink { s.link with aconf := BitVec.ofNat 24 (v % 2 ^ 21) })

/-- The load in flight, its area returned and its slip freed by a link reset (R53, R189). -/
def Load.detached (l : Load) : Load := { l with area := none, slip := none }

/-- The decoder, its slip freed by a link reset (R110, R189). -/
def Decoder.detached : Decoder → Decoder
  | .decoding (.slip n _) code => .decoding (.slip n false) code
  | .keying n _ locked => .keying n false locked
  | d => d

/-- A link reset (R189). -/
def linkReset (s : State) : State :=
  pageAll (((((((s.withStore []).withLink Link.empty).withStrip ⟨0, 0⟩).withProfile
    { s.profile with desc := s.profile.desc.map fun d => { d with remaining := 0 } }).withTariff
    { s.tariff with load := s.tariff.load.map Load.detached }).withCode
    { s.code with decoder := s.code.decoder.detached }))

/-- LCTL: CLEAR_COLLISION first, then LINK_RESET while RUNNING (R185, R189). -/
def control (v : Nat) (s : State) : State :=
  let s1 := if v % 2 = 1 then clearCollisionFlag s else s
  if v / 2 % 2 = 1 ∧ isRunning s = true then linkReset s1 else s1

/-- A REG_WRITE transfer: bytes not received count as 0, bytes beyond the register are ignored, and a register that
cannot be written is left (R175, R185). -/
def regWrite (addr : Nat) (data : List Byte) (s : State) : State :=
  let s1 := withDataOut [] s
  if linkUp s then
    match addr with
    | 2 => acknowledge (BitVec.ofNat 9 (leNat (data.take 2))) s1
    | 3 => writeAconf (leNat (data.take 3)) s1
    | 4 => control (leNat (data.take 1)) s1
    | _ => s1
  else s1

/-- A register's bytes as read: LSTAT, APEND, ACONF, IDENT; a register that is only written, and an address above 5,
read 0 (R175, R185; that a register only written reads 0 is assumption log 9's choice). -/
def registerBytes (s : State) (addr : Nat) : List Byte :=
  match addr with
  | 0 => lstatBytes s
  | 1 => apendBytes s
  | 3 => aconfBytes s
  | 5 => identBytes
  | _ => []

/-- A REG_READ of at least one byte: the register's snapshot, 0 beyond its length; of APEND it records the seen set
(R175, R185, R187). -/
def regRead (addr n : Nat) (s : State) : State :=
  if linkUp s && decide (0 < n) then
    let s1 := if addr = 1 then s.withLink { s.link with seen := s.link.latched } else s
    withDataOut (padTo n (registerBytes s addr)) s1
  else withDataOut [] s

/-- The host clocks a transfer of these whole bytes: the command they spell joins the back of the queue, and a transfer
that spells none leaves the part as it is (R175; assumption log 9). -/
def State.withTransfer (s : State) (bytes : List Byte) : State :=
  match Sys2Proof.readTransfer bytes with
  | some c => s.withPending (s.pending ++ [c])
  | none => s

end Sys2Proof.Machine
end

