-- ==== Sys2Proof/Machine/PowerLogic.lean ====
section
/-! DEFINITION. The power logic (R164 to R174, R194): frames taken by all blocks, entry to HOLDUP, WATCH and DARK,
the six steps of start-up, the low-battery judgement. -/

namespace Sys2Proof.Machine

/-- An update of the power logic's record. -/
def overPower (f : Power → Power) (s : State) : State := s.withPower (f s.power)

/-! ### Frames (R1 to R9) -/

/-- A signed value limited to ± `top` (R2). -/
def limit (top : Int) (v : Int) : Int := max (-top) (min v top)

/-- The samples of the interval reach the frame in progress: its elapsed time and mean values (R1, R4; assumption log
7). -/
def gather (elapsed : Nat) (m : Means) (s : State) : State := s.withFront { s.front with progress := ⟨elapsed, m⟩ }

/-- The frame in progress as it closes: saturation, over-range mark, sequence, aux reading (R1 to R3, R12). -/
def makeFrame (s : State) : Frame :=
  let m := s.front.progress.means
  { seq := if s.front.seq = countTop then 1 else s.front.seq + 1
    v := min m.v 3000
    iL := min m.iL 120000
    iN := min m.iN 120000
    pL := limit 30000000 m.pL
    pN := limit 30000000 m.pN
    duration := s.front.progress.elapsed
    overRange := decide (3000 < m.v ∨ 120000 < m.iL ∨ 120000 < m.iN ∨
      m.pL ≠ limit 30000000 m.pL ∨ m.pN ≠ limit 30000000 m.pN)
    loadV := s.conv.loadV.sample
    magnet := s.conv.magnet.sample
    battery := s.conv.battery.sample }

/-- The front end closes a frame: the last closed frame, the sequence, and the three channels taken; the next frame in
progress opens empty (R3, R5, R12). -/
def putFrame (f : Frame) (s : State) : State :=
  (s.withFront { s.front with seq := f.seq, last := some f, progress := Progress.empty }).withConv s.conv.takeAll

/-- A fresh BATTERY value of a frame (R194). -/
def freshBattery (f : Frame) : Option Nat := if f.battery.fresh then f.battery.value else none

/-- The low-battery judgement fires (R194). -/
def batteryFires (f : Frame) (spent : Bool) : Bool :=
  match freshBattery f with
  | some v => !spent && decide (v < 2600)
  | none => false

/-- The low-battery judgement of a frame (R194). -/
def batteryFrame (f : Frame) (s : State) : State :=
  match freshBattery f with
  | some v =>
    if !s.power.spent && decide (v < 2600) then
      notice .batteryLow 0 (leBytes 2 v) (overPower (fun p => { p with spent := true }) s)
    else if s.power.spent && decide (2800 < v) then overPower (fun p => { p with spent := false }) s
    else s
  | none => s

/-- The orders in which tamper watch, energy register block and supply controller may take a frame in RUNNING: the tamper
watch before the energy register block (R22), and, with the machine CLOSED, the supply controller after the billed power
it judges (R130) and after the carries of the same frame (assumption log 56); its place is free in every other state
(R153, R191; assumption log 11). -/
def frameOrders (f : Frame) (machine : MachineState) : List (List (State → State)) :=
  let supply := fun s : State => supplyFrame f s.energy.power s
  if machine = .closed then [[tamperFrame f, energyFrame f, supply]]
  else [[tamperFrame f, energyFrame f, supply], [tamperFrame f, supply, energyFrame f],
    [supply, tamperFrame f, energyFrame f]]

/-- Those orders with the low-battery judgement: its place is free where it writes a notice, and does not show otherwise
(R191, R194; assumption log 11). -/
def takingOrders (f : Frame) (s : State) : List (List (State → State)) :=
  let os := frameOrders f s.supply.machine
  if batteryFires f s.power.spent then os.flatMap (insertions (batteryFrame f))
  else os.map (· ++ [batteryFrame f])

/-- A normal frame is offered to the blocks, and its fields are written to the status page (R6, R9, R191). -/
def offerFrame (f : Frame) (s : State) : State :=
  pageFrame (profileFrame f.v (freePick ((takingOrders f s).map fun o => runAll o s) s))

/-- A normal frame close (R5). -/
def closeFrame (m : Means) (s : State) : State :=
  let s0 := gather 1000 m s
  let f := makeFrame s0
  offerFrame f (putFrame f s0)

/-- The final frame, in HOLDUP: no supply controller, no notice (R7, R126, R147, R191). -/
def closeFinalFrame (elapsed : Nat) (m : Means) (s : State) : State :=
  let s0 := gather elapsed m s
  let f := makeFrame s0
  profileFrame f.v (batteryFrame f (energyFrame f (tamperFrame f (putFrame f s0))))

/-! ### Entry to HOLDUP (R165, R166) -/

/-- The power state becomes HOLDUP: the loss record from RUNNING, the link port and the store lost (R165, R166). -/
def beginHoldup (reason : EntryReason) (s : State) : State :=
  let record := if isRunning s then some ⟨now s, reason⟩ else s.power.loss
  (((overPower (fun p => { p with state := .holdup, stage := .begun, holdupDone := false, loss := record }) s).withStore
    []).withLink Link.empty).withStrip ⟨0, 0⟩

/-- The supply controller at entry: a running pulse runs on, otherwise an attempt is abandoned; the retry timer is
lost (R126). -/
def supplyHoldup (s : State) : State :=
  let s1 := overSupply (fun p => { p with retry := 0 }) s
  if s1.supply.coil.isSome then s1 else markUnverified s1

/-- A KEY_SET in flight that stored its key is cut short: whether its retained update had begun is free, and where it
had not the key state stays UNSET (R108; assumption log 23). -/
def cutKeySet (s : State) : State :=
  match s.code.decoder with
  | .keying _ _ false => freePick [s, overCode (fun u => { u with key := 0, keySet := false }) s] s
  | _ => s

/-- The blocks' hold-up work after the final frame, if any (R165): each touches its own state. A decode in flight and a
load in flight are abandoned: the retained update of each lies whole within its completion command (R53, R110; assumption
log 58). -/
def holdupWork (s : State) : State :=
  let s1 := s.withFront { s.front with running := false, progress := Progress.empty }
  let s2 := discardBacklog (s1.withConv s1.conv.abandon)
  let s3 := s2.withTariff { s2.tariff with load := none }
  let s4 := overCode CodeUnit.volatileReset (cutKeySet s3)
  savePeriod (supplyHoldup s4)

/-- Loss of mains in MAINS (R7, R165). -/
def loseMains (elapsed : Nat) (m : Means) (s : State) : State :=
  let ms := min elapsed 999
  let s1 := beginHoldup .mainsLoss s
  holdupWork (if s.front.running = true ∧ 1 ≤ ms then closeFinalFrame ms m s1 else s1)

/-- RESETN pulled low in MAINS (R8, R174). -/
def pullReset (s : State) : State := holdupWork (beginHoldup .resetn s)

/-! ### WATCH and DARK (R167 to R169) -/

/-- Entry to WATCH: AWAKE, the hold timer, a BATTERY conversion (R17, R167). -/
def enterWatch (s : State) : State :=
  (overPower (fun p =>
    { p with state := .watch, holdupDone := false, watch := .awake, holdTimer := s.settings.holdTime,
             wakeTimer := 0 }) s).withConv (s.conv.start .battery)

/-- The battery domain is lost: clock, settled positions, continuity mark (R40, R145, R169). -/
def loseDomain (s : State) : State :=
  (overPower (fun p => { p with continuity := false }) (s.withClock s.clock.stop)).withTamper
    { s.tamper with caseSettled := none, coverSettled := none }

/-- Entry to DARK (R169). -/
def enterDark (battery : Nat) (s : State) : State :=
  loseDomain ((overPower (fun p =>
    { p with state := .dark, dark := some ⟨now s, battery⟩, darkSinceMark := true, holdTimer := 0,
             wakeTimer := 0 }) s).withConv s.conv.abandon)

/-- What a conversion of a channel reads: a battery that is absent reads below 2,200 mV (R167). -/
def Channel.reads (ch : Channel) (p : Pins) (v : Nat) : Nat :=
  match ch with
  | .battery => if p.battery then v else min v 2199
  | .loadV => v
  | .magnet => v

/-- A WATCH conversion completes: BATTERY written, taken and judged (R17, R167). -/
def watchConversion (v : Nat) (s : State) : State :=
  let value := min (Channel.battery.reads s.pins v) Channel.battery.top
  let s1 := s.withConv { s.conv with battery := ⟨some value, false, false⟩, inFlight := none }
  if value < 2200 then enterDark value s1
  else if s.power.watch = .timedWake then overPower (fun p => { p with watch := .asleep, wakeTimer := 60 }) s1
  else s1

/-- A switch input changes in WATCH (R167). -/
def watchChange (s : State) : State :=
  let s1 := overPower (fun p =>
    { p with watch := .awake, holdTimer := s.settings.holdTime, wakeTimer := 0 }) s
  if s.power.watch = .asleep then s1.withConv (s.conv.start .battery) else s1

/-! ### Start-up (R170 to R173) -/

/-- Mains powers the battery domain again: the clock restarts where it stood in DARK, or had lost its power with the
battery (R40; assumption log 21). -/
def powerClock (s : State) : State :=
  if s.power.state = .dark ∨ s.clock.running = false then s.withClock s.clock.restart else s

/-- Start-up begins: the measurement state (R18) and every volatile item (R26, R37, R111, R135, R146, R190, R194,
R195). CREDIT and TAMPER in the cause set keep their values until step 4 rebuilds them (assumption log 48). -/
def beginStartUp (s : State) : State :=
  let s1 := ((s.withFront FrontEnd.startUp).withConv Converter.startUp).withEnergy
    { s.energy with power := 0, basis := .none, clamp := false, backlog := 0, pulse := .idle }
  let s2 := overCode CodeUnit.volatileReset (overSupply (fun p =>
    { p with attempt := none, coil := none, retry := 0, overCount := 0 }) s1)
  let s3 := (s2.withTamper { s2.tamper with windows := Windows.empty }).withProfile
    { s2.profile with period := none }
  let s4 := ((s3.withStore []).withLink Link.empty).withStrip ⟨0, 0⟩
  overPower (fun p =>
    { p with state := .mains, stage := .begun, holdupDone := false, watch := .awake, holdTimer := 0,
             wakeTimer := 0, spent := false }) s4

/-- Factory state: every retained item takes its first-start value (R34, R42, R62, R82, R111, R135, R162, R166, R168,
R169, R170, R195). -/
def factoryState (s : State) : State :=
  let s1 := (((s.withEnergy { s.energy with
      billed := Accumulator.zero, phaseFwd := Accumulator.zero, phaseRev := Accumulator.zero,
      neutral := Accumulator.zero }).withClock { s.clock with announced := none }).withTariff
      TariffUnit.factory).withCredit Credit.factory
  let s2 := ((s1.withCode CodeUnit.factory).withSupply Supply.factory).withTamper
      { s1.tamper with records := TamperRecords.factory }
  let s3 := (s2.withProfile Profile.factory).withSettings Settings.default
  overPower (fun p => { p with loss := none, dark := none, events := [], overflow := 0 }) s3

/-- Retained memory is valid: the format mark present and the check agreeing (R170). -/
def retainedValid (p : Power) : Bool := p.formatMark && p.checkOk

/-- The settled positions are set from the records (R145). -/
def settleFromRecords (s : State) : State :=
  s.withTamper { s.tamper with
    caseSettled := some (settledFor s.tamper.records.caseOpen)
    coverSettled := some (settledFor s.tamper.records.cover) }

/-- Step 1: the continuity mark read and set, retained memory judged, the settled positions (R145, R170). -/
def startStep1 (s : State) : State :=
  let valid := retainedValid s.power
  let absent := !s.power.continuity
  let s1 := if valid then s else factoryState s
  let s2 := if absent || !valid then settleFromRecords s1 else s1
  overPower (fun p =>
    { p with stage := .checked, continuity := true, darkSinceMark := false, formatMark := true, checkOk := true,
             startFactory := !valid, startMarkAbsent := absent,
             startDark := if p.darkSinceMark then p.dark else none }) s2

/-- Step 2: the store cleared and the status page written; LSTAT reads STARTING (R171, R190). -/
def startStep2 (s : State) : State :=
  pageAll ((((overPower (fun p => { p with stage := .cleared }) s).withStore []).withLink Link.empty).withStrip ⟨0, 0⟩)

/-- A battery event's replayed notice (R171, assumption log 15). -/
def replayEvent (e : BatteryEvent) (s : State) : State :=
  match e.position with
  | .opened => tamperOn (switchKind e.switch) true e.time e.before .active e.count [] s
  | .closed => tamperOff (switchKind e.switch) true e.time e.count e.first (some e.time) s

/-- The outage of POWER_BACK: present where the loss record and the continuity mark were, else "clock lost" or "no
record" (R171). A present count below the record's gives no difference: a free value (assumption log 47). -/
def outage (s : State) : Nat :=
  match s.power.loss with
  | some l =>
    if s.power.startMarkAbsent then 0
    else if l.time.count ≤ s.clock.count then s.clock.count - l.time.count
    else Config.outageBelow l.time.count s.clock.count
  | none => 0

/-- The POWER_BACK notice, subject the start reason (R171). Its flags mark what is absent (assumption log 50). -/
def powerBackNotice (replayed : Nat) (s : State) : State :=
  let reason := match s.power.loss with
    | some l => if l.reason = .resetn then 1 else 0
    | none => 0
  let lossValid := match s.power.loss with
    | some l => l.time.valid
    | none => false
  let clockLost := s.power.loss.isSome && s.power.startMarkAbsent
  notice .powerBack reason
    ([flagsByte [s.power.startFactory, clockLost, s.power.loss.isNone, lossValid, s.clock.valid]] ++
      leBytes 4 (outage s) ++ [byteOf replayed, byteOf s.power.overflow]) s

/-- The WATCH_LOST notice: the dark record, or "no record" (R171), which its flag marks (assumption log 50). -/
def watchLostNotice (s : State) : State :=
  match s.power.startDark with
  | some d =>
    notice .watchLost 0 (leBytes 4 d.time.count ++ [flagsByte [d.time.valid, false]] ++ leBytes 2 d.battery) s
  | none => notice .watchLost 0 (leBytes 4 0 ++ [flagsByte [false, true]] ++ leBytes 2 0) s

/-- Step 3: the start-up notices, the event list emptied, the interrupted period closed and a period opened (R171,
R200). -/
def startStep3 (s : State) : State :=
  let s1 := s.power.events.foldl (fun s e => replayEvent e s) s
  let s2 := powerBackNotice s.power.events.length s1
  let s3 := overPower (fun p => { p with events := [], overflow := 0 }) s2
  let s4 := if s.power.startMarkAbsent then watchLostNotice s3 else s3
  overPower (fun p => { p with stage := .replayed }) (resumePeriods s4)

/-- Step 4: the credit evaluation, the cause set rebuilt, the lamp driven (R83, R127, R157, R173). -/
def startStep4 (s : State) : State :=
  let s1 := setCause .tamper (disconnects s.tamper.records) (startCredit s)
  pageSwitches (overPower (fun p => { p with stage := .recomputed }) s1)

/-- Step 6: the front end and the scanner begin, LSTAT reads RUNNING, START is raised (R4, R85, R86, R173). -/
def startStep6 (s : State) : State :=
  let s1 := overPower (fun p => { p with stage := .running })
    (s.withFront { s.front with running := true, progress := Progress.empty })
  raise .start (overCode (fun u =>
    { u with scanning := true, idle := 0, keysDown := [], lockout := !s.pins.keys.isEmpty }) s1)

/-- Step 5, with the LOAD_V value taken, and step 6 (R14, R128, R129, R173). -/
def startStep56 (loadV : Nat) (s : State) : State :=
  startStep6 (resolveSupply loadV (s.withConv { s.conv with loadV := s.conv.loadV.taken }))

/-- The re-verification step takes LOAD_V as soon as it is fresh (R14). -/
def tryReverify (s : State) : State :=
  if s.power.state = .mains ∧ s.power.stage = .recomputed then
    match s.conv.loadV.value with
    | some v => if s.conv.loadV.fresh then startStep56 v s else s
    | none => s
  else s

/-- The next step of a start-up (R170). -/
def nextStep (s : State) : State :=
  match s.power.stage with
  | .begun => startStep1 s
  | .checked => startStep2 s
  | .cleared => startStep3 s
  | .replayed => tryReverify (startStep4 s)
  | .recomputed => tryReverify s
  | .running => s

/-- Steps are done until `upTo` of them are (assumption log 3). -/
def stepsTo : Nat → Nat → State → State
  | 0, _, s => s
  | fuel + 1, upTo, s => if s.power.stage.num < upTo then stepsTo fuel upTo (nextStep s) else s

/-- Start-up begins and runs its steps 1 to `upTo` (R170). -/
def startUp (upTo : Nat) (s : State) : State := stepsTo 4 upTo (beginStartUp s)

/-- With no command waiting: a start-up left part-way goes on by one step, and otherwise the part idles (R170;
assumption log 2). -/
def idle (s : State) : State :=
  if s.power.state = .mains ∧ s.power.stage.num < 4 then nextStep s else s

/-- HOLDUP entered from WATCH or DARK with RESETN low, hold-up completion already reached (R164). -/
def holdInReset (s : State) : State :=
  (overPower (fun p => { p with state := .holdup, holdupDone := true, holdTimer := 0, wakeTimer := 0 }) s).withConv
    s.conv.abandon

end Sys2Proof.Machine
end

