-- ==== Sys2Proof/Machine/Completions.lean ====
section
/-! DEFINITION. The completions of work that takes time: DECODE_COMPLETION, KEY_SET_COMPLETION,
TARIFF_LOAD_COMPLETION. -/

namespace Sys2Proof.Machine

/-- DECODE_COMPLETION (R95). -/
def execDecodeCompletion (s : State) : Host.Outcome State Fault Refusal :=
  .next (match s.code.decoder with
    | .decoding src chars => if isRunning s then finishDecode src chars s else s
    | _ => s)

/-- KEY_SET_COMPLETION (R108). -/
def execKeySetCompletion (s : State) : Host.Outcome State Fault Refusal :=
  .next (match s.code.decoder with
    | .keying n live locked => if isRunning s then finishKeySet n live locked s else s
    | _ => s)

/-- TARIFF_LOAD_COMPLETION (R52, R180). -/
def execTariffLoadCompletion (s : State) : Host.Outcome State Fault Refusal :=
  .next (match s.tariff.load with
    | some l => if isRunning s then drainLoads 16 (finishLoad l s) else s
    | none => s)

end Sys2Proof.Machine
end

