-- ==== Sys2Proof/Machine/Keypad.lean ====
section
/-! DEFINITION. The commands of the keypad: KEY_PRESS, KEY_RELEASE. The input follows the finger; the scanner gives
events while it runs (R85). -/

namespace Sys2Proof.Machine

/-- A key input reads down. -/
def Pins.press (p : Pins) (k : Key) : Pins := { p with keys := if k ∈ p.keys then p.keys else k :: p.keys }

/-- A key input reads up. -/
def Pins.release (p : Pins) (k : Key) : Pins := { p with keys := p.keys.filter fun x => decide (x ≠ k) }

/-- The scanner runs (R85). -/
def scans (s : State) : Bool := isRunning s && s.code.scanning

/-- KEY_PRESS (R86 to R92). -/
def execKeyPress (k : Key) (s : State) : Host.Outcome State Fault Refusal :=
  let s1 := s.withPins (s.pins.press k)
  .next (if scans s then scanPress k s1 else s1)

/-- KEY_RELEASE (R86). -/
def execKeyRelease (k : Key) (s : State) : Host.Outcome State Fault Refusal :=
  let s1 := s.withPins (s.pins.release k)
  .next (if scans s then scanRelease k s1 else s1)

end Sys2Proof.Machine
end

