-- ==== Sys2Proof/Machine/Measurement.lean ====
section
/-! DEFINITION. The commands of the measurement front end, the auxiliary converter and the test-pulse output: FRAME_CLOSE,
CONVERSION_COMPLETE, TEST_PULSE_HIGH_EXPIRY, TEST_PULSE_LOW_GAP_EXPIRY. -/

namespace Sys2Proof.Machine

/-- FRAME_CLOSE (R5): a frame in progress is open only in RUNNING (R4). -/
def execFrameClose (m : Means) (s : State) : Host.Outcome State Fault Refusal :=
  .next (if s.front.running = true ∧ isRunning s = true then closeFrame m s else s)

/-- A conversion completes in MAINS: written or discarded, the next begun, and a waiting re-verification served (R11,
R14, R16). -/
def mainsConversion (ch : Channel) (v : Nat) (s : State) : State :=
  tryReverify (s.withConv ((s.conv.set ch ((s.conv.get ch).complete ch (ch.reads s.pins v))).start ch.succ))

/-- CONVERSION_COMPLETE (R11, R17). -/
def execConversionComplete (v : Nat) (s : State) : Host.Outcome State Fault Refusal :=
  .next (match s.conv.inFlight, s.power.state with
    | some ch, .mains => mainsConversion ch v s
    | some _, .watch => watchConversion v s
    | _, _ => s)

/-- TEST_PULSE_HIGH_EXPIRY (R35). -/
def execTestPulseHighExpiry (s : State) : Host.Outcome State Fault Refusal :=
  .next (if s.energy.pulse = .high then pulseHighEnds s else s)

/-- TEST_PULSE_LOW_GAP_EXPIRY (R35, R36). -/
def execTestPulseLowGapExpiry (s : State) : Host.Outcome State Fault Refusal :=
  .next (if s.energy.pulse = .lowGap then pulseGapEnds s else s)

end Sys2Proof.Machine
end

