-- ==== Sys2Proof/Machine/PowerEvents.lean ====
section
/-! DEFINITION. The power events: MAINS_LOSS, RESETN_LOW, HOLDUP_COMPLETION, RESETN_RELEASE, MAINS_RETURN,
RE_VERIFICATION. Each moves its pin, and the power state as the table of R164 says. -/

namespace Sys2Proof.Machine

/-- MAINS_LOSS (R7, R164, R165, R174). -/
def execMainsLoss (elapsed : Nat) (m : Means) (s : State) : Host.Outcome State Fault Refusal :=
  let s1 := s.withPins { s.pins with mains := false }
  .next (match s.power.state with
    | .mains => loseMains elapsed m s1
    | .holdup => if s.power.holdupDone = true ∧ s.pins.mains = true then enterWatch s1 else s1
    | .watch => s1
    | .dark => s1)

/-- RESETN_LOW (R8, R164, R174). -/
def execResetnLow (s : State) : Host.Outcome State Fault Refusal :=
  let s1 := s.withPins { s.pins with resetnHigh := false }
  .next (if s.power.state = .mains then pullReset s1 else s1)

/-- The hold-up work ends: a coil pulse still running ends first (R126, R165, assumption log 24). -/
def holdupEnds (upTo : Nat) (s : State) : State :=
  let s1 := if s.supply.coil.isSome then endPulse s else s
  let s2 := overPower (fun p => { p with holdupDone := true }) s1
  if s2.pins.mains = false then enterWatch s2
  else if s2.pins.resetnHigh then startUp upTo s2
  else s2

/-- HOLDUP_COMPLETION (R164, R165). -/
def execHoldupCompletion (upTo : Fin 5) (s : State) : Host.Outcome State Fault Refusal :=
  .next (if s.power.state = .holdup ∧ s.power.holdupDone = false then holdupEnds upTo.val s else s)

/-- RESETN_RELEASE (R164, R174). -/
def execResetnRelease (upTo : Fin 5) (s : State) : Host.Outcome State Fault Refusal :=
  let s1 := s.withPins { s.pins with resetnHigh := true }
  .next (if s.power.state = .holdup ∧ s.power.holdupDone = true ∧ s.pins.mains = true ∧ s.pins.resetnHigh = false
    then startUp upTo.val s1 else s1)

/-- MAINS_RETURN (R40, R164). -/
def execMainsReturn (upTo : Fin 5) (s : State) : Host.Outcome State Fault Refusal :=
  let s1 := powerClock (s.withPins { s.pins with mains := true })
  .next (if s.power.state = .watch ∨ s.power.state = .dark then
      if s.pins.resetnHigh then startUp upTo.val s1 else holdInReset s1
    else s1)

/-- RE_VERIFICATION (R129, R173): the start-up reaches its re-verification step, which takes LOAD_V where it is
fresh. -/
def execReVerification (s : State) : Host.Outcome State Fault Refusal :=
  .next (if s.power.state = .mains then tryReverify (stepsTo 4 4 s) else s)

end Sys2Proof.Machine
end

