-- ==== Sys2Proof/Machine/Registers.lean ====
section
/-! DEFINITION. The register transfers and the ATTN pulse: APEND_READ, AACK_WRITE, ACONF_WRITE, CLEAR_COLLISION, LINK_RESET,
REG_WRITE_IGNORED, OPERATION_IGNORED, ATTN_PULSE_END. -/

namespace Sys2Proof.Machine

/-- APEND_READ (R187), and the read of any other register (R175, R185). -/
def execApendRead (r : RegisterRead) (s : State) : Host.Outcome State Fault Refusal :=
  .next (regRead r.addr.toNat r.count s)

/-- AACK_WRITE (R187): register 2. -/
def execAackWrite (data : List Byte) (s : State) : Host.Outcome State Fault Refusal := .next (regWrite 2 data s)

/-- ACONF_WRITE (R188): register 3. -/
def execAconfWrite (data : List Byte) (s : State) : Host.Outcome State Fault Refusal := .next (regWrite 3 data s)

/-- CLEAR_COLLISION (R177, R185): register 4, bit 0. -/
def execClearCollision (s : State) : Host.Outcome State Fault Refusal := .next (regWrite 4 [1] s)

/-- LINK_RESET (R185, R189): register 4, bit 1, with bit 0 too where the write names both controls. -/
def execLinkReset (clearToo : Bool) (s : State) : Host.Outcome State Fault Refusal :=
  .next (regWrite 4 [if clearToo then 3 else 2] s)

/-- REG_WRITE_IGNORED (R175, R185). -/
def execRegWriteIgnored (addr : BitVec 16) (data : List Byte) (s : State) : Host.Outcome State Fault Refusal :=
  .next (regWrite addr.toNat data s)

/-- OPERATION_IGNORED (R175): `n` further bytes are clocked, and data out reads 0. -/
def execOperationIgnored (_op : Byte) (n : Nat) (s : State) : Host.Outcome State Fault Refusal :=
  .next (withDataOut (if linkUp s then List.replicate n 0 else []) s)

/-- ATTN_PULSE_END (R188). -/
def execAttnPulseEnd (s : State) : Host.Outcome State Fault Refusal :=
  .next (if s.link.attnPulse then s.withLink { s.link with attnPulse := false } else s)

end Sys2Proof.Machine
end

