-- ==== Sys2Proof/Machine/Requests.lean ====
section
/-! DEFINITION. The store transfers and the posted slips: STORE_READ, STORE_WRITE, TOPUP, KEY_SET, TARIFF_LOAD, CLOCK_SET,
SUPPLY_ORDER_OPEN, SUPPLY_ORDER_RELEASE, SETTINGS_WRITE, SETTINGS_FETCH, PROFILE_SETUP, CAPTURE, SLIP_KIND_UNKNOWN. A slip
command fills the slip's body and posts it (assumption log 8). -/

namespace Sys2Proof.Machine

/-- STORE_READ (R175): a run of bytes as they stand at this event, after those of the transfer it carries on (assumption
log 9). -/
def execStoreRead (addr : BitVec 16) (run : ReadRun) (s : State) : Host.Outcome State Fault Refusal :=
  .next (withDataOut ((if run.goesOn then s.link.dataOut else []) ++
    (if linkUp s then storeBytes s addr.toNat run.count else [])) s)

/-- STORE_WRITE (R175 to R178). -/
def execStoreWrite (addr : BitVec 16) (data : List Byte) (s : State) : Host.Outcome State Fault Refusal :=
  .next (storeWrite addr.toNat data s)

/-- TOPUP, kind 1: the 20 code characters (R94). -/
def execTopup (n : Fin 16) (chars : List Byte) (s : State) : Host.Outcome State Fault Refusal :=
  .next (postFilled n 1 chars s)

/-- KEY_SET, kind 2: the key (R108). -/
def execKeySet (n : Fin 16) (key : BitVec 64) (s : State) : Host.Outcome State Fault Refusal :=
  .next (postFilled n 2 (leBytes 8 key.toNat) s)

/-- TARIFF_LOAD, kind 3: the image offset (R50). -/
def execTariffLoad (n : Fin 16) (off : BitVec 16) (s : State) : Host.Outcome State Fault Refusal :=
  .next (postFilled n 3 (leBytes 2 off.toNat) s)

/-- CLOCK_SET, kind 4: the new time (R46). -/
def execClockSet (n : Fin 16) (time : BitVec 32) (s : State) : Host.Outcome State Fault Refusal :=
  .next (postFilled n 4 (leBytes 4 time.toNat) s)

/-- SUPPLY_ORDER with OPEN, kind 5 (R134). -/
def execSupplyOrderOpen (n : Fin 16) (s : State) : Host.Outcome State Fault Refusal :=
  .next (postFilled n 5 [1] s)

/-- SUPPLY_ORDER with RELEASE, kind 5 (R134). -/
def execSupplyOrderRelease (n : Fin 16) (s : State) : Host.Outcome State Fault Refusal :=
  .next (postFilled n 5 [2] s)

/-- SETTINGS with WRITE, kind 6 (R182, R183). -/
def execSettingsWrite (n : Fin 16) (off : BitVec 16) (s : State) : Host.Outcome State Fault Refusal :=
  .next (postFilled n 6 (leBytes 2 off.toNat ++ [1]) s)

/-- SETTINGS with FETCH, kind 6 (R182). -/
def execSettingsFetch (n : Fin 16) (off : BitVec 16) (s : State) : Host.Outcome State Fault Refusal :=
  .next (postFilled n 6 (leBytes 2 off.toNat ++ [2]) s)

/-- PROFILE_SETUP, kind 7 (R196). -/
def execProfileSetup (n : Fin 16) (off : BitVec 16) (capacity d remaining : Byte) (s : State) :
    Host.Outcome State Fault Refusal :=
  .next (postFilled n 7 (leBytes 2 off.toNat ++ [capacity, d, remaining]) s)

/-- CAPTURE, kind 8 (R201). -/
def execCapture (n : Fin 16) (s : State) : Host.Outcome State Fault Refusal :=
  .next (postFilled n 8 [] s)

/-- A slip of a kind value that names no kind (R181). -/
def execSlipKindUnknown (n : Fin 16) (kind : Byte) (s : State) : Host.Outcome State Fault Refusal :=
  .next (postFilled n kind [] s)

end Sys2Proof.Machine
end

