-- ==== Sys2Proof/Machine/Switches.lean ====
section
/-! DEFINITION. The commands of the tamper switches and of the battery watch: SWITCH_CHANGE, SWITCH_EVENT,
HOLD_TIMER_EXPIRY, TIMED_WAKE, BATTERY_REMOVED, BATTERY_FITTED. -/

namespace Sys2Proof.Machine

/-- A switch input with its new reading. -/
def Pins.turn (p : Pins) (w : SwitchId) (x : Position) : Pins :=
  match w with
  | .caseSw => { p with caseSw := x }
  | .coverSw => { p with coverSw := x }

/-- SWITCH_CHANGE (R140, R167): the debounce begins, and in WATCH the part wakes. -/
def execSwitchChange (w : SwitchId) (x : Position) (s : State) : Host.Outcome State Fault Refusal :=
  let s1 := s.withPins (s.pins.turn w x)
  .next (if s.pins.switch w = x then s
    else if s.power.state = .watch then watchChange s1 else s1)

/-- The switch watch runs in MAINS and HOLDUP, and in WATCH, where an event always finds the part AWAKE (R140, R167). -/
def watchesSwitches (p : Power) : Bool :=
  match p.state with
  | .mains => true
  | .holdup => true
  | .watch => decide (p.watch = .awake)
  | .dark => false

/-- A switch's input differs from its settled position (R140). -/
def switchDiffers (w : SwitchId) (s : State) : Bool :=
  match s.tamper.settled w with
  | some p => decide (s.pins.switch w ≠ p)
  | none => false

/-- SWITCH_EVENT (R140 to R144). -/
def execSwitchEvent (w : SwitchId) (s : State) : Host.Outcome State Fault Refusal :=
  .next (if watchesSwitches s.power = true ∧ switchDiffers w s = true
    then switchSettles w (s.pins.switch w) s else s)

/-- HOLD_TIMER_EXPIRY (R167). -/
def execHoldTimerExpiry (s : State) : Host.Outcome State Fault Refusal :=
  .next (if s.power.state = .watch ∧ s.power.watch = .awake then
    overPower (fun p => { p with watch := .asleep, holdTimer := 0, wakeTimer := 60 }) s else s)

/-- TIMED_WAKE (R167). -/
def execTimedWake (s : State) : Host.Outcome State Fault Refusal :=
  .next (if s.power.state = .watch ∧ s.power.watch = .asleep then
    (overPower (fun p => { p with watch := .timedWake, wakeTimer := 0 }) s).withConv (s.conv.start .battery)
    else s)

/-- BATTERY_REMOVED (R169): with mains absent, the battery domain loses power. The power state has no row for it and
stands, without an entry to DARK (R164, R171; assumption log 21). -/
def execBatteryRemoved (s : State) : Host.Outcome State Fault Refusal :=
  let s1 := s.withPins { s.pins with battery := false }
  .next (if s.pins.battery = true ∧ s.pins.mains = false then loseDomain s1 else s1)

/-- The clock of an unpowered part begins at this fitting: at the first in DARK, where a replaced battery brings nothing
back, and at any elsewhere (R40, R169; assumption log 22). -/
def fittingPowers (s : State) : Bool :=
  !s.clock.running && (decide (s.power.state ≠ .dark) || !s.power.fitted)

/-- BATTERY_FITTED (R40, R169): connected to an unpowered part, the clock begins at 0, INVALID, with the continuity mark
absent. -/
def execBatteryFitted (s : State) : Host.Outcome State Fault Refusal :=
  let s1 := overPower (fun p => { p with fitted := true }) (s.withPins { s.pins with battery := true })
  .next (if s.pins.battery = false ∧ fittingPowers s = true then
    overPower (fun p => { p with continuity := false }) (s1.withClock s1.clock.restart) else s1)

end Sys2Proof.Machine
end

