-- ==== Sys2Proof/Machine/Contactor.lean ====
section
/-! DEFINITION. The commands of the supply controller's timers: COIL_PULSE_END, VERIFY_WINDOW_EXPIRY,
RETRY_TIMER_EXPIRY, RECLOSE_WAIT_EXPIRY. -/

namespace Sys2Proof.Machine

/-- COIL_PULSE_END (R115, R118, R126). -/
def execCoilPulseEnd (s : State) : Host.Outcome State Fault Refusal :=
  .next (if s.supply.coil.isSome then endPulse s else s)

/-- VERIFY_WINDOW_EXPIRY (R119). -/
def execVerifyWindowExpiry (s : State) : Host.Outcome State Fault Refusal :=
  .next (match s.supply.attempt with
    | some a => if isRunning s = true ∧ a.phase = .verify then windowExpires a s else s
    | none => s)

/-- The retry timer stands at its last second (R123). -/
def retryDue (s : State) : Bool := decide (s.supply.machine = .stuckClosed ∧ s.supply.retry = 1)

/-- RETRY_TIMER_EXPIRY (R123): takes place when the timer's last second is up. -/
def execRetryTimerExpiry (s : State) : Host.Outcome State Fault Refusal :=
  .next (if isRunning s = true ∧ retryDue s = true then retryExpires s else s)

/-- The reclose wait stands at its last second (R132). -/
def recloseDue (s : State) : Bool :=
  match s.supply.overload with
  | .waiting r => decide (r ≤ 1)
  | _ => false

/-- RECLOSE_WAIT_EXPIRY (R132): takes place when the wait's last second is up. -/
def execRecloseWaitExpiry (s : State) : Host.Outcome State Fault Refusal :=
  .next (if isRunning s = true ∧ recloseDue s = true then endOverload s else s)

end Sys2Proof.Machine
end

