-- ==== Sys2Proof/Machine/Ticks.lean ====
section
/-! DEFINITION. The commands of the clock's second and of the timers counted in seconds: SECOND_TICK, LOCK_EXPIRY,
IDLE_TIMEOUT. -/

namespace Sys2Proof.Machine

/-- The reclose wait and the retry timer count down; their last second is one of the tick's works (R123, R132). -/
def supplySecond (s : State) : State :=
  let wait := match s.supply.overload with
    | .waiting r => if 1 < r then .waiting (r - 1) else .waiting r
    | o => o
  let retry := if 1 < s.supply.retry then s.supply.retry - 1 else s.supply.retry
  pageSupply (overSupply (fun p => { p with overload := wait, retry := retry }) s)

/-- The clock writes its count, and the derived values at a minute tick, and, as 0, while it is INVALID (R45). -/
def clockPage (s : State) : State :=
  if isMinute s.clock || !s.clock.valid then pageCalendar (pageClock s) else pageClock s

/-- A tick's work of the tariff unit: activation, and at a minute tick rollover, daily charge, and the block and band of
the minute that begins (R54, R60 to R62; between ticks that are offered, assumption log 18). -/
def tariffTick (minute : Bool) (s : State) : State :=
  if minute then pageBlockBand (tariffMinute (tariffSecond s)) else tariffSecond s

/-- The end of the reclose wait, where it still runs (R132). -/
def recloseWork (s : State) : State := if recloseDue s then endOverload s else s

/-- The expiry of the retry timer, where it still runs (R123). -/
def retryWork (s : State) : State := if retryDue s then retryExpires s else s

/-- A day change ends a LATCHED overload (R132). -/
def latchWork (s : State) : State := if s.supply.overload = .latched then endOverload s else s

/-- The works of one offered tick whose order no rule gives (R74, R113; assumption log 12). `s` is the state with the
clock advanced; `day` says that the tick raises a day change; the supply works are those due before the countdown. -/
def tickWorks (day : Bool) (reclose retry : Bool) (s : State) : List (State → State) :=
  let minute := isMinute s.clock
  (if minute || pendingDue s then [tariffTick minute] else []) ++
  (if day && decide (s.supply.overload = .latched) then [latchWork] else []) ++
  (if reclose then [recloseWork] else []) ++
  (if retry then [retryWork] else []) ++
  (if minute then [evaluateCredit .minute, profileMinute] else [])

/-- The CLOCK_STEP notice of the calendar's end, subject "calendar end" (R40; assumption log 19). -/
def calendarEndNotice (s : State) : State := notice .clockStep ClockClass.calendarEnd.code [] s

/-- What an offered tick does before those works: status page, lock, idle timer, countdowns, the announced day, and at
a minute tick the pruning of the trip history. Each touches state that no work reads before it. -/
def tickCounts (s : State) : State :=
  let s1 := supplySecond (idleSecond (lockSecond (clockPage s)))
  let s2 := s1.withClock s1.clock.announce
  if isMinute s.clock then pruneTrips s2 else s2

/-- The tick is offered to the blocks (R41). -/
def offerTick (ended : Bool) (s : State) : State :=
  let works := tickWorks (dayChanges s.clock) (recloseDue s) (retryDue s) s
  let s1 := tickCounts s
  inAnyOrder works (if ended then calendarEndNotice s1 else s1)

/-- One second of a running clock: the tick is offered while RUNNING, and at another time the calendar's end alone shows,
as an INVALID clock on the status page (R40, R41, R45). -/
def advanceClock (s : State) : State :=
  let s1 := s.withClock s.clock.tick
  if isRunning s then offerTick (endsCalendar s.clock) s1
  else if endsCalendar s.clock then pageCalendar s1
  else s1

/-- SECOND_TICK (R40, R41). -/
def execSecondTick (s : State) : Host.Outcome State Fault Refusal :=
  .next (if s.clock.running then advanceClock s else s)

/-- LOCK_EXPIRY (R103): takes place when the lock's last second is up. -/
def execLockExpiry (s : State) : Host.Outcome State Fault Refusal :=
  .next (if isRunning s = true ∧ s.code.lock = 1 then endLock s else s)

/-- IDLE_TIMEOUT (R89): the whole seconds since the press can have reached the timeout, as many offered ticks having
passed (assumption log 6). -/
def execIdleTimeout (s : State) : Host.Outcome State Fault Refusal :=
  .next (if isRunning s = true ∧ idleCounts s.code = true ∧ s.settings.idleTimeout ≤ s.code.idle
    then idleExpires s else s)

end Sys2Proof.Machine
end

