-- ==== Sys2Proof/Machine/Dispatch.lean ====
section
/-! DEFINITION. One arm per command. -/

namespace Sys2Proof.Machine

def exec (i : Instr) (s : State) : Host.Outcome State Fault Refusal :=
  match i with
  | .frameClose m => Sys2Proof.Machine.execFrameClose m s
  | .conversionComplete v => Sys2Proof.Machine.execConversionComplete v s
  | .coilPulseEnd => Sys2Proof.Machine.execCoilPulseEnd s
  | .verifyWindowExpiry => Sys2Proof.Machine.execVerifyWindowExpiry s
  | .retryTimerExpiry => Sys2Proof.Machine.execRetryTimerExpiry s
  | .secondTick => Sys2Proof.Machine.execSecondTick s
  | .lockExpiry => Sys2Proof.Machine.execLockExpiry s
  | .recloseWaitExpiry => Sys2Proof.Machine.execRecloseWaitExpiry s
  | .idleTimeout => Sys2Proof.Machine.execIdleTimeout s
  | .testPulseHighExpiry => Sys2Proof.Machine.execTestPulseHighExpiry s
  | .testPulseLowGapExpiry => Sys2Proof.Machine.execTestPulseLowGapExpiry s
  | .keyPress k => Sys2Proof.Machine.execKeyPress k s
  | .keyRelease k => Sys2Proof.Machine.execKeyRelease k s
  | .decodeCompletion => Sys2Proof.Machine.execDecodeCompletion s
  | .keySetCompletion => Sys2Proof.Machine.execKeySetCompletion s
  | .tariffLoadCompletion => Sys2Proof.Machine.execTariffLoadCompletion s
  | .switchChange w p => Sys2Proof.Machine.execSwitchChange w p s
  | .switchEvent w => Sys2Proof.Machine.execSwitchEvent w s
  | .holdTimerExpiry => Sys2Proof.Machine.execHoldTimerExpiry s
  | .timedWake => Sys2Proof.Machine.execTimedWake s
  | .mainsLoss elapsed m => Sys2Proof.Machine.execMainsLoss elapsed m s
  | .resetnLow => Sys2Proof.Machine.execResetnLow s
  | .holdupCompletion upTo => Sys2Proof.Machine.execHoldupCompletion upTo s
  | .resetnRelease upTo => Sys2Proof.Machine.execResetnRelease upTo s
  | .mainsReturn upTo => Sys2Proof.Machine.execMainsReturn upTo s
  | .reVerification => Sys2Proof.Machine.execReVerification s
  | .storeRead addr run => Sys2Proof.Machine.execStoreRead addr run s
  | .storeWrite addr data => Sys2Proof.Machine.execStoreWrite addr data s
  | .topup slip chars => Sys2Proof.Machine.execTopup slip chars s
  | .keySet slip key => Sys2Proof.Machine.execKeySet slip key s
  | .tariffLoad slip offset => Sys2Proof.Machine.execTariffLoad slip offset s
  | .clockSet slip time => Sys2Proof.Machine.execClockSet slip time s
  | .supplyOrderOpen slip => Sys2Proof.Machine.execSupplyOrderOpen slip s
  | .supplyOrderRelease slip => Sys2Proof.Machine.execSupplyOrderRelease slip s
  | .settingsWrite slip offset => Sys2Proof.Machine.execSettingsWrite slip offset s
  | .settingsFetch slip offset => Sys2Proof.Machine.execSettingsFetch slip offset s
  | .profileSetup slip offset capacity d remaining => Sys2Proof.Machine.execProfileSetup slip offset capacity d remaining s
  | .capture slip => Sys2Proof.Machine.execCapture slip s
  | .slipKindUnknown slip kind => Sys2Proof.Machine.execSlipKindUnknown slip kind s
  | .apendRead read => Sys2Proof.Machine.execApendRead read s
  | .aackWrite data => Sys2Proof.Machine.execAackWrite data s
  | .aconfWrite data => Sys2Proof.Machine.execAconfWrite data s
  | .clearCollision => Sys2Proof.Machine.execClearCollision s
  | .linkReset clearToo => Sys2Proof.Machine.execLinkReset clearToo s
  | .regWriteIgnored addr data => Sys2Proof.Machine.execRegWriteIgnored addr data s
  | .operationIgnored op n => Sys2Proof.Machine.execOperationIgnored op n s
  | .attnPulseEnd => Sys2Proof.Machine.execAttnPulseEnd s
  | .batteryRemoved => Sys2Proof.Machine.execBatteryRemoved s
  | .batteryFitted => Sys2Proof.Machine.execBatteryFitted s

end Sys2Proof.Machine
end

