-- ==== Sys2Proof/Safety.lean ====
section
/-! DEFINITION. What the claims speak of: which blocks a command touches, the ranges and relations the rules keep, and
when the supply is safe. -/

namespace Sys2Proof.Machine

/-! ### Blocks and frames -/

/-- The parts of the state, one for each of its fields. -/
inductive Block
  | store | front | conv | energy | clock | tariff | credit | code | supply | tamper | link | strip | profile
  | power | settings | pins | freeCount | pending
deriving DecidableEq, Repr

/-- A part of the state is the same in both states. -/
def Block.Same (b : Block) (s t : State) : Prop :=
  match b with
  | .store => t.store = s.store
  | .front => t.front = s.front
  | .conv => t.conv = s.conv
  | .energy => t.energy = s.energy
  | .clock => t.clock = s.clock
  | .tariff => t.tariff = s.tariff
  | .credit => t.credit = s.credit
  | .code => t.code = s.code
  | .supply => t.supply = s.supply
  | .tamper => t.tamper = s.tamper
  | .link => t.link = s.link
  | .strip => t.strip = s.strip
  | .profile => t.profile = s.profile
  | .power => t.power = s.power
  | .settings => t.settings = s.settings
  | .pins => t.pins = s.pins
  | .freeCount => t.freeCount = s.freeCount
  | .pending => t.pending = s.pending

/-- Every part but the listed ones is unchanged. -/
def OnlyTouches (bs : List Block) (s t : State) : Prop := ∀ b, b ∉ bs → b.Same s t

/-- Every byte of the store for which `p` holds reads as before. -/
def SameBytes (p : Nat → Prop) (s t : State) : Prop := ∀ a, p a → peek t a = peek s a

/-- The parts each command can change. A slip command touches what the block that handles its kind touches; a
STORE_WRITE can post any slip. -/
def touchedBy : Instr → List Block
  | .frameClose _ =>
    [.store, .front, .conv, .energy, .tariff, .credit, .supply, .tamper, .link, .strip, .profile, .power, .freeCount]
  | .conversionComplete _ =>
    [.store, .front, .conv, .clock, .code, .supply, .tamper, .link, .strip, .profile, .power]
  | .coilPulseEnd | .verifyWindowExpiry | .retryTimerExpiry | .recloseWaitExpiry =>
    [.store, .conv, .supply, .link, .strip, .profile]
  | .secondTick =>
    [.store, .conv, .clock, .tariff, .credit, .code, .supply, .link, .strip, .profile, .freeCount]
  | .lockExpiry | .idleTimeout => [.store, .code]
  | .testPulseHighExpiry => [.energy]
  | .testPulseLowGapExpiry => [.store, .energy]
  | .keyPress _ =>
    [.store, .conv, .credit, .code, .supply, .link, .strip, .profile, .pins, .freeCount]
  | .keyRelease _ => [.code, .pins]
  | .decodeCompletion => [.store, .conv, .credit, .code, .supply, .tamper, .link, .strip, .profile]
  | .keySetCompletion => [.store, .code, .link]
  | .tariffLoadCompletion => [.store, .tariff, .link, .strip]
  | .switchChange _ _ => [.conv, .power, .pins]
  | .switchEvent _ => [.store, .conv, .supply, .tamper, .link, .strip, .profile, .power]
  | .holdTimerExpiry => [.power]
  | .timedWake => [.conv, .power]
  | .mainsLoss _ _ =>
    [.store, .front, .conv, .energy, .tariff, .credit, .code, .supply, .tamper, .link, .strip, .profile, .power, .pins,
     .freeCount]
  | .resetnLow =>
    [.store, .front, .conv, .energy, .tariff, .code, .supply, .link, .strip, .profile, .power, .pins, .freeCount]
  | .holdupCompletion _ | .reVerification =>
    [.store, .front, .conv, .energy, .clock, .tariff, .credit, .code, .supply, .tamper, .link, .strip, .profile,
     .power, .settings]
  | .resetnRelease _ | .mainsReturn _ =>
    [.store, .front, .conv, .energy, .clock, .tariff, .credit, .code, .supply, .tamper, .link, .strip, .profile,
     .power, .settings, .pins]
  | .storeWrite _ _ =>
    [.store, .conv, .clock, .tariff, .credit, .code, .supply, .tamper, .link, .strip, .profile, .settings, .freeCount]
  | .topup _ _ | .keySet _ _ => [.store, .code, .link]
  | .tariffLoad _ _ => [.store, .tariff, .link]
  | .clockSet _ _ => [.store, .conv, .clock, .credit, .supply, .tamper, .link, .strip, .profile]
  | .supplyOrderOpen _ | .supplyOrderRelease _ => [.store, .conv, .supply, .link, .strip, .profile]
  | .settingsWrite _ _ =>
    [.store, .conv, .credit, .code, .supply, .tamper, .link, .strip, .profile, .settings, .freeCount]
  | .settingsFetch _ _ | .capture _ | .slipKindUnknown _ _ => [.store, .link]
  | .profileSetup _ _ _ _ _ => [.store, .link, .strip, .profile]
  | .storeRead _ _ | .apendRead _ | .aackWrite _ | .aconfWrite _ | .clearCollision | .regWriteIgnored _ _
  | .operationIgnored _ _ | .attnPulseEnd => [.link]
  | .linkReset _ => [.store, .tariff, .code, .link, .strip, .profile]
  | .batteryRemoved => [.clock, .tamper, .power, .pins]
  | .batteryFitted => [.clock, .power, .pins]

/-! ### Where a command stores (R176) -/

/-- The status page. -/
def statusPage (a : Nat) : Prop := a < 0x100

/-- The notice strip. -/
def noticeStrip (a : Nat) : Prop := 0x600 ≤ a ∧ a < 0x800

/-- Slip `n`'s 64 bytes. -/
def slipPlace (n : Fin 16) (a : Nat) : Prop := slipBase n ≤ a ∧ a < slipBase n + 64

/-- The 16 bytes of the profile channel's next slot, while it may write there (R199). -/
def recordPlace (s : State) (a : Nat) : Prop :=
  match s.profile.desc with
  | some d => 0 < d.remaining ∧ d.offset + 16 * d.nextSlot ≤ a ∧ a < d.offset + 16 * d.nextSlot + 16
  | none => False

/-- The decoder works slip `n`; the tariff unit works it (R179). -/
def decoderWorks (s : State) (n : Fin 16) : Prop :=
  (∃ code, s.code.decoder = .decoding (.slip n true) code) ∨ (∃ locked, s.code.decoder = .keying n true locked)

def loadWorks (s : State) (n : Fin 16) : Prop := ∃ l, s.tariff.load = some l ∧ l.slip = some n

/-- Address `a` takes a byte of a STORE_WRITE (R175). -/
def writtenAt (addr : BitVec 16) (data : List Byte) (a : Nat) : Prop :=
  ∃ i, i < data.length ∧ a = (addr.toNat + i) % 4096

/-- A STORE_WRITE writes POSTED to slip `n`'s state byte (R178). -/
def writesPosted (addr : BitVec 16) (data : List Byte) (n : Fin 16) : Prop :=
  ∃ i, data[i]? = some 1 ∧ (addr.toNat + i) % 4096 = slipBase n

/-- Where a slip posted by a STORE_WRITE stores: the slip, the status page, the strip, the open area, and a profile
area wherever it lies. -/
def postedPlace (s : State) (n : Fin 16) (a : Nat) : Prop :=
  slipPlace n a ∨ statusPage a ∨ noticeStrip a ∨ (0x800 ≤ a ∧ a < 0x1000) ∨
    ∃ d, s.profile.desc = some d ∧ d.offset ≤ a

/-- The places a command may store to. A STORE_WRITE stores where it says, and where a slip it posts does. A power
event and a link reset clear the store: no place is ruled out for them here. -/
def mayStore (c : Instr) (s : State) (a : Nat) : Prop :=
  match c with
  | .frameClose _ | .coilPulseEnd | .verifyWindowExpiry | .retryTimerExpiry | .recloseWaitExpiry | .keyPress _
  | .switchEvent _ | .conversionComplete _ => statusPage a ∨ noticeStrip a
  | .secondTick => statusPage a ∨ noticeStrip a ∨ recordPlace s a
  | .lockExpiry | .idleTimeout | .testPulseLowGapExpiry => statusPage a
  | .decodeCompletion | .keySetCompletion | .tariffLoadCompletion =>
    statusPage a ∨ noticeStrip a ∨
      ∃ n, slipPlace n a ∧ (decoderWorks s n ∨ loadWorks s n ∨ n ∈ s.link.waiting)
  | .topup n _ | .keySet n _ | .supplyOrderOpen n | .supplyOrderRelease n | .settingsWrite n _ =>
    slipPlace n a ∨ statusPage a ∨ noticeStrip a
  | .tariffLoad n _ | .capture n | .slipKindUnknown n _ => slipPlace n a
  | .settingsFetch n off => slipPlace n a ∨ (off.toNat ≤ a ∧ a < off.toNat + 40)
  | .clockSet n _ | .profileSetup n _ _ _ _ => slipPlace n a ∨ statusPage a ∨ noticeStrip a ∨ recordPlace s a
  | .mainsLoss _ _ | .resetnLow | .holdupCompletion _ | .resetnRelease _ | .mainsReturn _ | .reVerification
  | .linkReset _ => True
  | .storeWrite addr data => writtenAt addr data a ∨ ∃ n, writesPosted addr data n ∧ postedPlace s n a
  | .testPulseHighExpiry | .keyRelease _ | .switchChange _ _ | .holdTimerExpiry | .timedWake | .storeRead _ _
  | .apendRead _ | .aackWrite _ | .aconfWrite _ | .clearCollision | .regWriteIgnored _ _ | .operationIgnored _ _
  | .attnPulseEnd | .batteryRemoved | .batteryFitted => False

/-! ### Slips (R178 to R181, R202) -/

/-- Slip `n` is DONE with this outcome, and bytes 28 to 63 hold this result, filled up with zeros. -/
def SlipShows (s : State) (n : Fin 16) (v : Verdict) (result : List Byte) : Prop :=
  slipState s n = .done ∧ peek s (slipBase n + 2) = byteOf v.code ∧
  peekBytes s (slipBase n + 28) 36 = padTo 36 result

/-- Slip `n` has been taken and is being worked: TAKEN, outcome NONE (R179). -/
def SlipTaken (s : State) (n : Fin 16) : Prop :=
  slipState s n = .taken ∧ peek s (slipBase n + 2) = byteOf Verdict.none.code

/-- The host may fill and post slip `n`: RUNNING, and the slip FREE and not on the waiting list (R178, R180). -/
def Postable (s : State) (n : Fin 16) : Prop :=
  isRunning s = true ∧ slipState s n = .free ∧ n ∉ s.link.waiting

/-- What the part holds of the store's layout: the strip's index and the profile area within their places. -/
def layoutWell (s : State) : Prop :=
  s.strip.writeIndex ≤ 31 ∧
  ∀ d, s.profile.desc = some d → 0x800 ≤ d.offset ∧ d.offset + 16 * d.capacity ≤ 0x1000 ∧ d.nextSlot < d.capacity

/-- The waiting list holds exactly the POSTED slips, each once; a TAKEN slip is worked by exactly one block; and no
work is in flight while the link port does not answer (R165, R178 to R180). -/
def slipsWell (s : State) : Prop :=
  s.link.waiting.Nodup ∧ (∀ n, n ∈ s.link.waiting ↔ slipState s n = .posted) ∧
  (∀ n, slipState s n = .taken ↔ decoderWorks s n ∨ loadWorks s n) ∧
  (∀ n, ¬(decoderWorks s n ∧ loadWorks s n)) ∧
  (linkUp s = false → s.code.decoder = .idle ∧ s.tariff.load = none)

/-! ### Ranges (R28, R40, R58, R63, R101 to R103, R131, R183, R191, R195, R168) -/

/-- An accumulator within its range (R28). -/
def Accumulator.inRange (a : Accumulator) : Prop := a.wh ≤ 999999999 ∧ a.rem ≤ 3599999

/-- The energy register block within its ranges (R25, R28). -/
def Energy.inRange (e : Energy) : Prop :=
  e.billed.inRange ∧ e.phaseFwd.inRange ∧ e.phaseRev.inRange ∧ e.neutral.inRange ∧ e.power ≤ 30000000

/-- An idle test-pulse output owes nothing, and outside MAINS the output is IDLE (R35 to R37). -/
def pulseWell (s : State) : Prop :=
  (s.energy.pulse = .idle → s.energy.backlog = 0) ∧ (s.power.state ≠ .mains → s.energy.pulse = .idle)

/-- The clock within its range; a VALID time lies before the end of the calendar (R40). -/
def Clock.inRange (c : Clock) : Prop := c.count ≤ 4294967295 ∧ (c.valid = true → c.count < calendarEnd)

/-- The account within its ranges (R63, R70). -/
def Credit.inRange (c : Credit) : Prop :=
  -9999999 ≤ c.balance ∧ c.balance ≤ 99999999 ∧ c.debitRem ≤ 999 ∧ c.writtenOff ≤ 4294967295 ∧
  c.emergencyAmount ≤ 100000

/-- The account in thousandths, written-off units counted as still owed: the identity of R68 moves this figure. -/
def Credit.standing (c : Credit) : Int := 1000 * c.balance - c.debitRem - 1000 * c.writtenOff

/-- A list of numbers rises strictly. -/
def Rising : List Nat → Prop
  | [] => True
  | x :: xs => (∀ y ∈ xs, x < y) ∧ Rising xs

/-- The accepted-sequence list: ascending, no duplicate, at most 40, each a 20-bit sequence (R101). -/
def acceptedWell (l : List Nat) : Prop := Rising l ∧ l.length ≤ 40 ∧ ∀ q ∈ l, q < 2 ^ 20

/-- The lock and the count within their ranges, and the line (R88, R102, R103). -/
def CodeUnit.inRange (c : CodeUnit) : Prop :=
  acceptedWell c.accepted ∧ c.failCount ≤ 5 ∧ c.lock ≤ 600 ∧ c.line.length ≤ 20

/-- A schedule within its valid values: 1 to 8 points, the first at minute 0, rising, each below 1,440 and with a band
below `bands` (R49). -/
def scheduleValid (bands : Nat) (ps : List SwitchPoint) : Prop :=
  1 ≤ ps.length ∧ ps.length ≤ 8 ∧ (ps.map SwitchPoint.minute).head? = some 0 ∧ Rising (ps.map SwitchPoint.minute) ∧
  ∀ p ∈ ps, p.minute ≤ 1439 ∧ p.band < bands

/-- A tariff record within its valid values (R49). -/
def Tariff.valid (t : Tariff) : Prop :=
  t.id ≤ 65535 ∧ t.activation < calendarEnd ∧ (1 ≤ t.startDay ∧ t.startDay ≤ 28) ∧ (1 ≤ t.blocks ∧ t.blocks ≤ 4) ∧
  t.thresholds.length = t.blocks - 1 ∧ Rising (0 :: t.thresholds) ∧ (∀ v ∈ t.thresholds, v ≤ 65535) ∧
  (1 ≤ t.bands ∧ t.bands ≤ 3) ∧ t.rates.length = t.blocks * t.bands ∧ (∀ r ∈ t.rates, r ≤ 65535) ∧
  scheduleValid t.bands t.weekday ∧ scheduleValid t.bands t.weekend ∧ t.daily ≤ 100000

/-- The settings record within its ranges (spec/09 section 9.4). -/
def Settings.inRange (g : Settings) : Prop :=
  (5 ≤ g.creep ∧ g.creep ≤ 500) ∧ (3 ≤ g.imbRatio ∧ g.imbRatio ≤ 50) ∧ (50 ≤ g.imbMin ∧ g.imbMin ≤ 5000) ∧
  (100 ≤ g.nominal ∧ g.nominal ≤ 260) ∧ g.penalty ≤ 30000 ∧ (5 ≤ g.reverse ∧ g.reverse ≤ 500) ∧
  (1 ≤ g.magnet ∧ g.magnet ≤ 1023) ∧ (1 ≤ g.windowW ∧ g.windowW ≤ 16) ∧
  (1 ≤ g.windowK ∧ g.windowK ≤ g.windowW) ∧ g.lowCredit ≤ 1000000 ∧ g.friendlyDebt ≤ 1000000 ∧
  g.friendlyStart ≤ 1439 ∧ g.friendlyEnd ≤ 1439 ∧ (5 ≤ g.tripDelay ∧ g.tripDelay ≤ 600) ∧
  (10 ≤ g.recloseWait ∧ g.recloseWait ≤ 3600) ∧ (1 ≤ g.tripLimit ∧ g.tripLimit ≤ 10) ∧
  (5 ≤ g.idleTimeout ∧ g.idleTimeout ≤ 120) ∧ (1 ≤ g.holdTime ∧ g.holdTime ≤ 60)

/-- The lists and counts that saturate or drop (R131, R168, R191, R195). -/
def countsInRange (s : State) : Prop :=
  s.strip.writeIndex ≤ 31 ∧ s.strip.dropped ≤ 65535 ∧ s.profile.unrecorded ≤ 65535 ∧ s.power.events.length ≤ 8 ∧
  s.power.overflow ≤ 255 ∧ s.supply.trips.length ≤ 10 ∧ s.tariff.periodEnergy ≤ 4294967295

/-! ### Sequences spent (R101) -/

/-- A sequence that no code can be accepted under again: in the list, or below every entry of a full list. -/
def Spent (q : Nat) (l : List Nat) : Prop := q ∈ l ∨ (40 ≤ l.length ∧ ∀ x ∈ l, q < x)

/-! ### When the supply is safe (R73, R114, R118, R131, R156) -/

/-- From the cause-recomputation step on, the cause set tells what stands: CREDIT exactly while EXHAUSTED (R73),
TAMPER exactly while CASE or BYPASS is not CLEAR (R156); and at all times OVERLOAD exactly while an overload waits or is
latched (R131). -/
def causesTell (s : State) : Prop :=
  (s.supply.causes.overload = true ↔ s.supply.overload ≠ .none) ∧
  (lampDriven s = true →
    (s.supply.causes.credit = true ↔ s.credit.state = .exhausted) ∧
    (s.supply.causes.tamper = true ↔ disconnects s.tamper.records = true))

/-- While RUNNING the machine is CLOSED or AWAIT_CONFIRM only while the cause set is empty (R114), and verifies a close
only while it is empty (R118). -/
def machineSafe (s : State) : Prop :=
  isRunning s = true →
    (s.supply.machine = .closed ∨ s.supply.machine = .awaitConfirm ∨
      (s.supply.machine = .closing ∧ inVerify s.supply = true)) → s.supply.causes.isEmpty = true

/-- The memory is in its canonical form (R176). -/
def memoryWell (s : State) : Prop := Memory.wf s.store = true

end Sys2Proof.Machine
end

