-- ==== Sys2Proof/WellFormed.lean ====
section
/-! DEFINITION. Which operands a command of the table can carry. Every check is a Bool. -/

namespace Sys2Proof

/-- The command carries operands its row admits:
MAINS_LOSS an elapsed time below a whole frame (R7); TOPUP exactly 20 code characters (R96, spec/11 section 11.4);
SLIP_KIND_UNKNOWN a kind value that names no kind (R181, R202); APEND_READ at least one data byte (R175);
REG_WRITE_IGNORED a register that cannot be written or an address above 5 (R175, R185);
OPERATION_IGNORED an operation byte that names none of the four (R175, spec/11 section 11.2). -/
def Instr.wellFormed : Instr → Bool
  | .mainsLoss elapsed _ => decide (elapsed ≤ 999)
  | .topup _ chars => decide (chars.length = 20)
  | .slipKindUnknown _ kind => decide (kind.toNat = 0 ∨ 8 < kind.toNat)
  | .apendRead r => decide (0 < r.count)
  | .regWriteIgnored addr _ =>
      decide (addr.toNat ≠ 2 ∧ addr.toNat ≠ 3 ∧ addr.toNat ≠ 4)
  | .operationIgnored op _ =>
      decide (op.toNat ≠ 0x31 ∧ op.toNat ≠ 0x32 ∧ op.toNat ≠ 0x35 ∧ op.toNat ≠ 0x36)
  | .frameClose _ => true
  | .conversionComplete _ => true
  | .coilPulseEnd => true
  | .verifyWindowExpiry => true
  | .retryTimerExpiry => true
  | .secondTick => true
  | .lockExpiry => true
  | .recloseWaitExpiry => true
  | .idleTimeout => true
  | .testPulseHighExpiry => true
  | .testPulseLowGapExpiry => true
  | .keyPress _ => true
  | .keyRelease _ => true
  | .decodeCompletion => true
  | .keySetCompletion => true
  | .tariffLoadCompletion => true
  | .switchChange _ _ => true
  | .switchEvent _ => true
  | .holdTimerExpiry => true
  | .timedWake => true
  | .resetnLow => true
  | .holdupCompletion _ => true
  | .resetnRelease _ => true
  | .mainsReturn _ => true
  | .reVerification => true
  | .storeRead _ _ => true
  | .storeWrite _ _ => true
  | .keySet _ _ => true
  | .tariffLoad _ _ => true
  | .clockSet _ _ => true
  | .supplyOrderOpen _ => true
  | .supplyOrderRelease _ => true
  | .settingsWrite _ _ => true
  | .settingsFetch _ _ => true
  | .profileSetup _ _ _ _ _ => true
  | .capture _ => true
  | .aackWrite _ => true
  | .aconfWrite _ => true
  | .clearCollision => true
  | .linkReset _ => true
  | .attnPulseEnd => true
  | .batteryRemoved => true
  | .batteryFitted => true

end Sys2Proof
end

