-- ==== Sys2Proof/Certificates/Slice0/Obligations.lean ====
section
/-! DEFINITION. The statements for the provers. Each docstring names the rule of spec/ it formalises. -/

open Sys2Proof Sys2Proof.Machine

/-! ### The machine as a whole -/

/-- A step takes the command at the front of the queue and runs it with the queue's rest, and no command stops; on an
empty queue the part idles, but for a start-up left part-way, which does its next step (assumption log 2). An SPI
transfer puts at the back of the queue the command that its bytes pick, a well-formed one: the first byte the operation,
0x31, 0x32, 0x35 or 0x36 (spec/11 section 11.2), then the address, most significant byte first; any other first byte
makes the rest ignored (R175). A REG_WRITE goes by the register of R185. That a transfer which ends within
its address and a write of neither control (assumption log 9), and a register read of no byte (log 10), are no command
is deduced. -/
def Obligations.StepRunsTheFrontCommand : Prop :=
  (∀ c rest s, s.pending = c :: rest → step s = exec c (s.withPending rest)) ∧
  (∀ c s, ∃ t, exec c s = .next t) ∧
  (∀ s, s.pending = [] → s.power.state ≠ .mains ∨ 4 ≤ s.power.stage.num → step s = .next s) ∧
  (∀ s, s.pending = [] → s.power.state = .mains → s.power.stage.num < 4 → step s = .next (nextStep s)) ∧
  (∀ (s : State) (bytes : List Byte),
    (∀ c, readTransfer bytes = some c → c.wellFormed = true ∧
      s.withTransfer bytes = s.withPending (s.pending ++ [c]) ∧
      (s.pending = [] → step (s.withTransfer bytes) = exec c s)) ∧
    (readTransfer bytes = none → s.withTransfer bytes = s)) ∧
  (∀ (hi lo : Byte) (data : List Byte),
    (let addr := BitVec.ofNat 16 (256 * hi.toNat + lo.toNat)
     readTransfer (0x31 :: hi :: lo :: data) = some (.storeRead addr ⟨data.length, false⟩) ∧
     readTransfer (0x32 :: hi :: lo :: data) = some (.storeWrite addr data) ∧
     (data ≠ [] → readTransfer (0x35 :: hi :: lo :: data) = some (.apendRead ⟨addr, data.length⟩)) ∧
     (data = [] → readTransfer (0x35 :: hi :: lo :: data) = none) ∧
     (addr = 2 → readTransfer (0x36 :: hi :: lo :: data) = some (.aackWrite data)) ∧
     (addr = 3 → readTransfer (0x36 :: hi :: lo :: data) = some (.aconfWrite data)) ∧
     (addr = 4 → readTransfer (0x36 :: hi :: lo :: data) =
       (let control := (data.headD 0).toNat % 4
        if 2 ≤ control then some (.linkReset (decide (control = 3)))
        else if control = 1 then some .clearCollision else none)) ∧
     (addr ≠ 2 → addr ≠ 3 → addr ≠ 4 →
       readTransfer (0x36 :: hi :: lo :: data) = some (.regWriteIgnored addr data)))) ∧
  (∀ (op : Byte) (rest : List Byte),
    (op.toNat ≠ 0x31 → op.toNat ≠ 0x32 → op.toNat ≠ 0x35 → op.toNat ≠ 0x36 →
      readTransfer (op :: rest) = some (.operationIgnored op rest.length)) ∧
    (op = 0x31 ∨ op = 0x32 ∨ op = 0x35 ∨ op = 0x36 → rest.length < 2 → readTransfer (op :: rest) = none))

/-- The part that has never run: retained items at their first-start values (R34, R62, R82, R111, R135, R162, R195), the
format mark absent (R170), and the relations the other statements keep. That the reset state lies in DARK is the
model's choice (assumption log 1). -/
def Obligations.ResetHoldsTheFirstStartValues : Prop :=
  let s := State.reset
  (s.energy.billed = ⟨0, 0⟩ ∧ s.energy.phaseFwd = ⟨0, 0⟩ ∧ s.energy.phaseRev = ⟨0, 0⟩ ∧ s.energy.neutral = ⟨0, 0⟩) ∧
  (s.credit.balance = 0 ∧ s.credit.debitRem = 0 ∧ s.credit.writtenOff = 0 ∧ s.credit.emergencyAmount = 0 ∧
    s.credit.emergency = .off ∧ s.credit.state = .exhausted) ∧
  (s.tariff.active = none ∧ s.tariff.pending = none ∧ s.tariff.periodIndex = none ∧ s.tariff.periodEnergy = 0 ∧
    s.tariff.chargedDay = none) ∧
  (s.code.keySet = false ∧ s.code.accepted = [] ∧ s.code.failCount = 0 ∧ s.code.lock = 0) ∧
  (s.supply.machine = .opened ∧ s.supply.causes = ⟨false, false, true, false⟩ ∧ s.supply.unverified = false ∧
    s.supply.limit = 0 ∧ s.supply.overload = .none ∧ s.supply.trips = []) ∧
  (∀ k, (s.tamper.records.get k).status = .clear ∧ (s.tamper.records.get k).count = 0) ∧
  (s.profile.desc = none ∧ s.profile.unrecorded = 0 ∧ s.profile.saved = none ∧ s.settings = Settings.default) ∧
  (retainedValid s.power = false ∧ s.power.loss = none ∧ s.power.dark = none ∧ s.power.events = []) ∧
  memoryWell s ∧ s.energy.inRange ∧ pulseWell s ∧ s.clock.inRange ∧ s.credit.inRange ∧ s.code.inRange ∧
  s.settings.inRange ∧ countsInRange s ∧ layoutWell s ∧ slipsWell s ∧ causesTell s ∧ machineSafe s

/-- Every command leaves the parts it has no rule for as they stand. -/
def Obligations.CommandsTouchOnlyTheirParts : Prop :=
  ∀ (c : Instr) (s t : State), c.wellFormed = true → exec c s = .next t → OnlyTouches (touchedBy c) s t

/-- Every command leaves every byte of the store outside the places it stores to as it reads: a STORE_WRITE's are the
bytes it writes and, where it posts a slip, the slip, the status page, the strip and the open area (R176, R181). -/
def Obligations.CommandsStoreOnlyInTheirPlaces : Prop :=
  ∀ (c : Instr) (s t : State), c.wellFormed = true → s.strip.writeIndex ≤ 31 → exec c s = .next t →
    SameBytes (fun a => ¬ mayStore c s a) s t

/-- Every step keeps the common store in canonical form. -/
def Obligations.StoreStaysCanonical : Prop :=
  ∀ s t : State, step s = .next t → memoryWell s → memoryWell t

/-- Every step keeps the settings record within its ranges (spec/09 section 9.4, R183), the saturating counts and
bounded lists within theirs (R58, R131, R168, R191, R195), and the strip's index and the profile area within their
places (R191, R196). -/
def Obligations.SettingsCountsAndLayoutStayInRange : Prop :=
  ∀ s t : State, step s = .next t → s.settings.inRange ∧ countsInRange s ∧ layoutWell s →
    t.settings.inRange ∧ countsInRange t ∧ layoutWell t

/-! ### Measurement front end and energy register block -/

/-- FRAME_CLOSE closes a normal frame: saturated fields, the next sequence, the aux reading, which clears the fresh
marks, the next frame in progress empty, and the frame's fields on the status page (R2, R3, R5, R9, R12). Bytes of the
page: log 18. -/
def Obligations.FrameCloseClosesASaturatedFrame : Prop :=
  ∀ (m : Means) (s : State), isRunning s = true → s.front.running = true →
    ∃ t f, exec (.frameClose m) s = .next t ∧
      t.front = { s.front with seq := f.seq, last := some f, progress := ⟨0, ⟨0, 0, 0, 0, 0⟩⟩ } ∧
      f.seq = (if s.front.seq = 4294967295 then 1 else s.front.seq + 1) ∧
      f.v = min m.v 3000 ∧ f.iL = min m.iL 120000 ∧ f.iN = min m.iN 120000 ∧
      f.pL = max (-30000000) (min m.pL 30000000) ∧ f.pN = max (-30000000) (min m.pN 30000000) ∧
      f.duration = 1000 ∧
      (f.overRange = true ↔ 3000 < m.v ∨ 120000 < m.iL ∨ 120000 < m.iN ∨ 30000000 < m.pL.natAbs ∨
        30000000 < m.pN.natAbs) ∧
      f.loadV = ⟨s.conv.loadV.value, s.conv.loadV.fresh && s.conv.loadV.value.isSome⟩ ∧
      f.magnet = ⟨s.conv.magnet.value, s.conv.magnet.fresh && s.conv.magnet.value.isSome⟩ ∧
      f.battery = ⟨s.conv.battery.value, s.conv.battery.fresh && s.conv.battery.value.isSome⟩ ∧
      (∀ ch, (t.conv.get ch).value = (s.conv.get ch).value ∧ (t.conv.get ch).fresh = false) ∧
      peekBytes t 0 29 = frameBytes (some f)

/-- FRAME_CLOSE bills the frame by the statuses its own judgement leaves: the base is the creep-suppressed |P_L|, or
the larger |P_N| while IMBALANCE is ACTIVE, raised in a gating state by the MAGNET and NO_VOLTAGE penalties, with the
basis of the last stage that raised it; the clamp, the clamp mark, each accumulator's energy, and period energy (R20
to R28, R32, R58). Where the same frame verifies the relay open, the supply controller's place is free, and the frame
may be billed ungated (R22; assumption log 11). -/
def Obligations.FrameCloseBillsTheFrame : Prop :=
  ∀ (m : Means) (s : State), isRunning s = true → s.front.running = true → s.energy.inRange →
    s.tariff.periodEnergy ≤ 4294967295 →
    ∃ (t : State) (gated : Bool), exec (.frameClose m) s = .next t ∧
      ((gated = true ↔ s.supply.machine = .closed ∨ s.supply.machine = .opening ∨ s.supply.machine = .closing ∨
          s.supply.machine = .stuckClosed) ∨
        gated = false ∧ (s.supply.machine = .stuckClosed ∨ s.supply.machine = .opening ∧ inVerify s.supply = true) ∧
          s.conv.loadV.fresh = true ∧ ∃ v, s.conv.loadV.value = some v ∧ v < 200) ∧
      (let pL := max (-30000000) (min m.pL 30000000)
       let pN := max (-30000000) (min m.pN 30000000)
       let top := max (min m.iL 120000) (min m.iN 120000)
       let floor := s.settings.creep * 100
       let eL := if floor ≤ pL.natAbs then pL.natAbs else 0
       let eN := if floor ≤ pN.natAbs then pN.natAbs else 0
       let r := t.tamper.records
       let chosen := if r.imbalance.status = .active then max eL eN else eL
       let magnet := if gated = true ∧ r.magnet.status = .active then s.settings.penalty * 1000 else 0
       let noVoltage := if gated = true ∧ r.noVoltage.status = .active then top * s.settings.nominal else 0
       let base := max (max chosen magnet) noVoltage
       let sum := s.energy.billed.rem + t.energy.power
       t.energy.power = min base 30000000 ∧ (t.energy.clamp = true ↔ 30000000 < base) ∧
       t.energy.basis = (if max chosen magnet < noVoltage then .noVoltage else if chosen < magnet then .magnet
         else if eL < chosen then .neutral else if eL = 0 then .none else .line) ∧
       eL ≤ t.energy.power ∧ (t.energy.basis = .none ↔ t.energy.power = 0) ∧
       t.energy.billed = ⟨(s.energy.billed.wh + sum / 3600000) % 1000000000, sum % 3600000⟩ ∧
       t.energy.phaseFwd = s.energy.phaseFwd.add (if 0 < pL then eL else 0) ∧
       t.energy.phaseRev = s.energy.phaseRev.add (if pL < 0 then eL else 0) ∧
       t.energy.neutral = s.energy.neutral.add eN ∧
       t.tariff.periodEnergy = min (s.tariff.periodEnergy + sum / 3600000) 4294967295)

/-- FRAME_CLOSE charges each watt-hour it carries at the rate of the block in which period energy then stands and of
the band of the present minute, and nothing where no tariff is active (R30, R56, R57, R64, R68). The band is that of
the last switch point at or before the minute, in the schedule of the day's type, and 0 with the clock INVALID; the
rate stands at place (block − 1) × N + band (R57). The order of the blocks is assumption log 11's. -/
def Obligations.FrameCloseChargesEachWattHour : Prop :=
  (∀ (m : Means) (s : State), isRunning s = true → s.front.running = true → s.energy.inRange →
    s.credit.inRange → s.credit.writtenOff ≤ 4294960000 → s.tariff.periodEnergy ≤ 4294967000 →
    (∀ a, s.tariff.active = some a → ∀ r ∈ a.rates, r ≤ 65535) →
    ∃ t, exec (.frameClose m) s = .next t ∧
      (let n := (s.energy.billed.rem + t.energy.power) / 3600000
       let rate := fun i => match s.tariff.active with
         | some a => rateAt a (blockOf a (s.tariff.periodEnergy + i)) (bandOf a s.clock)
         | none => 0
       n ≤ 9 ∧
       t.credit.standing = s.credit.standing - (((List.range n).map rate).sum : Nat))) ∧
  (∀ (a : Tariff) (c : Clock) (before after : List SwitchPoint) (p : SwitchPoint),
    let minute := c.count % 86400 / 60
    c.valid = true →
    (if 5 ≤ (c.count / 86400 + 5) % 7 then a.weekend else a.weekday) = before ++ p :: after →
    p.minute ≤ minute → (∀ q ∈ after, minute < q.minute) → bandOf a c = p.band) ∧
  (∀ (a : Tariff) (c : Clock), c.valid = false → bandOf a c = 0) ∧
  (∀ (a : Tariff) (block band rate : Nat), a.rates[(block - 1) * a.bands + band]? = some rate →
    rateAt a block band = rate)

/-- FRAME_CLOSE in the supply controller: it verifies an open or a close, finds a dead load in STUCK_CLOSED, and in
CLOSED counts or trips an overload, where the frame carries at most one watt-hour and moves neither CREDIT nor TAMPER,
so that its place among the blocks does not show (R117, R118, R123, R130, R131); the low-battery mark is spent, with
its notice, and re-armed (R194); the period in progress takes V and the watt-hours (R197). Order of the blocks:
assumption logs 11, 56; that the attempt of a trip has seen no LOAD_V: log 55; the notice's bytes: log 16. -/
def Obligations.FrameCloseRunsSupplyBatteryAndProfile : Prop :=
  (∀ (m : Means) (s : State), isRunning s = true → s.front.running = true →
    ∃ t f, exec (.frameClose m) s = .next t ∧ t.front.last = some f ∧
      (let dead := f.loadV.fresh = true ∧ ∃ v, f.loadV.value = some v ∧ v < 200
       let live := f.loadV.fresh = true ∧ ∃ v, f.loadV.value = some v ∧ 200 ≤ v ∧ f.v * 4 ≤ v * 5
       let exceeded := s.supply.limit * 1000 < t.energy.power
       let trips := (s.supply.trips ++ [s.clock.count]).drop (s.supply.trips.length - 9)
       (s.energy.billed.rem + t.energy.power < 7200000 → t.supply.causes.credit = s.supply.causes.credit →
          t.supply.causes.tamper = s.supply.causes.tamper →
        (s.supply.machine = .opening → inVerify s.supply = true → dead → t.supply.attempt = none ∧
          t.supply.machine = if s.supply.causes.isEmpty = true then .awaitConfirm else .opened) ∧
        (s.supply.machine = .opening → inVerify s.supply = false ∨ ¬ dead → t.supply.machine = .opening) ∧
        (s.supply.machine = .closing → inVerify s.supply = true → live → t.supply.attempt = none ∧
          t.supply.machine = .closed) ∧
        (s.supply.machine = .closing → inVerify s.supply = false ∨ ¬ live → t.supply.machine = .closing) ∧
        (s.supply.machine = .stuckClosed → dead → t.supply.machine = .opened ∧ t.supply.retry = 0) ∧
        (s.supply.machine = .stuckClosed → ¬ dead → t.supply = s.supply) ∧
        (s.supply.machine = .opened ∨ s.supply.machine = .awaitConfirm ∨ s.supply.machine = .stuckOpen →
          t.supply = s.supply) ∧
        (s.supply.machine = .closed → s.supply.limit = 0 → t.supply = s.supply) ∧
        (s.supply.machine = .closed → s.supply.limit ≠ 0 → ¬ exceeded →
          t.supply = { s.supply with overCount := 0 }) ∧
        (s.supply.machine = .closed → s.supply.limit ≠ 0 → exceeded → s.supply.overCount + 1 < s.settings.tripDelay →
          t.supply = { s.supply with overCount := s.supply.overCount + 1 }) ∧
        (s.supply.machine = .closed → s.supply.limit ≠ 0 → exceeded → s.settings.tripDelay ≤ s.supply.overCount + 1 →
          s.supply.causes.isEmpty = true →
          t.supply.overCount = 0 ∧ t.supply.trips = trips ∧ t.supply.causes = { s.supply.causes with overload := true } ∧
          t.supply.overload = (if s.settings.tripLimit ≤ trips.length then .latched
            else .waiting s.settings.recloseWait) ∧
          t.supply.machine = .opening ∧ t.supply.attempt = some ⟨.toOpen, 1, .pulse, 0, 0, none⟩ ∧
          t.supply.coil = some .toOpen)) ∧
       (∀ v, f.battery.fresh = true → f.battery.value = some v →
         (s.power.spent = false → v < 2600 → t.power = { s.power with spent := true }) ∧
         (s.power.spent = true → 2800 < v → t.power = { s.power with spent := false }) ∧
         (s.power.spent = false → 2600 ≤ v → t.power = s.power) ∧
         (s.power.spent = true → v ≤ 2800 → t.power = s.power)) ∧
       (f.battery.fresh = false → t.power = s.power) ∧
       (∀ p, s.profile.period = some p → p.wh ≤ 65535 → ∃ q, t.profile.period = some q ∧
         q.minV = some (match p.minV with | some x => min x f.v | none => f.v) ∧
         q.maxV = some (match p.maxV with | some x => max x f.v | none => f.v) ∧
         q.wh = min (p.wh + (s.energy.billed.rem + t.energy.power) / 3600000) 65535 ∧
         q.slot = p.slot ∧ q.minutes = p.minutes ∧ q.step = p.step))) ∧
  (∀ (f : Frame) (v : Nat) (s : State), linkUp s = true → s.strip.writeIndex ≤ 31 → unread s < 31 →
    s.power.spent = false → f.battery.fresh = true → f.battery.value = some v → v < 2600 →
    peekBytes (batteryFrame f s) (0x600 + 16 * s.strip.writeIndex) 8 =
      [byteOf NoticeKind.batteryLow.code, byteOf (128 * s.clock.valid.toNat)] ++ leBytes 4 s.clock.count ++ leBytes 2 v)

/-- The test-pulse output's two timers: the HIGH time ends in LOW_GAP, and the LOW_GAP time begins the next pulse owed
or ends in IDLE (R35, R36). Another state of the output: log 4. -/
def Obligations.TestPulseTimersRunTheOutput : Prop :=
  (∀ s, s.energy.pulse = .high → ∃ t, exec .testPulseHighExpiry s = .next t ∧
    t = s.withEnergy { s.energy with pulse := .lowGap }) ∧
  (∀ s, s.energy.pulse = .lowGap → 0 < s.energy.backlog → ∃ t, exec .testPulseLowGapExpiry s = .next t ∧
    t.energy = { s.energy with pulse := .high, backlog := s.energy.backlog - 1 } ∧
    (isRunning s = true → peek t 0x3E = byteOf (s.energy.backlog - 1))) ∧
  (∀ s, s.energy.pulse = .lowGap → s.energy.backlog = 0 → ∃ t, exec .testPulseLowGapExpiry s = .next t ∧
    t = s.withEnergy { s.energy with pulse := .idle })

/-- Every step keeps every accumulator and the billed power within their ranges (R25, R28), and an idle test-pulse
output owing nothing and, outside MAINS, idle (R35, R37). -/
def Obligations.EnergyStaysInRange : Prop :=
  ∀ s t : State, step s = .next t → s.energy.inRange ∧ pulseWell s → t.energy.inRange ∧ pulseWell t

/-! ### Auxiliary converter -/

/-- CONVERSION_COMPLETE in MAINS writes the channel converted, saturated and fresh, or, where settling is owed, discards
the result; the next channel's conversion begins (R10, R11, R16). An absent battery reads below 2,200 mV (R167). While
re-verification waits, the event then is RE_VERIFICATION over the table so written, and a LOAD_V result resolves the
machine (R14, R128, R129). -/
def Obligations.ConversionInMainsWritesItsChannel : Prop :=
  ∀ (ch : Channel) (v : Nat) (s : State), s.power.state = .mains → s.conv.inFlight = some ch →
    ∃ c : Converter,
      (let got := if ch = .battery ∧ s.pins.battery = false then min v 2199 else v
       c.get ch = (if (s.conv.get ch).settle = true then { s.conv.get ch with settle := false }
         else ⟨some (min got ch.top), true, false⟩)) ∧
      (∀ d, d ≠ ch → c.get d = s.conv.get d) ∧ c.inFlight = some ch.succ ∧
      (s.power.stage ≠ .recomputed → exec (.conversionComplete v) s = .next (s.withConv c)) ∧
      (s.power.stage = .recomputed →
        exec (.conversionComplete v) s = exec .reVerification (s.withConv c) ∧
        (ch = .loadV → s.conv.loadV.settle = false →
          ∃ t, exec (.conversionComplete v) s = .next t ∧ isRunning t = true ∧ t.front.running = true ∧
            t.supply.unverified = false ∧ t.conv.loadV.fresh = false ∧ t.supply.causes = s.supply.causes ∧
            t.supply.machine =
              (if v < 200 then
                if s.supply.causes.isEmpty = false then .opened
                else if s.supply.machine = .stuckOpen then .stuckOpen else .awaitConfirm
              else if s.supply.causes.isEmpty = false then .opening
              else if s.supply.machine = .opening ∨ s.supply.machine = .opened ∨ s.supply.machine = .awaitConfirm
                then .opening else .closed)))

/-- CONVERSION_COMPLETE in WATCH writes BATTERY, which is taken at that event and judged, an absent battery reading
below 2,200 mV: below that the part enters DARK, with the dark record, the clock stopped and INVALID and the settled
positions lost; otherwise the watch goes on, and a timed wake ends asleep (R17, R167, R169). That settling owed does
not discard this result is deduced (assumption log 40). -/
def Obligations.ConversionInWatchJudgesTheBattery : Prop :=
  ∀ (ch : Channel) (v : Nat) (s : State), s.power.state = .watch → s.conv.inFlight = some ch →
    ∃ t, exec (.conversionComplete v) s = .next t ∧
      (let got := if s.pins.battery = true then v else min v 2199
       t.conv.inFlight = none ∧ t.conv.battery.value = some (min got 4095) ∧ t.conv.battery.fresh = false ∧
       (got < 2200 → t.power.state = .dark ∧ t.power.dark = some ⟨now s, got⟩ ∧ t.power.continuity = false ∧
         t.clock = { s.clock with valid := false, running := false } ∧
         t.tamper = { s.tamper with caseSettled := none, coverSettled := none }) ∧
       (2200 ≤ got → t.power.state = .watch ∧ t.clock = s.clock ∧ t.tamper = s.tamper ∧
         (s.power.watch = .timedWake → t.power = { s.power with watch := .asleep, wakeTimer := 60 }) ∧
         (s.power.watch ≠ .timedWake → t.power = s.power)))

/-! ### Clock -/

/-- A posted CLOCK_SET sets a time before the end of the calendar, is classed by the clock as it stood, and hands on
its effects (R46, R47): unless it is a TRIM, a CLOCK_STEP notice where the strip has room, and the close of the period
in progress with STEP, recorded or counted, with a new period behind it (R198, R199); a step back by more than 3,600 s
turns CLOCK_BACK's record LATCHED, counts it, sets last-seen, and first-seen where it was CLEAR, and raises TAMPER
(R139, R155, R158); the credit unit evaluates with the clock so set (R73), and the page's block and band follow it
(R62). A later time is refused with nothing changed. The result's bytes: assumption log 17, and for a FIRST_SET, which
has no step, log 57; the notice's: log 16; the page's: log 18. -/
def Obligations.ClockSetSetsTheClock : Prop :=
  (∀ (n : Fin 16) (time : BitVec 32) (s : State), Postable s n → time.toNat < calendarEnd →
    ∃ t, exec (.clockSet n time) s = .next t ∧
      t.clock = { s.clock with count := time.toNat, valid := true } ∧
      (let old := s.clock.count
       let new := time.toNat
       let valid := s.clock.valid = true
       let cls := setClass s.clock new
       let back := s.tamper.records.clockBack
       SlipShows t n .ok (leBytes 4 old ++ [if valid then 1 else 0] ++ leBytes 4 new ++
         [byteOf cls.code, if valid ∧ new < old then 1 else 0] ++
         leBytes 4 (if valid then ((new : Int) - (old : Int)).natAbs else 0)) ∧
       t.link.waiting = s.link.waiting ∧
       t.tamper.records = (if valid ∧ new + 3600 < old
         then s.tamper.records.set .clockBack
           ⟨.latched, if back.status = .clear then some ⟨new, true⟩ else back.first, some ⟨new, true⟩,
             min (back.count + 1) 65535, back.onBattery⟩
         else s.tamper.records) ∧
       (valid → new + 3600 < old → t.link.latched.getLsbD 4 = true) ∧
       t.credit = s.credit.evaluated s.settings t.clock ∧
       (s.credit.state ≠ .exhausted → t.credit.state = .exhausted → t.supply.causes.credit = true) ∧
       (s.credit.state = .exhausted → t.credit.state ≠ .exhausted → t.supply.causes.credit = false) ∧
       (cls = .trim → t.profile.desc = s.profile.desc ∧ t.profile.unrecorded = s.profile.unrecorded ∧
         (t.credit.state = s.credit.state → t.profile.period = s.profile.period ∧ t.strip = s.strip)) ∧
       (layoutWell s → peek t 0x4A = blockBandByte s.tariff t.clock) ∧
       (cls ≠ .trim → layoutWell s → unread s < 31 →
         peekBytes t (0x600 + 16 * s.strip.writeIndex) 15 =
           [byteOf NoticeKind.clockStep.code, byteOf (cls.code + 128)] ++ leBytes 4 new ++ leBytes 4 old ++
           leBytes 4 new ++ [if valid then 0 else 1]) ∧
       (∀ (d : Descriptor) (p : Period), cls ≠ .trim → layoutWell s → s.profile.desc = some d →
         s.profile.period = some p →
         (∃ q, t.profile.period = some q ∧ q.wh = 0 ∧ q.minV = none ∧ q.maxV = none ∧ q.step = false ∧
           q.minutes = 0 ∧ q.clockInvalid = false ∧ q.slot = some (new / (60 * (d.d + 1)))) ∧
         (d.remaining = 0 → t.profile.desc = some d ∧
           t.profile.unrecorded = min (s.profile.unrecorded + 1) 65535) ∧
         (0 < d.remaining → t.profile.unrecorded = s.profile.unrecorded ∧
           t.profile.desc = some { d with
             remaining := if d.remaining = 255 then 255 else d.remaining - 1
             nextSlot := (d.nextSlot + 1) % d.capacity } ∧
           peekBytes t (d.offset + 16 * d.nextSlot) 11 =
             leBytes 4 new ++ leBytes 2 p.wh ++ leBytes 2 (p.minV.getD 0) ++ leBytes 2 (p.maxV.getD 0) ++
             [flagsByte [p.tamper, p.supplyOpen, p.clockInvalid, true, false]])))) ∧
  (∀ (n : Fin 16) (time : BitVec 32) (s : State), Postable s n → calendarEnd ≤ time.toNat →
    ∃ t, exec (.clockSet n time) s = .next t ∧ SlipShows t n .badArgument [] ∧
      t.link.waiting = s.link.waiting ∧ OnlyTouches [.store, .link] s t) ∧
  (∀ (c : Clock) (new : Nat),
    (c.valid = false → setClass c new = .firstSet ∧ setsBack c new = false) ∧
    (c.valid = true → new ≤ c.count + 60 → c.count ≤ new + 60 → setClass c new = .trim ∧ setsBack c new = false) ∧
    (c.valid = true → c.count + 60 < new → setClass c new = .forward ∧ setsBack c new = false) ∧
    (c.valid = true → new + 60 < c.count → c.count ≤ new + 3600 →
      setClass c new = .backward ∧ setsBack c new = false) ∧
    (c.valid = true → new + 3600 < c.count → setClass c new = .backward ∧ setsBack c new = true))

/-- SECOND_TICK advances a running clock by 1, makes it INVALID at the end of the calendar, and while RUNNING counts
the lock down and the idle timer up, clearing the line once the timeout is surely past; while not RUNNING it is
offered to no block, and a calendar end then shows on the status page alone, the derived fields reading 0 (R40, R41,
R45, R89, R103). Whatever the free order of the tick's works (assumption log 12); the idle timer's ticks: log 6; bytes
of the page: log 18. -/
def Obligations.SecondTickCounts : Prop :=
  ∀ s : State, s.clock.running = true → s.clock.count < 4294967295 →
    ∃ t, exec .secondTick s = .next t ∧
      t.clock.count = s.clock.count + 1 ∧ t.clock.running = true ∧
      (t.clock.valid = true ↔ s.clock.valid = true ∧ s.clock.count + 1 < 3155760000) ∧
      (isRunning s = true → t.code.lock = s.code.lock - 1 ∧
        t.code.failCount = (if s.code.lock = 1 then 0 else s.code.failCount) ∧
        (s.code.scanning = true → s.code.held = false → t.code.idle = s.code.idle + 1 ∧
          t.code.line = if s.settings.idleTimeout ≤ s.code.idle then [] else s.code.line)) ∧
      (isRunning s = false → t.clock.announced = s.clock.announced ∧ OnlyTouches [.clock, .store] s t ∧
        (s.clock.valid = true → s.clock.count + 1 = 3155760000 → linkUp s = true →
          peekBytes t 0x43 6 = [0, 0, 0, 0, 0, 0] ∧ SameBytes (fun a => a < 0x43 ∨ 0x49 ≤ a) s t) ∧
        (s.clock.valid = false ∨ s.clock.count + 1 < 3155760000 ∨ linkUp s = false → t.store = s.store))

/-- SECOND_TICK while RUNNING: a VALID clock announces its day, and a day change ends a LATCHED overload (R42, R132);
the reclose wait counts down and at its end the overload is NONE (R132); a minute tick prunes the trip history (R132)
and judges the profile period, which closes at its slot's end, or with the clock INVALID after D + 1 minutes, is
recorded or counted, raises PROFILE where the remaining count reaches 0, and opens anew (R197 to R199); the record's
bytes are those of section 11.5 of spec/11. Whatever the free order of the tick's works (assumption log 12). That a
period opened INVALID has no slot, and that a VALID minute does not close it, is deduced (assumption log 35). -/
def Obligations.SecondTickTurnsDayHistoryAndProfile : Prop :=
  ∀ s : State, isRunning s = true → s.clock.running = true → s.clock.count < 4294967295 → layoutWell s →
    ∃ t, exec .secondTick s = .next t ∧
      (let now := s.clock.count + 1
       let valid := s.clock.valid = true ∧ now < 3155760000
       let dayChange := valid ∧ ∃ d, s.clock.announced = some d ∧ d < now / 86400
       (¬ valid → t.clock.announced = s.clock.announced) ∧
       (valid → t.clock.announced =
         some (match s.clock.announced with | some d => max d (now / 86400) | none => now / 86400)) ∧
       (s.supply.overload = .latched → dayChange → t.supply.overload = .none ∧ t.supply.causes.overload = false) ∧
       (s.supply.overload = .latched → ¬ dayChange → t.supply.overload = .latched) ∧
       (∀ r, s.supply.overload = .waiting r →
         (1 < r → t.supply.overload = .waiting (r - 1)) ∧
         (r ≤ 1 → t.supply.overload = .none ∧ t.supply.causes.overload = false)) ∧
       t.supply.trips = (if now % 60 = 0
         then s.supply.trips.filter (fun x => decide (now ≤ x + 3600 ∧ x ≤ now)) else s.supply.trips) ∧
       (now % 60 ≠ 0 → t.profile.desc = s.profile.desc ∧ t.profile.unrecorded = s.profile.unrecorded) ∧
       (∀ (d : Descriptor) (p : Period), now % 60 = 0 → s.profile.desc = some d → s.profile.period = some p →
         let due := (valid ∧ ∃ k, p.slot = some k ∧ k < now / (60 * (d.d + 1))) ∨ (¬ valid ∧ d.d + 1 ≤ p.minutes + 1)
         (¬ due → t.profile.desc = some d ∧ t.profile.unrecorded = s.profile.unrecorded ∧
           ∃ q, t.profile.period = some q ∧ q.minutes = p.minutes + 1 ∧ q.wh = p.wh ∧ q.slot = p.slot) ∧
         (due → (∃ q, t.profile.period = some q ∧ q.minutes = 0 ∧ q.wh = 0 ∧ q.minV = none ∧ q.maxV = none ∧
             q.step = false ∧ (valid → q.slot = some (now / (60 * (d.d + 1)))) ∧ (¬ valid → q.slot = none)) ∧
           (d.remaining = 0 → t.profile.desc = some d ∧
             t.profile.unrecorded = min (s.profile.unrecorded + 1) 65535) ∧
           (d.remaining = 1 → t.link.latched.getLsbD 8 = true) ∧
           (0 < d.remaining → t.profile.unrecorded = s.profile.unrecorded ∧
             t.profile.desc = some { d with
               remaining := if d.remaining = 255 then 255 else d.remaining - 1
               nextSlot := (d.nextSlot + 1) % d.capacity } ∧
             peekBytes t (d.offset + 16 * d.nextSlot) 10 =
               leBytes 4 now ++ leBytes 2 p.wh ++ leBytes 2 (p.minV.getD 0) ++ leBytes 2 (p.maxV.getD 0)))))

/-- Every step keeps the count in 32 bits and a VALID time before the end of the calendar (R40). What follows the count
4,294,967,295 is free (assumption log 20). -/
def Obligations.ClockStaysInRange : Prop :=
  ∀ s t : State, step s = .next t → s.clock.inRange → t.clock.inRange

/-- The date of the next day is the next date: the day of month rises within the month's length, February having 29 days
in every fourth year from 2000, then the month, then the year; day 0 is 2000-01-01 (R44). The period index is years × 12
and months since 2000, less 1 before the period start day: −1 to 1,199, and −1 exactly in January 2000 before that day
(R59). -/
def Obligations.DatesAndPeriodIndexFollowTheCalendar : Prop :=
  dateOf 0 = ⟨0, 1, 1⟩ ∧
  (∀ t : Nat,
    let a := dateOf t
    let february := if a.year % 4 = 0 then 29 else 28
    let len := [31, february, 31, 30, 31, 30, 31, 31, 30, 31, 30, 31].getD (a.month - 1) 0
    1 ≤ a.month ∧ a.month ≤ 12 ∧ 1 ≤ a.day ∧ a.day ≤ len ∧
    dateOf (t + 86400) = (if a.day < len then ⟨a.year, a.month, a.day + 1⟩
      else if a.month < 12 then ⟨a.year, a.month + 1, 1⟩ else ⟨a.year + 1, 1, 1⟩)) ∧
  (∀ (r t : Nat), 1 ≤ r → r ≤ 28 → t < calendarEnd →
    periodIndexOf r t = ((dateOf t).year : Int) * 12 + ((dateOf t).month : Int) - 1
      - (if (dateOf t).day < r then 1 else 0) ∧
    -1 ≤ periodIndexOf r t ∧ periodIndexOf r t ≤ 1199 ∧
    (periodIndexOf r t = -1 ↔ (dateOf t).year = 0 ∧ (dateOf t).month = 1 ∧ (dateOf t).day < r))

/-! ### Tariff unit -/

/-- The block of a watt-hour is 1 plus the number of thresholds reached by period energy as it stands before it,
whatever the clock, and each watt-hour is judged anew (R56). -/
def Obligations.BlockCountsTheThresholdsReached : Prop :=
  (∀ (a : Tariff) (e : Nat), blockOf a e = 1 + a.thresholds.countP (fun v => decide (v * 1000 ≤ e))) ∧
  (∀ a : Tariff, a.thresholds = [50, 150] →
    blockOf a 49999 = 1 ∧ blockOf a 50000 = 2 ∧ blockOf a 149999 = 2 ∧ blockOf a 150000 = 3) ∧
  (∀ (u : TariffUnit) (a : Tariff) (c : Clock), u.active = some a →
    unitRate u c = rateAt a (blockOf a u.periodEnergy) (bandOf a c)) ∧
  (∀ s : State, (carry s).tariff = { s.tariff with periodEnergy := min (s.tariff.periodEnergy + 1) 4294967295 } ∧
    (carry s).credit.debitRem = (s.credit.debitRem + unitRate s.tariff s.clock) % 1000)

/-- An offered minute tick with the clock VALID and a tariff active, which a pending tariff whose time has come
becomes at that tick, turns the billing period over where it is due, the activation itself moving the index on with
period energy kept, charges the days owed, at most 31, at that tariff's daily charge, moves the charged day, and
writes the block and band (R54, R55, R60 to R62, R65, R68). With the clock INVALID, or no tariff, it leaves the tariff
unit and the account, and the band reads 0. Whatever the free order of the tick's works (assumption log 12); bytes of
the page: log 18. -/
def Obligations.MinuteTickTurnsPeriodAndChargesDays : Prop :=
  (∀ (s : State) (a : Tariff) (due : Bool), isRunning s = true → s.clock.running = true → s.clock.valid = true →
    s.clock.count + 1 < calendarEnd → (s.clock.count + 1) % 60 = 0 →
    (if due = true then s.tariff.pending = some a ∧ a.activation ≤ s.clock.count + 1
      else s.tariff.active = some a ∧ ∀ p, s.tariff.pending = some p → s.clock.count + 1 < p.activation) →
    a.daily ≤ 100000 → s.credit.inRange → s.credit.writtenOff ≤ 4290000000 →
    ∃ t, exec .secondTick s = .next t ∧
      (let now := s.clock.count + 1
       let i := periodIndexOf a.startDay now
       let d := now / 86400
       t.tariff.active = some a ∧ t.tariff.pending = (if due = true then none else s.tariff.pending) ∧
       (match s.tariff.periodIndex with
        | some j => if j < i then t.tariff.periodIndex = some i ∧
              t.tariff.periodEnergy = (if due = true then s.tariff.periodEnergy else 0)
            else t.tariff.periodIndex = some j ∧ t.tariff.periodEnergy = s.tariff.periodEnergy
        | none => t.tariff.periodIndex = some i ∧ t.tariff.periodEnergy = 0) ∧
       (match s.tariff.chargedDay with
        | some c => t.tariff.chargedDay = some (max c d) ∧
            t.credit.standing = s.credit.standing - 1000 * (min (d - c) 31 * a.daily : Nat)
        | none => t.tariff.chargedDay = some d ∧ t.credit.standing = s.credit.standing) ∧
       (layoutWell s → peek t 0x4A = byteOf (blockOf a t.tariff.periodEnergy + 16 * bandOf a t.clock)))) ∧
  (∀ s : State, isRunning s = true → s.clock.running = true → s.clock.count < 4294967295 →
    (s.clock.count + 1) % 60 = 0 →
    (s.clock.valid = false ∨ 3155760000 ≤ s.clock.count + 1 ∨
      s.tariff.active = none ∧ ∀ p, s.tariff.pending = some p → s.clock.count + 1 < p.activation) →
    ∃ t, exec .secondTick s = .next t ∧ t.tariff = s.tariff ∧ t.credit.standing = s.credit.standing ∧
      (layoutWell s → peek t 0x4A = (match s.tariff.active with
        | some a => byteOf (blockOf a s.tariff.periodEnergy)
        | none => 0)))

/-- An offered second tick makes a pending tariff active once the clock is VALID and its time has come (R54): period
energy is kept, and a stored period index moves on to the present one under the new tariff where that is greater
(R55); an unset index and the charged day are left to a minute tick (R60, R61). Whatever the free order of the tick's
works (assumption log 12). -/
def Obligations.SecondTickActivatesAPendingTariff : Prop :=
  ∀ (s : State) (p : Tariff), isRunning s = true → s.clock.running = true → s.clock.valid = true →
    s.clock.count + 1 < calendarEnd → s.tariff.pending = some p →
    ∃ t, exec .secondTick s = .next t ∧
      (let now := s.clock.count + 1
       (p.activation ≤ now → t.tariff.active = some p ∧ t.tariff.pending = none ∧
         (∀ i, s.tariff.periodIndex = some i → t.tariff.periodIndex = some (max i (periodIndexOf p.startDay now)) ∧
           t.tariff.periodEnergy = s.tariff.periodEnergy) ∧
         (s.tariff.periodIndex = none → now % 60 ≠ 0 → t.tariff.periodIndex = none ∧
           t.tariff.periodEnergy = s.tariff.periodEnergy) ∧
         (now % 60 ≠ 0 → t.tariff.chargedDay = s.tariff.chargedDay)) ∧
       (now < p.activation → t.tariff.active = s.tariff.active ∧ t.tariff.pending = some p ∧
         (now % 60 ≠ 0 → t.tariff = s.tariff)))

/-- A posted TARIFF_LOAD is refused where its 96 bytes are not wholly in the open area or meet the active profile
area; otherwise, with no load in flight, the image is copied and the load is in flight; behind a load it waits (R50,
R180). TARIFF_LOAD_COMPLETION installs a record that passes every check, active where its activation time is 0 or has
come on a VALID clock, with TARIFF_ACTIVE (R54), period energy and charged day kept and a stored period index moved on
to the present one where the clock is VALID and that is greater (R55), and otherwise pending, discarding an earlier
pending tariff; a failing image installs nothing (R51, R52). The slip gets the result, or, where a link reset has
freed it, none (R53, R189). The result's bytes are read as assumption log 17 says, the notice's as log 16, and the id
active before the load as log 43. -/
def Obligations.TariffLoadsAreTakenAndComplete : Prop :=
  (∀ (n : Fin 16) (off : BitVec 16) (s : State), Postable s n →
    (s.tariff.load = none → inOpenArea off.toNat 96 = true → meets off.toNat 96 (profileArea s) = false →
      ∃ t, exec (.tariffLoad n off) s = .next t ∧ SlipTaken t n ∧ t.link.waiting = s.link.waiting ∧
        t.tariff = { s.tariff with load := some ⟨peekBytes s off.toNat 96, some off.toNat, some n⟩ }) ∧
    (s.tariff.load = none → (inOpenArea off.toNat 96 = false ∨ meets off.toNat 96 (profileArea s) = true) →
      ∃ t, exec (.tariffLoad n off) s = .next t ∧ SlipShows t n .badArgument [] ∧
        t.link.waiting = s.link.waiting ∧ t.tariff = s.tariff) ∧
    (s.tariff.load ≠ none →
      ∃ t, exec (.tariffLoad n off) s = .next t ∧ slipState t n = .posted ∧
        t.link.waiting = s.link.waiting ++ [n] ∧ t.tariff = s.tariff)) ∧
  (∀ (s : State) (l : Load), isRunning s = true → s.tariff.load = some l → (∀ n, l.slip = some n → n ∉ s.link.waiting) →
    (∀ r, judgeTariff l.image = .good r →
      ∃ t, exec .tariffLoadCompletion s = .next t ∧
        (if r.activation = 0 ∨ (s.clock.valid = true ∧ r.activation ≤ s.clock.count)
          then t.tariff = { s.tariff with
              active := some r, pending := none, load := t.tariff.load
              periodIndex := s.tariff.periodIndex.map fun i =>
                if s.clock.valid = true then max i (periodIndexOf r.startDay s.clock.count) else i } ∧
            (s.strip.writeIndex ≤ 31 → unread s < 31 →
              peekBytes t (0x600 + 16 * s.strip.writeIndex) 8 =
                [byteOf NoticeKind.tariffActive.code, byteOf (1 + 128 * s.clock.valid.toNat)] ++
                leBytes 4 s.clock.count ++ leBytes 2 r.id) ∧
            (∀ n, l.slip = some n →
              SlipShows t n .ok (loadResult 0 0 false r.id 0 (s.tariff.active.map Tariff.id)
                (s.tariff.pending.map Tariff.id)))
          else t.tariff = { s.tariff with pending := some r, load := t.tariff.load } ∧ t.strip = s.strip ∧
            (∀ n, l.slip = some n →
              SlipShows t n .ok (loadResult 0 0 false r.id 1 (s.tariff.active.map Tariff.id)
                (s.tariff.pending.map Tariff.id)))) ∧
        (l.slip = none → s.link.waiting = [] →
          t.tariff.load = none ∧ t.link.waiting = [] ∧ SameBytes (fun a => ∃ n, slipPlace n a) s t)) ∧
    (∀ field index count, judgeTariff l.image = .bad field index count →
      ∃ t, exec .tariffLoadCompletion s = .next t ∧ t.tariff = { s.tariff with load := t.tariff.load } ∧
        (∀ n, l.slip = some n → slipState t n = .done ∧
          peek t (slipBase n + 2) = byteOf Verdict.badTariff.code ∧
          peek t (slipBase n + 28) = byteOf field ∧ peek t (slipBase n + 29) = byteOf index) ∧
        (l.slip = none → s.link.waiting = [] →
          t.tariff.load = none ∧ OnlyTouches [.tariff] s t)))

/-- An image that passes every check gives a record within the valid values of the table of R49, whatever its bytes. -/
def Obligations.JudgedTariffsHaveValidValues : Prop :=
  ∀ (image : List Byte) (r : Tariff), judgeTariff image = .good r → r.valid

/-! ### Credit unit -/

/-- A friendly window applies at a minute exactly as R75's table, weekend flag and validity say, as read at the
evaluating event, with its worked windows. -/
def Obligations.FriendlyWindowAppliesByTheMinute : Prop :=
  (∀ (c : Clock) (g : Settings), friendlyApplies c g = true ↔
    c.valid = true ∧
      ((g.friendlyStart < g.friendlyEnd ∧ g.friendlyStart ≤ c.count % 86400 / 60 ∧
          c.count % 86400 / 60 < g.friendlyEnd) ∨
       (g.friendlyEnd < g.friendlyStart ∧ (g.friendlyStart ≤ c.count % 86400 / 60 ∨
          c.count % 86400 / 60 < g.friendlyEnd)) ∨
       (g.weekend = true ∧ 5 ≤ (c.count / 86400 + 5) % 7))) ∧
  (∀ c : Clock, friendlyApplies c Settings.default = false) ∧
  (∀ (c : Clock) (g : Settings), c.valid = true → g.friendlyStart = 1320 → g.friendlyEnd = 360 →
    (1320 ≤ c.count % 86400 / 60 ∨ c.count % 86400 / 60 < 360) → friendlyApplies c g = true) ∧
  (∀ (c : Clock) (g : Settings), c.valid = true → g.weekend = true → g.friendlyStart = 1080 →
    g.friendlyEnd = 480 →
    ((c.count / 86400 + 5) % 7 = 4 ∧ 1080 ≤ c.count % 86400 / 60 ∨ 5 ≤ (c.count / 86400 + 5) % 7 ∨
      (c.count / 86400 + 5) % 7 = 0 ∧ c.count % 86400 / 60 < 480) → friendlyApplies c g = true) ∧
  (∀ (x : CreditTrigger) (s : State), (evaluateCredit x s).credit.friendly = friendlyApplies s.clock s.settings)

/-- An evaluation, whatever its trigger, finds the credit state by the first row of R71, settles the emergency state
by R77, and at a change raises CREDIT where the link port answers, and to or from EXHAUSTED places or removes the
CREDIT cause (R73); at the balance's floor the state is EXHAUSTED (R66). -/
def Obligations.EvaluationFindsTheCreditState : Prop :=
  ∀ (x : CreditTrigger) (s : State),
    let t := evaluateCredit x s
    let c := s.credit
    let level : Int := if c.emergency = .taken then -(c.emergencyAmount : Int) else 0
    t.credit = c.evaluated s.settings s.clock ∧
    t.credit.balance = c.balance ∧ t.credit.emergencyAmount = c.emergencyAmount ∧
    ((s.settings.lowCredit : Int) < c.balance → t.credit.state = .normal ∧ t.credit.emergency = .off) ∧
    (c.balance ≤ s.settings.lowCredit → level < c.balance → t.credit.state = .low) ∧
    (c.balance ≤ s.settings.lowCredit → c.balance ≤ level → friendlyApplies s.clock s.settings = true →
      level - s.settings.friendlyDebt < c.balance → t.credit.state = .held) ∧
    (c.balance ≤ s.settings.lowCredit → c.balance ≤ level →
      (friendlyApplies s.clock s.settings = false ∨ c.balance ≤ level - s.settings.friendlyDebt) →
      t.credit.state = .exhausted) ∧
    (c.balance ≤ s.settings.lowCredit → t.credit.emergency =
      (if c.emergency = .taken then .taken else if 0 < c.emergencyAmount then .offered else .off)) ∧
    (linkUp s = true → t.credit.state ≠ c.state → t.link.latched.getLsbD 6 = true) ∧
    (c.state ≠ .exhausted → t.credit.state = .exhausted → t.supply.causes.credit = true) ∧
    (c.state = .exhausted → t.credit.state ≠ .exhausted → t.supply.causes.credit = false) ∧
    (s.settings.inRange → c.inRange → c.balance = -9999999 → t.credit.state = .exhausted)

/-- Every step keeps the balance between −9,999,999 and 99,999,999, the debit remainder below 1,000, the written-off
total in 32 bits and the emergency amount at most 100,000 (R63, R64, R66, R67, R107). -/
def Obligations.AccountStaysInRange : Prop :=
  ∀ s t : State, step s = .next t → s.credit.inRange → t.credit.inRange

/-! ### Code unit and keypad -/

/-- A taken digit is appended to a line below 20 digits, ERASE removes the last digit, and both restart the idle timer
and raise KEYPAD; a press with another key down, held, or in lockout is not taken and sets the lockout; the release
that leaves no key down clears it (R86 to R88). -/
def Obligations.KeysActOnTheEntryLine : Prop :=
  (∀ (d : Fin 10) (s : State), isRunning s = true → s.code.scanning = true → s.code.keysDown = [] →
    s.code.held = false → s.code.lockout = false →
    ∃ t, exec (.keyPress (.digit d)) s = .next t ∧
      t.code = { s.code with
        keysDown := [.digit d], idle := 0,
        line := if s.code.line.length < 20 then s.code.line ++ [d] else s.code.line } ∧
      t.link.latched.getLsbD 7 = true ∧ peekBytes t 0x6C 11 = entryBytes t.code.line) ∧
  (∀ s : State, isRunning s = true → s.code.scanning = true → s.code.keysDown = [] →
    s.code.held = false → s.code.lockout = false →
    ∃ t, exec (.keyPress .erase) s = .next t ∧
      t.code = { s.code with keysDown := [.erase], idle := 0, line := s.code.line.dropLast } ∧
      t.link.latched.getLsbD 7 = true ∧ peekBytes t 0x6C 11 = entryBytes t.code.line) ∧
  (∀ (k : Key) (s : State), isRunning s = true → s.code.scanning = true → k ∉ s.code.keysDown →
    (s.code.held = true ∨ s.code.keysDown ≠ [] ∨ s.code.lockout = true) →
    ∃ t, exec (.keyPress k) s = .next t ∧
      t.code = { s.code with keysDown := k :: s.code.keysDown, lockout := true } ∧
      OnlyTouches [.code, .pins] s t) ∧
  (∀ (k : Key) (s : State), isRunning s = true → s.code.scanning = true → k ∈ s.code.keysDown →
    ∃ t, exec (.keyRelease k) s = .next t ∧
      t.code = { s.code with
        keysDown := s.code.keysDown.erase k,
        lockout := s.code.lockout && !(s.code.keysDown.erase k).isEmpty } ∧
      k ∉ t.pins.keys ∧ OnlyTouches [.code, .pins] s t)

/-- A taken ENTER raises KEYPAD and acts by the line: empty, CONFIRM; the single digit 0, EMERGENCY; 20 digits, a
submission that holds the keypad and writes no notice yet; any other line, SHORT (R78, R87, R90 to R93, R121). Each
outcome but the submission's writes, as the last notice where none is dropped, CODE_KEYPAD with entry, outcome and
further contents (R91, R193). Whatever the free place of EMERGENCY_TAKEN (assumption log 14); the notice's bytes: logs
16, 49. -/
def Obligations.EnterActsByTheLine : Prop :=
  ∀ s : State, isRunning s = true → s.code.scanning = true → s.code.keysDown = [] →
    s.code.held = false → s.code.lockout = false →
    (let answers := fun (entry : Nat) (outcome : Verdict) (more : List Byte) (t : State) =>
       t.link.latched.getLsbD 7 = true ∧
       (s.strip.writeIndex ≤ 31 → s.strip.dropped < 65535 → t.strip.dropped = s.strip.dropped →
         peekBytes t (0x600 + 16 * ((t.strip.writeIndex + 31) % 32)) (6 + more.length) =
           [byteOf NoticeKind.codeKeypad.code, byteOf (entry + 4 * outcome.code + 128 * s.clock.valid.toNat)] ++
           leBytes 4 s.clock.count ++ more)
     (s.code.line = [] → (s.supply.machine = .awaitConfirm ∨ s.supply.machine = .stuckOpen) →
      ∃ t, exec (.keyPress .enter) s = .next t ∧ t.supply.machine = .closing ∧
        t.supply.attempt = some ⟨.toClose, 1, .pulse, 0, 0, none⟩ ∧ t.supply.coil = some .toClose ∧
        t.supply.causes = s.supply.causes ∧ t.conv.inFlight = none ∧ t.credit = s.credit ∧
        answers 0 .confirmed [byteOf MachineState.closing.code] t) ∧
    (s.code.line = [] → s.supply.machine ≠ .awaitConfirm → s.supply.machine ≠ .stuckOpen →
      ∃ t, exec (.keyPress .enter) s = .next t ∧ t.supply = s.supply ∧ t.conv = s.conv ∧ t.credit = s.credit ∧
        answers 0 .nothingToConfirm [byteOf s.supply.machine.code] t) ∧
    (s.code.line = [0] →
      ∃ t, exec (.keyPress .enter) s = .next t ∧ t.code.line = [] ∧ t.code.held = false ∧
        t.credit.balance = s.credit.balance ∧
        answers 1 (if s.credit.emergency = .offered then .taken else .notOffered)
          (byteOf t.credit.emergency.code :: leInt 4 s.credit.balance) t ∧
        (s.credit.emergency = .offered → t.credit.emergency =
          if (s.settings.lowCredit : Int) < s.credit.balance then .off else .taken) ∧
        (s.credit.emergency ≠ .offered → t.credit = s.credit ∧ t.supply = s.supply)) ∧
    (s.code.line.length = 20 →
      ∃ t, exec (.keyPress .enter) s = .next t ∧ t.code.line = s.code.line ∧ t.code.held = true ∧
        t.supply = s.supply ∧ t.credit = s.credit ∧ t.link.latched.getLsbD 7 = true ∧ t.strip = s.strip ∧
        (if s.code.decoder = .idle
          then t.code.decoder = .decoding .keypad (lineChars s.code.line) ∧ t.code.waitingSub = false
          else t.code.decoder = s.code.decoder ∧ t.code.waitingSub = true)) ∧
    (s.code.line ≠ [] → s.code.line ≠ [0] → s.code.line.length < 20 →
      ∃ t, exec (.keyPress .enter) s = .next t ∧ t.code = { s.code with line := [], idle := 0, keysDown := [.enter] } ∧
        t.supply = s.supply ∧ t.credit = s.credit ∧ answers 2 .badLength [byteOf s.code.line.length] t))

/-- A posted TOPUP or KEY_SET is taken by an idle decoder with its argument copied, a KEY_SET storing an UNSET key and
leaving a SET one; behind other work it waits (R93, R94, R108). KEY_SET_COMPLETION completes the slip, OK or
KEY_LOCKED, with the key state; with nothing waiting the decoder is IDLE (R108). A KEY_SET whose slip a link reset has
freed writes nothing into it and no notice, and the status page shows the key state (R110, R189). That the key is
stored at the taking: assumption log 23; the result's bytes, section 11.4 of spec/11: assumption log 17; the page's:
log 18. -/
def Obligations.CodeSlipsAreTakenAndKeysComplete : Prop :=
  (∀ (n : Fin 16) (chars : List Byte) (s : State), Postable s n → chars.length = 20 → s.code.decoder = .idle →
    s.code.waitingSub = false →
    ∃ t, exec (.topup n chars) s = .next t ∧ SlipTaken t n ∧ t.link.waiting = s.link.waiting ∧
      t.code = { s.code with decoder := .decoding (.slip n true) chars }) ∧
  (∀ (n : Fin 16) (key : BitVec 64) (s : State), Postable s n → s.code.decoder = .idle →
    s.code.waitingSub = false →
    ∃ t, exec (.keySet n key) s = .next t ∧ SlipTaken t n ∧ t.link.waiting = s.link.waiting ∧
      t.code = { s.code with
        decoder := .keying n true s.code.keySet, keySet := true,
        key := if s.code.keySet = true then s.code.key else key }) ∧
  (∀ (n : Fin 16) (chars : List Byte) (key : BitVec 64) (s : State), Postable s n → chars.length = 20 →
    (s.code.decoder ≠ .idle ∨ s.code.waitingSub = true) →
    (∃ t, exec (.topup n chars) s = .next t ∧ slipState t n = .posted ∧
      t.link.waiting = s.link.waiting ++ [n] ∧ t.code = s.code) ∧
    (∃ t, exec (.keySet n key) s = .next t ∧ slipState t n = .posted ∧
      t.link.waiting = s.link.waiting ++ [n] ∧ t.code = s.code)) ∧
  (∀ (s : State) (n : Fin 16) (locked : Bool), isRunning s = true → s.code.decoder = .keying n true locked →
    n ∉ s.link.waiting →
    ∃ t, exec .keySetCompletion s = .next t ∧
      SlipShows t n (if locked = true then .keyLocked else .ok) [if s.code.keySet = true then 1 else 0] ∧
      (s.code.waitingSub = false → s.link.waiting = [] → t.code = { s.code with decoder := .idle } ∧
        t.link.waiting = [])) ∧
  (∀ (s : State) (n : Fin 16) (locked : Bool), isRunning s = true → s.code.decoder = .keying n false locked →
    s.code.waitingSub = false → s.link.waiting = [] →
    ∃ t, exec .keySetCompletion s = .next t ∧ t.code = { s.code with decoder := .idle } ∧
      peekBytes t 0x77 12 = codeBytes t.code ∧ SameBytes (fun a => ¬ statusPage a) s t ∧
      OnlyTouches [.store, .code] s t)

/-- DECODE_COMPLETION accepts a code that passes steps 1 to 9, from the keypad or a slip: its sequence enters the
list, the count is 0, and its class is applied: CREDIT to the balance (R67), CLEAR_TAMPER to the named LATCHED kinds
and the TAMPER cause (R159, R161), SET_POWER_LIMIT clamped, with the history emptied and a latch ended (R106, R132),
SET_EMERGENCY clamped (R79), RESET_CREDIT to the account (R80). The slip completes OK, the keypad's hold ends with
CODE_KEYPAD, and a slip that a link reset has freed gets CODE_REMOTE and no result (R91, R92, R100, R110). -/
def Obligations.DecodeAcceptsACode : Prop :=
  ∀ (s : State) (src : Source) (chars : List Byte) (digits : List Nat), isRunning s = true →
    s.code.decoder = .decoding src chars → digitsOf chars = some digits → decimal digits < 2 ^ 64 →
    s.code.keySet = true → s.code.lock = 0 → s.strip.writeIndex ≤ 31 → s.strip.dropped < 65535 →
    (let p := clearPart (decimal digits) s.code.key
     let c := clearFields p
     let named := fun k : TamperKind => c.value.testBit k.code = true
     let cleared := fun k : TamperKind => named k ∧ (s.tamper.records.get k).status = .latched
     let newest := fun t : State => peek t (0x600 + 16 * ((t.strip.writeIndex + 31) % 32))
     checkOf s.code.key p = decimal digits % 2 ^ 16 → 1 ≤ c.cls → c.cls ≤ 5 → c.seq ∉ s.code.accepted →
     (s.code.accepted.length < 40 ∨ ∃ x, s.code.accepted.head? = some x ∧ x ≤ c.seq) →
     (c.cls = 1 → s.credit.balance + c.value ≤ 99999999) → (c.cls = 2 → ∃ k, named k) →
     (c.cls = 5 → c.value = 0) →
     ∃ t, exec .decodeCompletion s = .next t ∧
       t.code.accepted = acceptSeq c.seq s.code.accepted ∧ c.seq ∈ t.code.accepted ∧ t.code.failCount = 0 ∧
       t.code.lock = 0 ∧
       (c.cls = 1 → t.credit.balance = s.credit.balance + c.value ∧ t.credit.debitRem = s.credit.debitRem ∧
         t.credit.writtenOff = s.credit.writtenOff) ∧
       (c.cls = 2 → t.credit = s.credit ∧
         (∀ k, cleared k → t.tamper.records.get k =
           { s.tamper.records.get k with status := .clear, onBattery := false }) ∧
         (∀ k, ¬ cleared k → t.tamper.records.get k = s.tamper.records.get k) ∧
         t.supply.causes.tamper = (if (cleared .caseOpen ∨ cleared .bypass) ∧
             t.tamper.records.caseOpen.status = .clear ∧ t.tamper.records.bypass.status = .clear
           then false else s.supply.causes.tamper)) ∧
       (c.cls ≠ 2 → t.tamper = s.tamper) ∧
       (c.cls = 3 → t.credit = s.credit ∧ t.supply.trips = [] ∧ t.supply.overCount = 0 ∧
         t.supply.limit = (if c.value = 0 then 0 else max 100 (min c.value 60000)) ∧
         (s.supply.overload = .latched → t.supply.overload = .none ∧ t.supply.causes.overload = false) ∧
         (s.supply.overload ≠ .latched → t.supply.overload = s.supply.overload ∧ t.supply.causes = s.supply.causes)) ∧
       (c.cls = 4 → t.credit.emergencyAmount = min c.value 100000 ∧ t.credit.balance = s.credit.balance ∧
         t.credit.debitRem = s.credit.debitRem ∧ t.credit.writtenOff = s.credit.writtenOff) ∧
       (c.cls = 5 → t.credit.balance = 0 ∧ t.credit.debitRem = 0 ∧ t.credit.writtenOff = 0 ∧
         t.credit.emergencyAmount = s.credit.emergencyAmount ∧
         t.credit.emergency = if 0 < s.credit.emergencyAmount then .offered else .off) ∧
       (∀ n, src = .slip n true → n ∉ s.link.waiting →
         slipState t n = .done ∧ peek t (slipBase n + 2) = byteOf Verdict.ok.code) ∧
       (src = .keypad → t.code.line = [] ∧ t.code.held = false ∧
         (t.strip.dropped = s.strip.dropped → newest t = byteOf NoticeKind.codeKeypad.code)) ∧
       (∀ n, src = .slip n false → (n ∉ s.link.waiting → SameBytes (slipPlace n) s t) ∧
         (t.strip.dropped = s.strip.dropped → newest t = byteOf NoticeKind.codeRemote.code)))

/-- DECODE_COMPLETION refuses by the first of steps 1 to 9 that fails, in their order, from BAD_DIGITS to BAD_VALUE
(R96 to R100), changing neither list nor account; BAD_CHECK alone advances the count, and at 5 brings the lock into
force with 600 s; a refused submission ends the keypad's hold (R92, R101, R102). -/
def Obligations.RefusedCodesChangeNoAccount : Prop :=
  ∀ (s : State) (src : Source) (chars : List Byte), isRunning s = true → s.code.decoder = .decoding src chars →
    (let v := (judgeCode chars s).1
     (digitsOf chars = none → v = .badDigits) ∧
     (∀ ds, digitsOf chars = some ds →
       let p := clearPart (decimal ds) s.code.key
       let c := clearFields p
       v = (if 2 ^ 64 ≤ decimal ds then .badFormat
         else if s.code.keySet = false then .noKey
         else if 0 < s.code.lock then .locked
         else if checkOf s.code.key p ≠ decimal ds % 2 ^ 16 then .badCheck
         else if c.cls = 0 ∨ 6 ≤ c.cls then .badClass
         else if c.seq ∈ s.code.accepted then .used
         else if 40 ≤ s.code.accepted.length ∧ (∃ x, s.code.accepted.head? = some x ∧ c.seq < x) then .stale
         else if c.cls = 1 ∧ 99999999 < s.credit.balance + c.value then .overCap
         else if c.cls = 2 ∧ c.value % 256 = 0 ∨ c.cls = 5 ∧ c.value ≠ 0 then .badValue
         else .ok)) ∧
     (v ≠ .ok →
       ∃ t, exec .decodeCompletion s = .next t ∧
         t.code.accepted = s.code.accepted ∧ t.credit = s.credit ∧ t.supply = s.supply ∧ t.tamper = s.tamper ∧
         (v = .badCheck →
           t.code.failCount = min (s.code.failCount + 1) 5 ∧
           t.code.lock = (if 4 ≤ s.code.failCount then 600 else s.code.lock)) ∧
         (v ≠ .badCheck → t.code.failCount = s.code.failCount ∧ t.code.lock = s.code.lock) ∧
         (∀ n, src = .slip n true → n ∉ s.link.waiting →
           slipState t n = .done ∧ peek t (slipBase n + 2) = byteOf v.code) ∧
         (src = .keypad → t.code.line = [] ∧ t.code.held = false)))

/-- Every step keeps the accepted-sequence list ascending, free of duplicates and at most 40 long, the count at most 5,
the lock at most 600 and the entry line at most 20 digits (R88, R101 to R103). -/
def Obligations.CodeUnitStaysInRange : Prop :=
  ∀ s t : State, step s = .next t → s.code.inRange → t.code.inRange

/-- No sequence is accepted twice: an accepted sequence is spent, a spent sequence stays spent at every step over valid
retained memory, and no code with a spent sequence is accepted (R99, R101). -/
def Obligations.NoSequenceIsAcceptedTwice : Prop :=
  (∀ (q : Nat) (l : List Nat), Spent q (acceptSeq q l)) ∧
  (∀ s t : State, step s = .next t → retainedValid s.power = true → acceptedWell s.code.accepted →
    ∀ q, Spent q s.code.accepted → Spent q t.code.accepted) ∧
  (∀ (chars : List Byte) (s : State) (c : Code), judgeCode chars s = (.ok, some c) →
    ¬ Spent c.seq s.code.accepted)

/-! ### Supply controller -/

/-- COIL_PULSE_END in MAINS begins the verify window and resumes the converter, but sends a close attempt that finds a
cause straight to a new open attempt; in HOLDUP the attempt is abandoned, unverified (R16, R115, R118, R126). -/
def Obligations.CoilPulseEndBeginsTheWindow : Prop :=
  ∀ (s : State) (d : Direction) (a : Attempt), s.supply.coil = some d → s.supply.attempt = some a →
    (s.power.state = .mains → ¬(s.supply.machine = .closing ∧ s.supply.causes.isEmpty = false) →
      ∃ t, exec .coilPulseEnd s = .next t ∧
        t.supply = { s.supply with coil := none, attempt := some { a with phase := .verify, window := 2000 } } ∧
        t.conv = { s.conv with inFlight := some s.conv.next }) ∧
    (s.power.state = .mains → s.supply.machine = .closing → s.supply.causes.isEmpty = false →
      ∃ t, exec .coilPulseEnd s = .next t ∧ t.supply.machine = .opening ∧
        t.supply.attempt = some ⟨.toOpen, 1, .pulse, 0, 0, none⟩ ∧ t.supply.coil = some .toOpen ∧
        t.supply.causes = s.supply.causes ∧ t.conv.inFlight = none) ∧
    (s.power.state ≠ .mains →
      ∃ t, exec .coilPulseEnd s = .next t ∧ t.conv = s.conv ∧
        t.supply = { s.supply with
          coil := none, attempt := none,
          unverified := decide (s.supply.machine = .opening ∨ s.supply.machine = .closing) })

/-- VERIFY_WINDOW_EXPIRY extends the window over a weak supply up to ten times, then makes a further pulse up to the
third, then fails the attempt, a state change that raises SUPPLY (R119, R123 to R125). -/
def Obligations.VerifyWindowExpiryExtendsPulsesOrFails : Prop :=
  ∀ (s : State) (a : Attempt), isRunning s = true → s.supply.attempt = some a → a.phase = .verify →
    (let weak := ∀ f, s.front.last = some f → f.v < 1000
     (weak → a.extensions < 10 →
       ∃ t, exec .verifyWindowExpiry s = .next t ∧ t.conv = s.conv ∧
         t.supply = { s.supply with attempt := some { a with extensions := a.extensions + 1, window := 2000 } }) ∧
     (¬(weak ∧ a.extensions < 10) → a.pulse < 3 →
       ∃ t, exec .verifyWindowExpiry s = .next t ∧ t.conv.inFlight = none ∧
         t.supply = { s.supply with
           coil := some a.direction,
           attempt := some { a with pulse := a.pulse + 1, extensions := 0, phase := .pulse, window := 0 } }) ∧
     (¬(weak ∧ a.extensions < 10) → 3 ≤ a.pulse →
       ∃ t, exec .verifyWindowExpiry s = .next t ∧ t.supply.attempt = none ∧ t.conv = s.conv ∧
         t.link.latched.getLsbD 5 = true ∧
         (a.direction = .toClose → t.supply.machine = .stuckOpen ∧ t.supply.retry = 0) ∧
         (a.direction = .toOpen → s.supply.causes.isEmpty = true → t.supply.machine = .closed ∧ t.supply.retry = 0) ∧
         (a.direction = .toOpen → s.supply.causes.isEmpty = false →
           t.supply.machine = .stuckClosed ∧ t.supply.retry = 600)))

/-- The last second of each timer counted in seconds: the lock ends with the count at 0 (R103), the idle timer clears
the line where its ticks reach the timeout and not before (R89), the retry timer begins a new open attempt in
STUCK_CLOSED (R123), and the reclose wait ends the overload, which in OPEN with no other cause sends the machine to
AWAIT_CONFIRM (R122, R132). That these commands act at the last second is the model's choice (assumption logs 5, 6).
-/
def Obligations.SecondCountedTimersExpire : Prop :=
  (∀ s : State, isRunning s = true → s.code.lock = 1 → ∃ t, exec .lockExpiry s = .next t ∧
    t.code = { s.code with lock := 0, failCount := 0 }) ∧
  (∀ s : State, isRunning s = true → s.code.scanning = true → s.code.held = false →
    s.settings.idleTimeout ≤ s.code.idle → ∃ t, exec .idleTimeout s = .next t ∧
    t.code = { s.code with line := [] } ∧ peekBytes t 0x6C 11 =
      if s.code.line = [] then peekBytes s 0x6C 11 else [0, 0, 0, 0, 0, 0, 0, 0, 0, 0, 0]) ∧
  (∀ s : State, s.code.idle < s.settings.idleTimeout → exec .idleTimeout s = .next s) ∧
  (∀ s : State, isRunning s = true → s.supply.machine = .stuckClosed → s.supply.retry = 1 →
    ∃ t, exec .retryTimerExpiry s = .next t ∧ t.supply.machine = .opening ∧
      t.supply.attempt = some ⟨.toOpen, 1, .pulse, 0, 0, none⟩ ∧ t.supply.coil = some .toOpen ∧
      t.supply.retry = 0 ∧ t.supply.causes = s.supply.causes ∧ t.conv.inFlight = none) ∧
  (∀ (s : State) (r : Nat), isRunning s = true → s.supply.overload = .waiting r → r ≤ 1 →
    ∃ t, exec .recloseWaitExpiry s = .next t ∧ t.supply.overload = .none ∧
      t.supply.causes = { s.supply.causes with overload := false } ∧
      (s.supply.machine = .opened → s.supply.causes = ⟨false, false, false, true⟩ →
        t.supply.machine = .awaitConfirm))

/-- The machine enters CLOSING only on a CONFIRM key: ENTER on an empty line, in AWAIT_CONFIRM or STUCK_OPEN (R90, R114,
R121). -/
def Obligations.ClosingIsEnteredOnlyOnConfirm : Prop :=
  ∀ s t : State, step s = .next t → t.supply.machine = .closing →
    s.supply.machine = .closing ∨
    ∃ rest, s.pending = .keyPress .enter :: rest ∧ isRunning s = true ∧ s.code.line = [] ∧
      (s.supply.machine = .awaitConfirm ∨ s.supply.machine = .stuckOpen)

/-- Every step keeps the cause set telling what stands, and, while RUNNING, the machine in CLOSED or AWAIT_CONFIRM, or
verifying a close, only over an empty cause set (R73, R114, R118, R131, R156). -/
def Obligations.SupplyStaysSafe : Prop :=
  ∀ s t : State, step s = .next t → causesTell s ∧ machineSafe s → causesTell t ∧ machineSafe t

/-- A posted SUPPLY_ORDER places or removes ORDER, and the machine acts: OPEN opens a closed supply, RELEASE of the
last cause makes an open one ready for CONFIRM, a state change raises SUPPLY, and the slip reports the state it left
(R116, R122, R125, R134). The result's bytes: assumption log 17. -/
def Obligations.SupplyOrdersPlaceAndRemoveOrder : Prop :=
  (∀ (n : Fin 16) (s : State), Postable s n →
    ∃ t, exec (.supplyOrderOpen n) s = .next t ∧ t.supply.causes = { s.supply.causes with order := true } ∧
      SlipShows t n .ok [byteOf t.supply.machine.code, t.supply.causes.byte, byteOf t.supply.causes.reason] ∧
      (s.supply.causes.order = true → t.supply = s.supply) ∧
      (t.supply.machine ≠ s.supply.machine → t.link.latched.getLsbD 5 = true) ∧
      (s.supply.causes.order = false → s.supply.machine = .closed → t.supply.machine = .opening ∧
        t.supply.attempt = some ⟨.toOpen, 1, .pulse, 0, 0, none⟩ ∧ t.supply.coil = some .toOpen) ∧
      (s.supply.causes.order = false → s.supply.machine = .awaitConfirm → t.supply.machine = .opened)) ∧
  (∀ (n : Fin 16) (s : State), Postable s n →
    ∃ t, exec (.supplyOrderRelease n) s = .next t ∧ t.supply.causes = { s.supply.causes with order := false } ∧
      SlipShows t n .ok [byteOf t.supply.machine.code, t.supply.causes.byte, byteOf t.supply.causes.reason] ∧
      (s.supply.causes.order = false → t.supply = s.supply) ∧
      (t.supply.machine ≠ s.supply.machine → t.link.latched.getLsbD 5 = true) ∧
      (s.supply.causes = ⟨false, true, false, false⟩ → s.supply.machine = .opened →
        t.supply.machine = .awaitConfirm) ∧
      (s.supply.machine ≠ .closing → t.supply.machine ≠ .closing))

/-- RE_VERIFICATION with LOAD_V fresh finds the machine's state by the table of R129, clears the unverified mark, begins
an open attempt where the result is OPENING, and the part is RUNNING; without a fresh LOAD_V it waits (R14, R128,
R129, R173). That the command without a fresh LOAD_V changes nothing: assumption log 37. -/
def Obligations.ReVerificationResolvesTheMachine : Prop :=
  (∀ (s : State) (v : Nat), s.power.state = .mains → s.power.stage = .recomputed →
    s.conv.loadV.value = some v → s.conv.loadV.fresh = true →
    ∃ t, exec .reVerification s = .next t ∧
      isRunning t = true ∧ t.front.running = true ∧ t.code.scanning = true ∧ t.supply.unverified = false ∧
      t.supply.causes = s.supply.causes ∧ t.conv.loadV.fresh = false ∧ t.link.latched.getLsbD 3 = true ∧
      (v < 200 → s.supply.causes.isEmpty = true →
        t.supply.machine = if s.supply.machine = .stuckOpen then .stuckOpen else .awaitConfirm) ∧
      (v < 200 → s.supply.causes.isEmpty = false → t.supply.machine = .opened) ∧
      (200 ≤ v → s.supply.causes.isEmpty = false → t.supply.machine = .opening) ∧
      (200 ≤ v → s.supply.causes.isEmpty = true → t.supply.machine =
        if s.supply.machine = .opening ∨ s.supply.machine = .opened ∨ s.supply.machine = .awaitConfirm
        then .opening else .closed) ∧
      (t.supply.machine = .opening → t.supply.attempt = some ⟨.toOpen, 1, .pulse, 0, 0, none⟩ ∧
        t.supply.coil = some .toOpen)) ∧
  (∀ s : State, s.power.state = .mains → s.power.stage = .recomputed →
    (s.conv.loadV.value = none ∨ s.conv.loadV.fresh = false) → exec .reVerification s = .next s)

/-! ### Tamper watch -/

/-- FRAME_CLOSE finds each kind's result by its condition (R149 to R153), appends it to the window of the last W, and
judges the kind: ACTIVE at K TRUE results, its count 1 more up to 65,535, last-seen now and first-seen too where it
was CLEAR, TAMPER raised; LATCHED from ACTIVE when W are held and none is TRUE, with last-seen now; and otherwise as
it stood (R139, R146, R147, R158). A BYPASS cleared just before the frame is judged so too (assumption log 46). -/
def Obligations.FrameCloseJudgesTheWindows : Prop :=
  (∀ (f : Frame) (g : Settings) (m : MachineState),
    (frameResult .magnet f g m = true ↔ f.magnet.fresh = true ∧ ∃ v, f.magnet.value = some v ∧ g.magnet ≤ v) ∧
    (frameResult .imbalance f g m = true ↔
      (g.imbMin ≤ f.iL ∨ g.imbMin ≤ f.iN) ∧
      ((g.imbRatio : Int) * (max f.iL f.iN : Nat) < ((f.iL : Int) - (f.iN : Int)).natAbs * 100)) ∧
    (frameResult .reverse f g m = true ↔ f.pL < -((g.reverse : Int) * 1000)) ∧
    (frameResult .noVoltage f g m = true ↔ f.v < 400 ∧ (500 ≤ f.iL ∨ 500 ≤ f.iN)) ∧
    (frameResult .bypass f g m = true ↔
      m = .opened ∧ f.loadV.fresh = true ∧ ∃ v, f.loadV.value = some v ∧ 1000 ≤ v)) ∧
  (∀ (m : Means) (s : State), isRunning s = true → s.front.running = true →
    ∃ t f, exec (.frameClose m) s = .next t ∧ t.front.last = some f ∧
      ∀ k : FrameKind,
        let old := s.tamper.windows.get k
        let w := old.drop (old.length + 1 - s.settings.windowW) ++
          [frameResult k f s.settings s.supply.machine]
        let r := s.tamper.records.get k.kind
        let was := r.status
        t.tamper.windows.get k = w ∧
        (was ≠ .active → s.settings.windowK ≤ w.count true → t.link.latched.getLsbD 4 = true ∧
          t.tamper.records.get k.kind =
            ⟨.active, if was = .clear then some (now s) else r.first, some (now s), min (r.count + 1) 65535,
              r.onBattery⟩) ∧
        (was = .active → s.settings.windowW ≤ w.length → w.count true = 0 →
          t.tamper.records.get k.kind = { r with status := .latched, last := some (now s) }) ∧
        (was ≠ .active → w.count true < s.settings.windowK → t.tamper.records.get k.kind = r) ∧
        (was = .active → (w.length < s.settings.windowW ∨ w.count true ≠ 0) → t.tamper.records.get k.kind = r))

/-- SWITCH_EVENT settles the position and gives the kind's record its transition: an opened switch makes it ACTIVE,
its count 1 more up to 65,535, last-seen the time of the event and first-seen too where it was CLEAR; a closed one
turns ACTIVE to LATCHED, with last-seen (R138 to R142). In mains operation a kind entering ACTIVE raises TAMPER
(R158), and an opened case that was CLEAR places the cause (R156); outside it the seen-on-battery mark is set and the
event goes to the battery event list or the overflow count (R143, R144, R168). In WATCH an event is taken AWAKE
(R167), and asleep it is none (assumption log 27). That an opened case places TAMPER also between steps 3 and 4 of
start-up is the model's choice (assumption log 45). That the mark is set also without a transition is deduced
(assumption log 26). -/
def Obligations.SwitchEventsMoveTheRecord : Prop :=
  ∀ (w : SwitchId) (s : State) (p : Position), s.tamper.settled w = some p → s.pins.switch w ≠ p →
    s.power.state ≠ .dark →
    (s.power.state = .watch → s.power.watch ≠ .awake → exec (.switchEvent w) s = .next s) ∧
    ((s.power.state = .watch → s.power.watch = .awake) →
     let k := switchKind w
     let old := s.tamper.records.get k
     let moved : TamperRecord :=
       match s.pins.switch w with
       | .opened =>
         if old.status = .active then old
         else ⟨.active, if old.status = .clear then some (now s) else old.first, some (now s),
           min (old.count + 1) 65535, old.onBattery⟩
       | .closed => if old.status = .active then { old with status := .latched, last := some (now s) } else old
     (mainsOperation s = true →
       ∃ t, exec (.switchEvent w) s = .next t ∧ t.tamper.settled w = some (s.pins.switch w) ∧
         t.tamper.records = s.tamper.records.set k moved ∧
         (moved.status = .active → old.status ≠ .active → t.link.latched.getLsbD 4 = true) ∧
         (w = .caseSw → s.pins.switch w = .opened → old.status = .clear → t.supply.causes.tamper = true) ∧
         t.power = s.power) ∧
     (mainsOperation s = false →
       ∃ t, exec (.switchEvent w) s = .next t ∧ t.tamper.settled w = some (s.pins.switch w) ∧
         t.tamper.records = s.tamper.records.set k { moved with onBattery := true } ∧
         (t.tamper.records.get k).onBattery = true ∧
         (s.power.events.length < 8 → (t.power.events.map fun e => (e.switch, e.position, e.time)) =
           (s.power.events.map fun e => (e.switch, e.position, e.time)) ++ [(w, s.pins.switch w, now s)] ∧
           t.power.overflow = s.power.overflow) ∧
         (8 ≤ s.power.events.length → t.power.events = s.power.events ∧
           t.power.overflow = min (s.power.overflow + 1) 255) ∧
         OnlyTouches [.store, .tamper, .power] s t))

/-! ### Power logic -/

/-- In WATCH a switch change wakes the part and restarts the hold timer, the hold timer's expiry puts it to sleep for
60 s, and the wake timer's makes a timed wake; a wake from sleep begins a BATTERY conversion (R17, R167). A change to
the reading that stands is none (assumption log 27). BATTERY_REMOVED with mains absent ends the battery domain: the
clock stops INVALID, the continuity mark and the settled positions are lost, and the power state stands (R164, R169).
Fitted to an unpowered part, for the first time in DARK and at any time elsewhere, a battery begins the clock at 0,
INVALID (R40). Otherwise either event moves its pin alone (assumption logs 21, 22). -/
def Obligations.WatchAndBatteryEvents : Prop :=
  (∀ (w : SwitchId) (p : Position) (s : State), s.power.state = .watch → s.pins.switch w ≠ p →
    ∃ t, exec (.switchChange w p) s = .next t ∧ t.pins.switch w = p ∧
      t.power = { s.power with watch := .awake, holdTimer := s.settings.holdTime, wakeTimer := 0 } ∧
      (s.power.watch = .asleep → t.conv = { s.conv with inFlight := some .battery, next := .battery }) ∧
      (s.power.watch ≠ .asleep → t.conv = s.conv)) ∧
  (∀ (w : SwitchId) (p : Position) (s : State), s.power.state ≠ .watch → s.pins.switch w ≠ p →
    ∃ t, exec (.switchChange w p) s = .next t ∧ t.pins.switch w = p ∧ OnlyTouches [.pins] s t) ∧
  (∀ (w : SwitchId) (p : Position) (s : State), s.pins.switch w = p → exec (.switchChange w p) s = .next s) ∧
  (∀ s : State, s.power.state = .watch → s.power.watch = .awake →
    ∃ t, exec .holdTimerExpiry s = .next t ∧
      t = s.withPower { s.power with watch := .asleep, holdTimer := 0, wakeTimer := 60 }) ∧
  (∀ s : State, s.power.state = .watch → s.power.watch = .asleep →
    ∃ t, exec .timedWake s = .next t ∧ t.power = { s.power with watch := .timedWake, wakeTimer := 0 } ∧
      t.conv = { s.conv with inFlight := some .battery, next := .battery }) ∧
  (∀ s : State, s.pins.battery = true → s.pins.mains = false →
    ∃ t, exec .batteryRemoved s = .next t ∧ t.pins = { s.pins with battery := false } ∧
      t.power = { s.power with continuity := false } ∧ t.clock = { s.clock with valid := false, running := false } ∧
      t.tamper = { s.tamper with caseSettled := none, coverSettled := none } ∧
      OnlyTouches [.pins, .power, .clock, .tamper] s t) ∧
  (∀ s : State, s.pins.battery = false ∨ s.pins.mains = true →
    exec .batteryRemoved s = .next (s.withPins { s.pins with battery := false })) ∧
  (∀ s : State, s.pins.battery = false → s.clock.running = false → (s.power.state ≠ .dark ∨ s.power.fitted = false) →
    ∃ t, exec .batteryFitted s = .next t ∧ t.pins = { s.pins with battery := true } ∧
      t.power = { s.power with continuity := false, fitted := true } ∧
      t.clock = { s.clock with count := 0, valid := false, running := true } ∧
      OnlyTouches [.pins, .power, .clock] s t) ∧
  (∀ s : State, s.pins.battery = true ∨ s.clock.running = true ∨ (s.power.state = .dark ∧ s.power.fitted = true) →
    ∃ t, exec .batteryFitted s = .next t ∧ t.pins = { s.pins with battery := true } ∧
      t.power = { s.power with fitted := true } ∧ OnlyTouches [.pins, .power] s t)

/-- MAINS_LOSS and RESETN_LOW in MAINS enter HOLDUP: the items R165 lists are lost with the store, the loss record is
written from RUNNING, a KEY_SET in flight is kept whole or abandoned (R108, assumption log 23), a frame in progress of
at least 1 ms is closed at a loss of mains and discarded at RESETN, and the period in progress, after that frame, is
saved with the clock's count and validity as its end time, or, with none open, an earlier saved period is kept (R7,
R8, R37, R53, R110, R126, R165, R166, R200). The windows and the overload count go at start-up. What the link port
holds then, who takes the final frame, and that a decode or a load in flight has not begun its update, are deduced
(assumption logs 13, 39, 58). -/
def Obligations.LossOfMainsAndResetnEnterHoldup : Prop :=
  ∀ s : State, s.power.state = .mains →
    (let lost := fun (r : EntryReason) (t : State) =>
       t.power.state = .holdup ∧ t.power.holdupDone = false ∧ t.front.running = false ∧
       t.front.progress = ⟨0, ⟨0, 0, 0, 0, 0⟩⟩ ∧ t.store = [] ∧
       t.strip = ⟨0, 0⟩ ∧ t.link = Link.empty ∧ t.energy.backlog = 0 ∧ t.energy.pulse = .idle ∧
       t.conv.inFlight = none ∧ t.tariff.load = none ∧ t.supply.retry = 0 ∧
       (t.code = s.code.volatileReset ∨
         ∃ n live, s.code.decoder = .keying n live false ∧
           t.code = { s.code.volatileReset with key := 0, keySet := false }) ∧
       t.profile = { s.profile with period := none, saved := t.profile.saved } ∧
       (s.profile.period = none → t.profile.saved = s.profile.saved) ∧
       t.power.loss = (if isRunning s = true then some ⟨now s, r⟩ else s.power.loss) ∧
       t.supply.machine = s.supply.machine ∧ t.supply.coil = s.supply.coil ∧
       (s.supply.coil = none → t.supply.attempt = none ∧
         t.supply.unverified = decide (s.supply.machine = .opening ∨ s.supply.machine = .closing))
     (∀ (elapsed : Nat) (m : Means), 1 ≤ elapsed → elapsed ≤ 999 → s.front.running = true →
       ∃ t f, exec (.mainsLoss elapsed m) s = .next t ∧ lost .mainsLoss t ∧ t.pins.mains = false ∧
         t.front.last = some f ∧ f.duration = elapsed ∧
         t.energy.billed.rem =
           (s.energy.billed.rem + t.energy.power * elapsed / 1000) % 3600000 ∧
         (∀ p, s.profile.period = some p → p.wh ≤ 65535 → ∃ q, t.profile.saved = some ⟨q, now s⟩ ∧
           q.wh = min (p.wh + (s.energy.billed.rem + t.energy.power * elapsed / 1000) / 3600000) 65535 ∧
           q.minV = some (match p.minV with | some x => min x f.v | none => f.v) ∧
           q.maxV = some (match p.maxV with | some x => max x f.v | none => f.v) ∧
           (q.tamper = true ↔ p.tamper = true ∨ ∃ k, (s.tamper.records.get k).status ≠ .active ∧
             (t.tamper.records.get k).status = .active) ∧
           q.supplyOpen = p.supplyOpen ∧ q.clockInvalid = p.clockInvalid ∧ q.step = p.step ∧ q.slot = p.slot ∧
           q.minutes = p.minutes)) ∧
     (∀ (elapsed : Nat) (m : Means), elapsed = 0 ∨ s.front.running = false →
       ∃ t, exec (.mainsLoss elapsed m) s = .next t ∧ lost .mainsLoss t ∧ t.pins.mains = false ∧
         t.front.last = s.front.last ∧ t.energy.billed = s.energy.billed ∧ t.credit = s.credit ∧
         (∀ p, s.profile.period = some p → t.profile.saved = some ⟨p, now s⟩)) ∧
     (∃ t, exec .resetnLow s = .next t ∧ lost .resetn t ∧ t.pins.resetnHigh = false ∧
       t.front.last = s.front.last ∧ t.energy.billed = s.energy.billed ∧ t.credit = s.credit ∧
       (∀ p, s.profile.period = some p → t.profile.saved = some ⟨p, now s⟩)))

/-- The rows of R164 that do not begin a start-up: hold-up completion with mains absent, or loss of mains in a reset
held after it, enters WATCH awake with a BATTERY conversion; with RESETN low the part waits in HOLDUP; mains returning
with RESETN low enters HOLDUP with hold-up completed, the clock restarting after DARK (R40, R164, R167, R174). That a
clock stopped by a battery removal in WATCH restarts so too is deduced (assumption log 21), and so is that the
completion ends a running pulse first (assumption log 24). -/
def Obligations.PowerTableWithoutStartUp : Prop :=
  (∀ (k : Fin 5) (s : State), s.power.state = .holdup → s.power.holdupDone = false → s.pins.mains = false →
    ∃ t, exec (.holdupCompletion k) s = .next t ∧ t.power.state = .watch ∧ t.power.watch = .awake ∧
      t.power.holdTimer = s.settings.holdTime ∧ t.conv.inFlight = some .battery ∧ t.supply.coil = none ∧
      (s.supply.coil ≠ none → t.supply.attempt = none ∧
        t.supply.unverified = decide (s.supply.machine = .opening ∨ s.supply.machine = .closing)) ∧
      (s.supply.coil = none → t.supply = s.supply)) ∧
  (∀ (k : Fin 5) (s : State), s.power.state = .holdup → s.power.holdupDone = false → s.pins.mains = true →
    s.pins.resetnHigh = false →
    ∃ t, exec (.holdupCompletion k) s = .next t ∧ t.power = { s.power with holdupDone := true } ∧
      t.supply.coil = none) ∧
  (∀ (elapsed : Nat) (m : Means) (s : State), s.power.state = .holdup → s.power.holdupDone = true →
    s.pins.mains = true →
    ∃ t, exec (.mainsLoss elapsed m) s = .next t ∧ t.power.state = .watch ∧ t.power.watch = .awake ∧
      t.conv.inFlight = some .battery ∧ t.pins.mains = false) ∧
  (∀ (k : Fin 5) (s : State), (s.power.state = .watch ∨ s.power.state = .dark) → s.pins.resetnHigh = false →
    ∃ t, exec (.mainsReturn k) s = .next t ∧ t.power.state = .holdup ∧ t.power.holdupDone = true ∧
      t.pins.mains = true ∧ t.conv.inFlight = none ∧ t.supply = s.supply ∧ t.credit = s.credit ∧
      (s.power.state = .watch → s.clock.running = true → t.clock = s.clock) ∧
      (s.power.state = .dark ∨ s.clock.running = false →
        t.clock = { s.clock with count := 0, valid := false, running := true }))

/-- MAINS_RETURN, RESETN_RELEASE and HOLDUP_COMPLETION begin a start-up where the table of R164 says so and run its
first steps: the measurement state is set (R18), windows and overload count are empty (R130, R146), over valid
retained memory every retained item stands until the step that works on it, otherwise the part takes factory state
(R170), and at a return of mains a clock that stood in DARK begins at 0, INVALID (R40). How many of the steps are done
is the sender's choice (assumption log 3); a clock that lost its battery restarts too (log 21). -/
def Obligations.StartUpKeepsRetainedOrTakesFactoryState : Prop :=
  ∀ (c : Instr) (k : Fin 5) (s : State),
    (c = .mainsReturn k ∧ (s.power.state = .watch ∨ s.power.state = .dark) ∧ s.pins.resetnHigh = true ∨
     c = .resetnRelease k ∧ s.power.state = .holdup ∧ s.power.holdupDone = true ∧ s.pins.mains = true ∧
       s.pins.resetnHigh = false ∨
     c = .holdupCompletion k ∧ s.power.state = .holdup ∧ s.power.holdupDone = false ∧ s.pins.mains = true ∧
       s.pins.resetnHigh = true ∧ s.supply.coil = none) →
    ∃ t, exec c s = .next t ∧ t.power.state = .mains ∧ t.power.stage.num = k.val ∧
      t.front = ⟨false, 0, none, ⟨0, ⟨0, 0, 0, 0, 0⟩⟩⟩ ∧ (∀ ch, t.conv.get ch = ⟨none, false, false⟩) ∧
      t.conv.inFlight = some .loadV ∧ (∀ x, t.tamper.windows.get x = []) ∧ t.supply.overCount = 0 ∧
      t.power.spent = false ∧
      (if c = .mainsReturn k ∧ (s.power.state = .dark ∨ s.clock.running = false)
        then t.clock.count = 0 ∧ t.clock.valid = false ∧ t.clock.running = true
        else t.clock.count = s.clock.count ∧ t.clock.valid = s.clock.valid ∧ t.clock.running = s.clock.running) ∧
      (retainedValid s.power = true →
        t.energy.billed = s.energy.billed ∧ t.energy.phaseFwd = s.energy.phaseFwd ∧
        t.energy.phaseRev = s.energy.phaseRev ∧ t.energy.neutral = s.energy.neutral ∧ t.tariff = s.tariff ∧
        t.credit.balance = s.credit.balance ∧ t.credit.debitRem = s.credit.debitRem ∧
        t.credit.writtenOff = s.credit.writtenOff ∧ t.credit.emergencyAmount = s.credit.emergencyAmount ∧
        t.code = s.code.volatileReset ∧ t.supply.machine = s.supply.machine ∧
        t.supply.unverified = s.supply.unverified ∧ t.supply.limit = s.supply.limit ∧
        t.supply.causes.order = s.supply.causes.order ∧ t.supply.overload = s.supply.overload ∧
        t.supply.trips = s.supply.trips ∧ t.tamper.records = s.tamper.records ∧ t.settings = s.settings ∧
        t.clock.announced = s.clock.announced ∧ t.power.loss = s.power.loss ∧ t.power.dark = s.power.dark ∧
        (k.val < 4 → t.credit = s.credit) ∧
        (k.val < 3 → t.profile = { s.profile with period := none } ∧ t.power.events = s.power.events ∧
          t.power.overflow = s.power.overflow)) ∧
      (retainedValid s.power = false → 1 ≤ k.val →
        t.energy.billed = ⟨0, 0⟩ ∧ t.tariff.active = none ∧ t.tariff.pending = none ∧ t.credit.balance = 0 ∧
        t.code = CodeUnit.factory ∧ t.supply.machine = .opened ∧ t.supply.causes = ⟨false, false, true, false⟩ ∧
        t.tamper.records = TamperRecords.factory ∧ t.settings = Settings.default ∧ t.profile.desc = none ∧
        t.clock.announced = none ∧ t.power.loss = none ∧ t.power.dark = none ∧ t.power.events = [] ∧
        retainedValid t.power = true)

/-- A start-up done to step 3 or 4: step 3 writes from the first entry of the strip one notice for each battery event,
oldest first, then POWER_BACK and, where the continuity mark was absent, WATCH_LOST, empties the event list (R171), and
closes the saved period into the profile area, PARTIAL (R200); step 4 evaluates the credit and rebuilds the cause set
(R83, R127, R173). Bytes of the notices and the absence marks: assumption logs 16, 50; the causes before step 4: log 48;
the steps done: log 3. -/
def Obligations.StartUpReplaysAndRebuilds : Prop :=
  ∀ (c : Instr) (k : Fin 5) (s : State),
    (c = .mainsReturn k ∧ (s.power.state = .watch ∨ s.power.state = .dark) ∧ s.pins.resetnHigh = true ∨
     c = .resetnRelease k ∧ s.power.state = .holdup ∧ s.power.holdupDone = true ∧ s.pins.mains = true ∧
       s.pins.resetnHigh = false ∨
     c = .holdupCompletion k ∧ s.power.state = .holdup ∧ s.power.holdupDone = false ∧ s.pins.mains = true ∧
       s.pins.resetnHigh = true ∧ s.supply.coil = none) →
    3 ≤ k.val → layoutWell s → s.power.events.length ≤ 8 →
    ∃ t, exec c s = .next t ∧
      (let valid := retainedValid s.power = true
       let events := if valid then s.power.events else []
       let loss := if valid then s.power.loss else none
       let dark := if valid ∧ s.power.darkSinceMark = true then s.power.dark else none
       let n := events.length
       let entry := fun i : Nat => 0x600 + 16 * i
       let absent := s.power.continuity = false
       t.power.events = [] ∧ t.power.overflow = 0 ∧ t.profile.saved = none ∧
       n + (if absent then 2 else 1) ≤ t.strip.writeIndex ∧ readIndex t = 0 ∧ t.strip.dropped = 0 ∧
       (∀ i e, events[i]? = some e →
         peek t (entry i) =
           (match e.position with
            | .opened => byteOf NoticeKind.tamperOn.code
            | .closed => byteOf NoticeKind.tamperOff.code) ∧
         (peek t (entry i + 1)).toNat % 32 = (switchKind e.switch).code + 16 ∧
         (peek t (entry i + 1)).toNat / 128 = e.time.valid.toNat ∧
         peekBytes t (entry i + 2) 4 = leBytes 4 e.time.count) ∧
       peekBytes t (entry n) 7 =
         [byteOf NoticeKind.powerBack.code,
          byteOf ((match loss with | some l => if l.reason = .resetn then 1 else 0 | none => 0) +
            128 * t.clock.valid.toNat)] ++ leBytes 4 t.clock.count ++
         [flagsByte [!retainedValid s.power, loss.isSome && !s.power.continuity, loss.isNone,
           (loss.map fun l => l.time.valid).getD false, t.clock.valid]] ∧
       ((loss = none ∨ absent) → peekBytes t (entry n + 7) 4 = [0, 0, 0, 0]) ∧
       (∀ l, loss = some l → ¬ absent → l.time.count ≤ t.clock.count →
         peekBytes t (entry n + 7) 4 = leBytes 4 (t.clock.count - l.time.count)) ∧
       peekBytes t (entry n + 11) 2 = [byteOf n, byteOf (if valid then s.power.overflow else 0)] ∧
       (absent → peek t (entry (n + 1)) = byteOf NoticeKind.watchLost.code ∧
         peekBytes t (entry (n + 1) + 6) 7 =
           (match dark with
            | some d => leBytes 4 d.time.count ++ [flagsByte [d.time.valid, false]] ++ leBytes 2 d.battery
            | none => [0, 0, 0, 0, 2, 0, 0])) ∧
       (valid → s.profile.saved = none → t.profile.desc = s.profile.desc ∧
         t.profile.unrecorded = s.profile.unrecorded) ∧
       (∀ v d, valid → s.profile.saved = some v → s.profile.desc = some d →
         (d.remaining = 0 → t.profile.desc = some d ∧
           t.profile.unrecorded = min (s.profile.unrecorded + 1) 65535) ∧
         (0 < d.remaining → t.profile.unrecorded = s.profile.unrecorded ∧
           t.profile.desc = some { d with
             remaining := if d.remaining = 255 then 255 else d.remaining - 1
             nextSlot := (d.nextSlot + 1) % d.capacity } ∧
           peekBytes t (d.offset + 16 * d.nextSlot) 11 =
             leBytes 4 v.endTime.count ++ leBytes 2 v.period.wh ++ leBytes 2 (v.period.minV.getD 0) ++
             leBytes 2 (v.period.maxV.getD 0) ++
             [flagsByte [v.period.tamper, v.period.supplyOpen, v.period.clockInvalid || !v.endTime.valid,
               v.period.step, true]])) ∧
       (∃ q, t.profile.period = (t.profile.desc.map fun _ => q) ∧ q.wh = 0 ∧ q.minV = none ∧ q.minutes = 0) ∧
       (k.val = 3 → valid → t.supply.causes = s.supply.causes) ∧
       (k.val = 4 →
         (t.supply.causes.credit = true ↔ t.credit.state = .exhausted) ∧
         (t.supply.causes.tamper = true ↔
           t.tamper.records.caseOpen.status ≠ .clear ∨ t.tamper.records.bypass.status ≠ .clear) ∧
         (valid → t.credit = s.credit.evaluated s.settings t.clock ∧
           t.supply.causes.order = s.supply.causes.order ∧ t.supply.causes.overload = s.supply.causes.overload ∧
           t.supply.machine = s.supply.machine ∧ t.tamper.records = s.tamper.records)))

/-! ### Link port: transfers and registers -/

/-- STORE_READ shifts out the bytes from its address, 0xFFF followed by 0x000, behind those of the read it carries on;
a read of LSTAT, ACONF or IDENT shifts out the register and zeros after it, and a read of an address above 5 zeros; an
operation byte that names none of the four shifts out zeros, and a write to a register that cannot be written changes
nothing; nothing is shifted out while the link port does not answer (R164, R175, R185). What `dataOut` holds during a
write, that one command reads a run of bytes, and that a read of a register only written, AACK or LCTL, gives zeros
too are the model's choices (assumption log 9). -/
def Obligations.ReadsAndIgnoredTransfersChangeNothing : Prop :=
  (∀ (addr : BitVec 16) (n : Nat) (s : State), linkUp s = true → exec (.storeRead addr ⟨n, false⟩) s =
    .next (s.withLink { s.link with dataOut := (List.range n).map fun i => peek s ((addr.toNat + i) % 4096) })) ∧
  (∀ (addr : BitVec 16) (n : Nat) (s : State), linkUp s = true → exec (.storeRead addr ⟨n, true⟩) s =
    .next (s.withLink { s.link with
      dataOut := s.link.dataOut ++ (List.range n).map fun i => peek s ((addr.toNat + i) % 4096) })) ∧
  (∀ (addr : BitVec 16) (n : Nat) (s : State), linkUp s = false → exec (.storeRead addr ⟨n, false⟩) s =
    .next (s.withLink { s.link with dataOut := [] })) ∧
  (∀ (addr : BitVec 16) (n : Nat) (s : State), linkUp s = true → 1 ≤ n → addr.toNat ≠ 1 →
    exec (.apendRead ⟨addr, n⟩) s = .next (s.withLink { s.link with
      dataOut := ((if addr.toNat = 0 then
          byteOf ((if isRunning s = true then 1 else 0) + (if s.link.collision.isSome = true then 2 else 0)) ::
            leBytes 2 (s.link.collision.getD 0)
        else if addr.toNat = 3 then leBytes 3 s.link.aconf.toNat
        else if addr.toNat = 5 then [0x10, 0x71, 0x01]
        else []) ++ List.replicate n 0).take n })) ∧
  (∀ (read : RegisterRead) (s : State), linkUp s = false → exec (.apendRead read) s =
    .next (s.withLink { s.link with dataOut := [] })) ∧
  (∀ (op : Byte) (n : Nat) (s : State), linkUp s = true → exec (.operationIgnored op n) s =
    .next (s.withLink { s.link with dataOut := List.replicate n 0 })) ∧
  (∀ (op : Byte) (n : Nat) (s : State), linkUp s = false → exec (.operationIgnored op n) s =
    .next (s.withLink { s.link with dataOut := [] })) ∧
  (∀ (addr : BitVec 16) (data : List Byte) (s : State), (Instr.regWriteIgnored addr data).wellFormed = true →
    exec (.regWriteIgnored addr data) s = .next (s.withLink { s.link with dataOut := [] }))

/-- STORE_WRITE presents each byte on its own, against the ownership as it stands (R175, R177): it applies a byte of the
scratch region, of a FREE or DONE slip's body, and of the open area outside the active profile area and an image area in
flight (R176); any other byte of these, of the status page or of the strip, and every byte while the link status reads
STARTING, collides: it is not applied, the flag is set, and the first address is kept (R172, R177). State bytes and the
read index have statements of their own. With no byte shifted out (assumption log 9). -/
def Obligations.StoreWriteAppliesOrCollides : Prop :=
  (∀ (addr : BitVec 16) (data : List Byte) (s : State), isRunning s = true → 0x101 ≤ addr.toNat →
    addr.toNat + data.length ≤ 0x200 →
    ∃ t, exec (.storeWrite addr data) s = .next t ∧ peekBytes t addr.toNat data.length = data ∧
      (∀ a, a < addr.toNat ∨ addr.toNat + data.length ≤ a → peek t a = peek s a) ∧
      t.link = { s.link with dataOut := [] } ∧ OnlyTouches [.store, .link] s t) ∧
  (∀ (addr : BitVec 16) (b : Byte) (data : List Byte) (s t : State), exec (.storeWrite addr [b]) s = .next t →
    exec (.storeWrite addr (b :: data)) s = exec (.storeWrite (addr + 1) data) t) ∧
  (∀ (addr : BitVec 16) (b : Byte) (s : State), isRunning s = true → addr.toNat < 0x1000 →
    (let a := addr.toNat
     let body := fun n : Fin 16 => slipBase n < a ∧ a < slipBase n + 64
     let profileOwns := ∃ d, s.profile.desc = some d ∧ 0 < d.remaining ∧ d.offset ≤ a ∧ a < d.offset + 16 * d.capacity
     let loadOwns := ∃ l o, s.tariff.load = some l ∧ l.area = some o ∧ o ≤ a ∧ a < o + 96
     let hosts := (0x101 ≤ a ∧ a < 0x200) ∨
       (∃ n, body n ∧ (slipState s n = .free ∨ slipState s n = .done)) ∨
       (0x800 ≤ a ∧ ¬ profileOwns ∧ ¬ loadOwns)
     let parts := a < 0x100 ∨ (∃ n, body n ∧ (slipState s n = .posted ∨ slipState s n = .taken)) ∨
       (0x600 ≤ a ∧ a < 0x800) ∨ (0x800 ≤ a ∧ (profileOwns ∨ loadOwns))
     (hosts → ∃ t, exec (.storeWrite addr [b]) s = .next t ∧ peek t a = b ∧ SameBytes (fun x => x ≠ a) s t ∧
       t.link = { s.link with dataOut := [] } ∧ OnlyTouches [.store, .link] s t) ∧
     (parts → ∃ t, exec (.storeWrite addr [b]) s = .next t ∧ t.link.collision = some (s.link.collision.getD a) ∧
       t.link.waiting = s.link.waiting ∧ (pendingCauses t).getLsbD 2 = true ∧ OnlyTouches [.link] s t))) ∧
  (∀ (addr : BitVec 16) (b : Byte) (data : List Byte) (s : State), linkUp s = true → isRunning s = false →
    ∃ t, exec (.storeWrite addr (b :: data)) s = .next t ∧
      t.link.collision = some (s.link.collision.getD (addr.toNat % 4096)) ∧ OnlyTouches [.link] s t)

/-- A host write to a slip's state byte is judged by the table of R178, against the state as it stands. -/
def Obligations.StateBytesFollowTheSlipTable : Prop :=
  ∀ (n : Fin 16) (b : Byte) (s : State), isRunning s = true → s.link.waiting.Nodup →
    ∃ t, exec (.storeWrite (BitVec.ofNat 16 (slipBase n)) [b]) s = .next t ∧
      (slipState s n = .free → n ∉ s.link.waiting → b = 1 →
        (accepts s n = true ∧ (slipState t n = .taken ∨ slipState t n = .done) ∧ n ∉ t.link.waiting ∨
         accepts s n = false ∧ slipState t n = .posted ∧ t.link.waiting = s.link.waiting ++ [n] ∧
           OnlyTouches [.store, .link] s t)) ∧
      (slipState s n = .posted → b = 0 →
        slipState t n = .free ∧ t.link.waiting = s.link.waiting.erase n ∧ n ∉ t.link.waiting ∧
        SameBytes (fun a => a ≠ slipBase n) s t ∧ OnlyTouches [.store, .link] s t) ∧
      (slipState s n = .done → b = 0 →
        slipState t n = .free ∧ t.link.waiting = s.link.waiting ∧
        SameBytes (fun a => a ≠ slipBase n) s t ∧ OnlyTouches [.store, .link] s t) ∧
      ((slipState s n = .free ∧ b ≠ 1 ∨ slipState s n = .posted ∧ b ≠ 0 ∨ slipState s n = .taken ∨
          slipState s n = .done ∧ b ≠ 0) →
        t.link.collision = some (s.link.collision.getD (slipBase n)) ∧
        t.link.waiting = s.link.waiting ∧ OnlyTouches [.link] s t)

/-- Every step keeps the waiting list exactly the POSTED slips, each once, and every TAKEN slip worked by exactly one
block, in states whose strip index and profile area lie in their places (R165, R178 to R180). -/
def Obligations.SlipsAreWorkedByExactlyOneBlock : Prop :=
  ∀ s t : State, step s = .next t → layoutWell s → slipsWell s → slipsWell t

/-- A write of the read index is accepted within the span from the read index to the write index, and any other value
collides; freed entries are not cleared, a notice only extends the span, and on a full strip the order of a notice and
a freeing write decides the notice (R192). -/
def Obligations.ReadIndexMovesWithinTheSpan : Prop :=
  ∀ (b : Byte) (s : State), isRunning s = true → s.strip.writeIndex ≤ 31 → readIndex s ≤ 31 →
    (b.toNat ≤ 31 → (b.toNat + 32 - readIndex s) % 32 ≤ (s.strip.writeIndex + 32 - readIndex s) % 32 →
      (∃ t, exec (.storeWrite 0x100 [b]) s = .next t ∧ readIndex t = b.toNat ∧
        SameBytes (fun a => a ≠ 0x100) s t ∧ t.link.collision = s.link.collision ∧ t.strip = s.strip ∧
        (b.toNat = s.strip.writeIndex → unread t = 0) ∧
        (b.toNat = readIndex s → SameBytes (fun _ => True) s t) ∧
        (∀ k hd d, unread s = 31 → b.toNat ≠ readIndex s →
          (notice k hd d t).strip = ⟨(s.strip.writeIndex + 1) % 32, s.strip.dropped⟩)) ∧
      (∀ k hd d, inReadSpan (notice k hd d s) b.toNat = true)) ∧
    ((31 < b.toNat ∨ (s.strip.writeIndex + 32 - readIndex s) % 32 < (b.toNat + 32 - readIndex s) % 32) →
      ∃ t, exec (.storeWrite 0x100 [b]) s = .next t ∧ readIndex t = readIndex s ∧
        t.link.collision = some (s.link.collision.getD 0x100) ∧ OnlyTouches [.link] s t) ∧
    (∀ k hd d, unread s = 31 →
      (notice k hd d s).strip = { s.strip with dropped := min (s.strip.dropped + 1) 65535 })

/-- APEND_READ shifts out the pending causes and records the latched ones seen; AACK_WRITE clears the latched causes it
names that were seen and no other; a cause raised after the read survives any acknowledge that follows (R186, R187). A
read of no byte: assumption log 10. -/
def Obligations.AcknowledgeClearsOnlyWhatWasSeen : Prop :=
  (∀ (n : Nat) (s : State), linkUp s = true → 1 ≤ n → exec (.apendRead ⟨1, n⟩) s =
    .next (s.withLink { s.link with
      seen := s.link.latched,
      dataOut := (leBytes 2 (pendingCauses s).toNat ++ List.replicate n 0).take n })) ∧
  (∀ (b₀ b₁ : Byte) (rest : List Byte) (s : State), linkUp s = true →
    ∃ t, exec (.aackWrite (b₀ :: b₁ :: rest)) s = .next t ∧ OnlyTouches [.link] s t ∧
      ∀ i, i < 9 →
        (t.link.latched.getLsbD i = (s.link.latched.getLsbD i &&
          !((b₀.toNat + 256 * b₁.toNat).testBit i && s.link.seen.getLsbD i))) ∧
        (t.link.seen.getLsbD i = (s.link.seen.getLsbD i &&
          !((b₀.toNat + 256 * b₁.toNat).testBit i && s.link.latched.getLsbD i)))) ∧
  (∀ (c : AttnCause) (data : List Byte) (s : State), linkUp s = true →
    ∃ t, exec (.aackWrite data) (raise c s) = .next t ∧ t.link.latched.getLsbD c.bit = true)

/-- ACONF_WRITE takes effect at once and the line follows it; CLEAR_COLLISION clears flag and address; ATTN_PULSE_END
ends the pulse, which releases the line in PULSE mode (R177, R185, R188, R202). The three unused bits of ACONF read 0
(assumption log 10). -/
def Obligations.AttentionRegistersDriveTheLine : Prop :=
  (∀ (b₀ b₁ b₂ : Byte) (rest : List Byte) (s : State), linkUp s = true →
    ∃ t, exec (.aconfWrite (b₀ :: b₁ :: b₂ :: rest)) s = .next t ∧ OnlyTouches [.link] s t ∧
      t.link.aconf.toNat = (b₀.toNat + 256 * b₁.toNat + 65536 * b₂.toNat) % 2097152 ∧
      pendingCauses t = pendingCauses s ∧
      (b₂.toNat / 16 % 2 = 0 → (attnAsserted t = true ↔ qualifying t ≠ 0)) ∧
      (b₂.toNat / 16 % 2 = 1 → qualifying t &&& ~~~s.link.qual ≠ 0 → attnAsserted t = true) ∧
      (b₂.toNat / 16 % 2 = 1 → s.link.attnPulse = false → qualifying t &&& ~~~s.link.qual = 0 →
        attnAsserted t = false)) ∧
  (∀ s : State, linkUp s = true →
    ∃ t, exec .clearCollision s = .next t ∧ OnlyTouches [.link] s t ∧ t.link.collision = none ∧
      (conditionCauses t).getLsbD 2 = false ∧ (lstatBytes t).drop 1 = [0, 0]) ∧
  (∀ s : State, s.link.attnPulse = true →
    ∃ t, exec .attnPulseEnd s = .next t ∧ t = s.withLink { s.link with attnPulse := false } ∧
      (aconfPulse s.link.aconf = true → attnAsserted t = false))

/-- LINK_RESET while RUNNING clears the store outside the status page, the waiting list, the strip, the collision, the
latched and seen causes and the profile's remaining count, detaches the work in flight from its slip, a decode, a
KEY_SET or a load going on without it, leaves the rest of profile, tariff and code units, and every block writes its
fields of the status page as they stand; while not RUNNING it is ignored (R185, R189). Every other retained item
stands by the statement on the parts a command touches. With no byte shifted out (assumption log 9); the bytes of the
page, the slip-decoded byte among them: section 11.3 and log 18. -/
def Obligations.LinkResetClearsTheStore : Prop :=
  (∀ (both : Bool) (s : State), isRunning s = true →
    ∃ t, exec (.linkReset both) s = .next t ∧ (∀ a, 0x100 ≤ a → peek t a = 0) ∧
      t.link = Link.empty ∧ t.strip = ⟨0, 0⟩ ∧ isRunning t = true ∧
      t.profile = { s.profile with desc := s.profile.desc.map fun d => { d with remaining := 0 } } ∧
      t.tariff = { s.tariff with load := s.tariff.load.map fun l => { l with area := none, slip := none } } ∧
      t.code = { s.code with decoder := t.code.decoder } ∧
      (∀ n, ¬ decoderWorks t n ∧ ¬ loadWorks t n) ∧
      t.code.decoder = (match s.code.decoder with
        | .idle => .idle
        | .decoding .keypad chars => .decoding .keypad chars
        | .decoding (.slip n _) chars => .decoding (.slip n false) chars
        | .keying n _ locked => .keying n false locked) ∧
      peekBytes t 0x00 29 = frameBytes s.front.last ∧ peekBytes t 0x1D 33 = energyBytes s.energy ∧
      peek t 0x3E = byteOf s.energy.backlog ∧ peekBytes t 0x3F 4 = leBytes 4 s.clock.count ∧
      peekBytes t 0x43 6 = calendarBytes s.clock ∧
      peek t 0x49 = flagsByte [s.tariff.active.isSome, s.tariff.pending.isSome, s.tariff.periodIndex.isSome,
        s.tariff.chargedDay.isSome] ∧
      peek t 0x4A = blockBandByte s.tariff s.clock ∧ peekBytes t 0x4B 16 = tariffBytes s.tariff ∧
      peekBytes t 0x5B 17 = creditBytes s.credit ∧ peekBytes t 0x6C 11 = entryBytes s.code.line ∧
      peekBytes t 0x77 12 = codeBytes t.code ∧ peekBytes t 0x83 16 = supplyBytes s.supply ∧
      (∀ k : TamperKind, peekBytes t (0x93 + 11 * k.code) 11 = recordBytes (s.tamper.records.get k)) ∧
      peekBytes t 0xEB 10 = windowBytes s.tamper.windows.magnet ++ windowBytes s.tamper.windows.imbalance ++
        windowBytes s.tamper.windows.reverse ++ windowBytes s.tamper.windows.noVoltage ++
        windowBytes s.tamper.windows.bypass ∧
      peek t 0xF5 = flagsByte [decide (s.tamper.caseSettled = some .opened),
        decide (s.tamper.coverSettled = some .opened),
        decide (∃ k ∈ TamperKind.all, (s.tamper.records.get k).status ≠ .clear)] ∧
      peekBytes t 0xF6 3 = [0, 0, 0] ∧
      peekBytes t 0xF9 4 = [byteOf ((s.profile.desc.map Descriptor.nextSlot).getD 0), 0] ++
        leBytes 2 s.profile.unrecorded ∧
      peekBytes t 0xFD 3 = [0, 0, 0]) ∧
  (∀ (both : Bool) (s : State), linkUp s = true → isRunning s = false →
    ∃ t, exec (.linkReset both) s = .next t ∧ OnlyTouches [.link] s t ∧ t.link.waiting = s.link.waiting ∧
      t.link.latched = s.link.latched ∧ t.link.aconf = s.link.aconf ∧
      t.link.collision = if both = true then none else s.link.collision)

/-! ### Link port: requests -/

/-- A posted SETTINGS WRITE installs the image of its 40 bytes, each field at the nearest end of its range, all
together, clears the windows where W or K changes, has the credit unit evaluate by the record so installed, clears an
entry line idle beyond the new timeout, and reports the clamps, field f in bit f − 1; a friendly minute above 1,439 or
an offset outside the open area refuses the whole (R73, R81, R89, R148, R182 to R184). The result's bytes are read as
assumption log 17 says; a count of ticks that equals the new timeout is free (log 6). -/
def Obligations.SettingsWriteInstallsTheImage : Prop :=
  ∀ (n : Fin 16) (off : BitVec 16) (s : State), Postable s n →
    (let g := Settings.ofImage (peekBytes s off.toNat 40)
     (inOpenArea off.toNat 40 = true → g.friendlyStart ≤ 1439 → g.friendlyEnd ≤ 1439 →
       ∃ t, exec (.settingsWrite n off) s = .next t ∧ t.settings.inRange ∧
         (t.settings.creep = max 5 (min g.creep 500) ∧ t.settings.imbRatio = max 3 (min g.imbRatio 50) ∧
          t.settings.imbMin = max 50 (min g.imbMin 5000) ∧ t.settings.nominal = max 100 (min g.nominal 260) ∧
          t.settings.penalty = min g.penalty 30000 ∧ t.settings.reverse = max 5 (min g.reverse 500) ∧
          t.settings.magnet = max 1 (min g.magnet 1023) ∧ t.settings.windowW = max 1 (min g.windowW 16) ∧
          t.settings.windowK = max 1 (min g.windowK t.settings.windowW) ∧
          t.settings.lowCredit = min g.lowCredit 1000000 ∧ t.settings.friendlyDebt = min g.friendlyDebt 1000000 ∧
          t.settings.friendlyStart = g.friendlyStart ∧ t.settings.friendlyEnd = g.friendlyEnd ∧
          t.settings.weekend = g.weekend ∧ t.settings.tripDelay = max 5 (min g.tripDelay 600) ∧
          t.settings.recloseWait = max 10 (min g.recloseWait 3600) ∧
          t.settings.tripLimit = max 1 (min g.tripLimit 10) ∧
          t.settings.idleTimeout = max 5 (min g.idleTimeout 120) ∧
          t.settings.holdTime = max 1 (min g.holdTime 60)) ∧
         (g.inRange → t.settings = g ∧ SlipShows t n .ok [0]) ∧
         (¬ g.inRange →
           let c := t.settings
           let mark := fun (a b field : Nat) => if a = b then 0 else 2 ^ (field - 1)
           SlipShows t n .okClamped (0 :: leBytes 3
             (mark c.creep g.creep 1 + mark c.imbRatio g.imbRatio 2 + mark c.imbMin g.imbMin 3 +
              mark c.nominal g.nominal 4 + mark c.penalty g.penalty 5 + mark c.reverse g.reverse 6 +
              mark c.magnet g.magnet 7 + mark c.windowW g.windowW 8 + mark c.windowK g.windowK 9 +
              mark c.lowCredit g.lowCredit 10 + mark c.friendlyDebt g.friendlyDebt 11 +
              mark c.tripDelay g.tripDelay 15 + mark c.recloseWait g.recloseWait 16 +
              mark c.tripLimit g.tripLimit 17 +
              (if c.idleTimeout = g.idleTimeout ∧ c.holdTime = g.holdTime then 0 else 2 ^ 17)))) ∧
         t.credit = s.credit.evaluated t.settings s.clock ∧
         (s.credit.state ≠ .exhausted → t.credit.state = .exhausted → t.supply.causes.credit = true) ∧
         (s.credit.state = .exhausted → t.credit.state ≠ .exhausted → t.supply.causes.credit = false) ∧
         t.tamper.windows = (if t.settings.windowW = s.settings.windowW ∧ t.settings.windowK = s.settings.windowK
           then s.tamper.windows else Windows.empty) ∧
         t.tamper.records = s.tamper.records ∧
         (s.code.scanning = true → s.code.held = false →
           (t.settings.idleTimeout < s.code.idle → t.code = { s.code with line := [] }) ∧
           (s.code.idle < t.settings.idleTimeout → t.code = s.code))) ∧
     (inOpenArea off.toNat 40 = true → (1439 < g.friendlyStart ∨ 1439 < g.friendlyEnd) →
       ∃ t, exec (.settingsWrite n off) s = .next t ∧ OnlyTouches [.store, .link] s t ∧
         SlipShows t n .badArgument [if 1439 < g.friendlyStart then 12 else 13]) ∧
     (inOpenArea off.toNat 40 = false →
       ∃ t, exec (.settingsWrite n off) s = .next t ∧ OnlyTouches [.store, .link] s t ∧
         SlipShows t n .badArgument []))

/-- A posted SETTINGS FETCH writes the record as it stands into 40 bytes of the host's open area, which read back as
that record; a place outside it, or one the part owns, is refused with nothing written (R182, R183). -/
def Obligations.SettingsFetchReadsBack : Prop :=
  (∀ (n : Fin 16) (off : BitVec 16) (s : State), Postable s n →
    (inOpenArea off.toNat 40 = true → meets off.toNat 40 (profileArea s) = false →
      meets off.toNat 40 (imageArea s) = false →
      ∃ t, exec (.settingsFetch n off) s = .next t ∧ peekBytes t off.toNat 40 = s.settings.image ∧
        SlipShows t n .ok [] ∧ OnlyTouches [.store, .link] s t) ∧
    ((inOpenArea off.toNat 40 = false ∨ meets off.toNat 40 (profileArea s) = true ∨
        meets off.toNat 40 (imageArea s) = true) →
      ∃ t, exec (.settingsFetch n off) s = .next t ∧ SlipShows t n .badArgument [] ∧
        SameBytes (fun a => ¬ slipPlace n a) s t ∧ OnlyTouches [.store, .link] s t)) ∧
  (∀ g : Settings, g.inRange → Settings.ofImage g.image = g)

/-- A posted PROFILE_SETUP closes the old period, its record in the old area's next slot while the old remaining count
allows, PROFILE raised where that count reaches 0, or counted; it installs the descriptor with the next slot and the
unrecorded count at 0, and opens a period; arguments outside R196's limits are refused (R196, R197, R199). The
result's bytes: assumption log 17. -/
def Obligations.ProfileSetupInstallsTheDescriptor : Prop :=
  ∀ (n : Fin 16) (off : BitVec 16) (capacity d remaining : Byte) (s : State), Postable s n →
    (let bad := capacity.toNat < 1 ∨ 128 < capacity.toNat ∨ off.toNat < 0x800 ∨
        0x1000 < off.toNat + 16 * capacity.toNat ∨ meets off.toNat (16 * capacity.toNat) (imageArea s) = true ∨
        d.toNat + 1 ∉ [1, 2, 3, 4, 5, 6, 10, 12, 15, 20, 30, 60]
     let left := (s.profile.desc.map Descriptor.remaining).getD 0
     let unrecorded := if s.profile.period.isSome = true ∧ s.profile.desc.isSome = true ∧ left = 0
       then min (s.profile.unrecorded + 1) 65535 else s.profile.unrecorded
     let closed : Byte := if s.profile.period.isSome = true ∧ s.profile.desc.isSome = true
       then (if 0 < left then 1 else 2) else 0
     (¬ bad →
       ∃ t p, exec (.profileSetup n off capacity d remaining) s = .next t ∧
         t.profile.desc = some ⟨off.toNat, capacity.toNat, d.toNat, remaining.toNat, 0⟩ ∧
         t.profile.unrecorded = 0 ∧ t.profile.saved = s.profile.saved ∧ t.profile.period = some p ∧
         p.wh = 0 ∧ p.minV = none ∧ p.maxV = none ∧ p.step = false ∧ p.minutes = 0 ∧
         (p.clockInvalid = true ↔ s.clock.valid = false) ∧
         (p.supplyOpen = true ↔ s.supply.machine ≠ .closed) ∧
         (p.tamper = true ↔ ∃ k, (s.tamper.records.get k).status = .active) ∧
         (s.clock.valid = true → p.slot = some (s.clock.count / (60 * (d.toNat + 1)))) ∧
         (∀ old o, layoutWell s → s.profile.desc = some old → s.profile.period = some o → 0 < old.remaining →
           peekBytes t (old.offset + 16 * old.nextSlot) 16 =
             leBytes 4 s.clock.count ++ leBytes 2 o.wh ++ leBytes 2 (o.minV.getD 0) ++ leBytes 2 (o.maxV.getD 0) ++
             [flagsByte [o.tamper, o.supplyOpen, o.clockInvalid, o.step, false], 0, 0, 0, 0, 0] ∧
           (∀ a, 0x800 ≤ a → a < old.offset + 16 * old.nextSlot ∨ old.offset + 16 * old.nextSlot + 16 ≤ a →
             peek t a = peek s a) ∧
           (old.remaining = 1 → t.link.latched.getLsbD 8 = true)) ∧
         (layoutWell s → s.profile.desc = none ∨ s.profile.period = none ∨ left = 0 →
           ∀ a, 0x800 ≤ a → peek t a = peek s a) ∧
         SlipShows t n .ok (closed :: leBytes 2 unrecorded)) ∧
     (bad →
       ∃ t, exec (.profileSetup n off capacity d remaining) s = .next t ∧ SlipShows t n .badArgument [] ∧
         OnlyTouches [.store, .link] s t))

/-- A posted CAPTURE completes at that event with the captured items, and a slip whose kind names none with BAD_KIND;
neither changes any state outside its slip (R181, R201). The result's bytes: assumption log 17. -/
def Obligations.CaptureAndUnknownKindsComplete : Prop :=
  (∀ (n : Fin 16) (s : State), Postable s n →
    ∃ t, exec (.capture n) s = .next t ∧
      SlipShows t n .ok (leBytes 4 s.clock.count ++ [if s.clock.valid = true then 1 else 0] ++
        leBytes 4 s.energy.billed.wh ++ leBytes 3 s.energy.billed.rem ++ leInt 4 s.credit.balance ++
        leBytes 2 s.credit.debitRem ++ [byteOf s.credit.state.code, byteOf s.credit.emergency.code] ++
        leBytes 4 s.tariff.periodEnergy ++ [byteOf s.supply.machine.code, s.supply.causes.byte] ++
        TamperKind.all.map fun k => byteOf (s.tamper.records.get k).status.code) ∧
      t.link.waiting = s.link.waiting ∧ SameBytes (fun a => ¬ slipPlace n a) s t ∧
      OnlyTouches [.store, .link] s t) ∧
  (∀ (n : Fin 16) (kind : Byte) (s : State), Postable s n → kind.toNat = 0 ∨ 8 < kind.toNat →
    ∃ t, exec (.slipKindUnknown n kind) s = .next t ∧ SlipShows t n .badKind [] ∧
      t.link.waiting = s.link.waiting ∧ SameBytes (fun a => ¬ slipPlace n a) s t ∧
      OnlyTouches [.store, .link] s t)
end

