-- ==== Sys2Proof/Laws/Choice.lean ====
section
/-! SUPPORT. What a free choice can give: one of the results it is made of, up to the count of choices; and the orders of
a list are its permutations. A proof about works taken in any order cites these and unfolds nothing. -/

namespace Sys2Proof.Machine

/-- A free choice among some results has what every result has, for a property that does not look at the count of
choices. -/
theorem freePick_of_ne {P : State → Prop} (count : ∀ t n, P t → P (t.withFreeCount n)) {results : List State} {s : State}
    (some_result : results ≠ []) (each : ∀ r ∈ results, P r) : P (freePick results s) := by
  cases results with
  | nil => exact absurd rfl some_result
  | cons r rs =>
    unfold freePick
    dsimp only
    split
    · exact each r (by simp)
    · apply count
      rw [List.getD_eq_getElem?_getD]
      cases h : (r :: rs)[Config.freeOrder s.freeCount % (rs.length + 1)]? with
      | none => exact each r (by simp)
      | some x => exact each x (List.mem_of_getElem? h)

/-- The same with no result, where the state itself stands. -/
theorem freePick_of {P : State → Prop} (count : ∀ t n, P t → P (t.withFreeCount n)) {results : List State} {s : State}
    (base : P s) (each : ∀ r ∈ results, P r) : P (freePick results s) := by
  cases results with
  | nil => exact base
  | cons r rs => exact freePick_of_ne count (by simp) each

/-- A free choice between one result is that result. -/
@[simp] theorem freePick_singleton (r s : State) : freePick [r] s = r := by simp [freePick]

theorem mem_insertions_perm {α : Type} {x : α} {l o : List α} (h : o ∈ insertions x l) : o.Perm (x :: l) := by
  induction l generalizing o with
  | nil => simp [insertions] at h; simp [h]
  | cons y ys ih =>
    simp only [insertions, List.mem_cons, List.mem_map] at h
    rcases h with rfl | ⟨p, hp, rfl⟩
    · exact List.Perm.refl _
    · exact ((ih hp).cons y).trans (List.Perm.swap x y ys)

/-- An order of a list is a permutation of it. -/
theorem mem_orders_perm {α : Type} {l o : List α} (h : o ∈ orders l) : o.Perm l := by
  induction l generalizing o with
  | nil => simp [orders] at h; simp [h]
  | cons x xs ih =>
    simp only [orders, List.mem_flatMap] at h
    obtain ⟨p, hp, ho⟩ := h
    exact (mem_insertions_perm ho).trans ((ih hp).cons x)

theorem self_mem_orders {α : Type} (l : List α) : l ∈ orders l := by
  induction l with
  | nil => simp [orders]
  | cons x xs ih =>
    simp only [orders, List.mem_flatMap]
    exact ⟨xs, ih, by cases xs <;> simp [insertions]⟩

/-- Works that each keep a property keep it one after another. -/
theorem runAll_of {P : State → Prop} {works : List (State → State)} (each : ∀ w ∈ works, ∀ s, P s → P (w s)) {s : State}
    (base : P s) : P (runAll works s) := by
  unfold runAll
  induction works generalizing s with
  | nil => exact base
  | cons w ws ih =>
    exact ih (fun v hv => each v (List.mem_cons_of_mem _ hv)) (each w (by simp) s base)

/-- Works that each keep a property keep it in any order. -/
theorem inAnyOrder_of {P : State → Prop} (count : ∀ t n, P t → P (t.withFreeCount n)) {works : List (State → State)}
    (each : ∀ w ∈ works, ∀ s, P s → P (w s)) {s : State} (base : P s) : P (inAnyOrder works s) := by
  apply freePick_of count base
  intro r hr
  simp only [List.mem_map] at hr
  obtain ⟨o, ho, rfl⟩ := hr
  exact runAll_of (fun w hw => each w ((mem_orders_perm ho).mem_iff.mp hw)) base

/-- A work among others establishes `Q`, where the works before it keep `P` and the works after it keep `Q`. -/
theorem runAll_establishes {P Q : State → Prop} {works : List (State → State)} {w : State → State} (hw : w ∈ works)
    (keep : ∀ v ∈ works, ∀ s, P s → P (v s)) (work : ∀ s, P s → Q (w s)) (stay : ∀ v ∈ works, ∀ s, Q s → Q (v s))
    {s : State} (base : P s) : Q (runAll works s) := by
  obtain ⟨before, later, rfl⟩ := List.append_of_mem hw
  have h : runAll (before ++ w :: later) s = runAll later (w (runAll before s)) := by simp [runAll]
  rw [h]
  exact runAll_of (fun v hv => stay v (by simp [hv]))
    (work _ (runAll_of (fun v hv => keep v (by simp [hv])) base))

/-- The same in any order. -/
theorem inAnyOrder_establishes {P Q : State → Prop} (count : ∀ t n, Q t → Q (t.withFreeCount n))
    {works : List (State → State)} {w : State → State} (hw : w ∈ works)
    (keep : ∀ v ∈ works, ∀ s, P s → P (v s)) (work : ∀ s, P s → Q (w s)) (stay : ∀ v ∈ works, ∀ s, Q s → Q (v s))
    {s : State} (base : P s) : Q (inAnyOrder works s) := by
  unfold inAnyOrder
  have each : ∀ r ∈ (orders works).map fun o => runAll o s, Q r := by
    intro r hr
    simp only [List.mem_map] at hr
    obtain ⟨o, ho, rfl⟩ := hr
    have m := (mem_orders_perm ho).mem_iff (a := w)
    exact runAll_establishes (m.mpr hw) (fun v hv => keep v ((mem_orders_perm ho).mem_iff.mp hv)) work
      (fun v hv => stay v ((mem_orders_perm ho).mem_iff.mp hv)) base
  exact freePick_of_ne count (fun h => by
    have m : works ∈ orders works := self_mem_orders works
    simp only [List.map_eq_nil_iff] at h
    rw [h] at m
    cases m) each

end Sys2Proof.Machine
end

