-- ==== Sys2Proof/Laws/Memory.lean ====
section
/-! SUPPORT. The laws of the common store's cells: a read after a write, and the canonical form kept by every memory
operation. -/

namespace Sys2Proof.Machine

theorem readCell_eraseCell_same (m : List Host.Cell) (a : Nat) : readCell (eraseCell m a) a = 0 := by
  induction m with
  | nil => rfl
  | cons c t ih =>
    obtain ⟨k, v⟩ := c
    by_cases h : k = a <;> simp [eraseCell, readCell, h, ih]

theorem readCell_eraseCell_other (m : List Host.Cell) {a b : Nat} (h : a ≠ b) :
    readCell (eraseCell m a) b = readCell m b := by
  induction m with
  | nil => rfl
  | cons c t ih =>
    obtain ⟨k, v⟩ := c
    by_cases hk : k = a
    · subst hk; simp [eraseCell, readCell, ih, h]
    · simp [eraseCell, readCell, hk, ih]

theorem readCell_insertCell_same (m : List Host.Cell) (a : Nat) (v : Byte)
    (ha : ∀ c ∈ m, c.1 ≠ a) : readCell (insertCell m a v) a = v := by
  induction m with
  | nil => simp [insertCell, readCell]
  | cons c t ih =>
    obtain ⟨k, w⟩ := c
    have hk : k ≠ a := ha (k, w) (by simp)
    by_cases hl : a < k
    · simp [insertCell, readCell, hl]
    · simp only [insertCell, hl, if_false, readCell, hk]
      exact ih fun c hc => ha c (by simp [hc])

theorem readCell_insertCell_other (m : List Host.Cell) {a b : Nat} (v : Byte) (h : a ≠ b) :
    readCell (insertCell m a v) b = readCell m b := by
  induction m with
  | nil => simp [insertCell, readCell, h]
  | cons c t ih =>
    obtain ⟨k, w⟩ := c
    by_cases hl : a < k
    · simp [insertCell, readCell, hl, h]
    · simp [insertCell, readCell, hl, ih]

theorem not_mem_eraseCell (m : List Host.Cell) (a : Nat) : ∀ c ∈ eraseCell m a, c.1 ≠ a := by
  induction m with
  | nil => simp [eraseCell]
  | cons c t ih =>
    obtain ⟨k, v⟩ := c
    by_cases h : k = a
    · simpa [eraseCell, h] using ih
    · simp only [eraseCell, h, if_false, List.mem_cons]
      rintro c (rfl | hc)
      · exact h
      · exact ih c hc

/-- A read after a write to the same place gives the value written. -/
@[simp] theorem readCell_writeCell_same (m : List Host.Cell) (a : Nat) (b : Byte) :
    readCell (writeCell m a b) a = b := by
  unfold writeCell
  split
  · rename_i h; rw [readCell_eraseCell_same, h]
  · exact readCell_insertCell_same _ _ _ (not_mem_eraseCell m a)

/-- A write leaves every other place as it reads. -/
theorem readCell_writeCell_other (m : List Host.Cell) {a b : Nat} (v : Byte) (h : a ≠ b) :
    readCell (writeCell m a v) b = readCell m b := by
  unfold writeCell
  split
  · exact readCell_eraseCell_other m h
  · rw [readCell_insertCell_other _ v h, readCell_eraseCell_other m h]

/-- Reading after one byte is written, in one line. -/
theorem readCell_writeCell (m : List Host.Cell) (a b : Nat) (v : Byte) :
    readCell (writeCell m a v) b = if a = b then v else readCell m b := by
  split
  · rename_i h; subst h; simp
  · rename_i h; exact readCell_writeCell_other m v h

/-- Bytes written from `a` upward leave every place outside them as it reads. -/
theorem readCell_writeCells_outside (bs : List Byte) (m : List Host.Cell) (a b : Nat)
    (h : b < a ∨ a + bs.length ≤ b) : readCell (writeCells m a bs) b = readCell m b := by
  induction bs generalizing m a with
  | nil => rfl
  | cons c cs ih =>
    simp only [List.length_cons] at h
    rw [writeCells, ih _ _ (by omega), readCell_writeCell_other _ _ (by omega)]

/-- The `i`-th of the bytes written reads back. -/
theorem readCell_writeCells_inside (bs : List Byte) (m : List Host.Cell) (a i : Nat) (h : i < bs.length) :
    readCell (writeCells m a bs) (a + i) = bs[i] := by
  induction bs generalizing m a i with
  | nil => simp at h
  | cons c cs ih =>
    cases i with
    | zero =>
      rw [writeCells, Nat.add_zero, readCell_writeCells_outside _ _ _ _ (by omega)]
      simp
    | succ i =>
      have := ih (writeCell m a c) (a + 1) i (by simpa using h)
      rw [writeCells, show a + (i + 1) = a + 1 + i by omega, this]
      rfl

/-- The bytes written read back. -/
theorem readCells_writeCells (bs : List Byte) (m : List Host.Cell) (a : Nat) :
    readCells (writeCells m a bs) a bs.length = bs := by
  induction bs generalizing m a with
  | nil => rfl
  | cons c cs ih =>
    have h : readCell (writeCells m a (c :: cs)) a = c := by
      have := readCell_writeCells_inside (c :: cs) m a 0 (by simp)
      simpa using this
    simp only [List.length_cons, readCells, h, List.cons.injEq, true_and]
    rw [writeCells]
    exact ih _ _

/-- Reading `n` bytes that a write does not reach. -/
theorem readCells_congr (m m' : List Host.Cell) (a n : Nat)
    (h : ∀ b, a ≤ b → b < a + n → readCell m' b = readCell m b) : readCells m' a n = readCells m a n := by
  induction n generalizing a with
  | zero => rfl
  | succ n ih =>
    simp only [readCells]
    rw [h a (by omega) (by omega), ih (a + 1) fun b h1 h2 => h b (by omega) (by omega)]

/-! ### The canonical form -/

/-- The canonical form, said once over the whole list: addresses strictly rising and no entry 0. -/
def Sorted (m : List Host.Cell) : Prop := m.Pairwise (fun x y => x.1 < y.1) ∧ ∀ c ∈ m, c.2 ≠ 0

theorem wf_iff_sorted (m : List Host.Cell) : Memory.wf m = true ↔ Sorted m := by
  unfold Sorted
  induction m with
  | nil => simp [Memory.wf]
  | cons c t ih =>
    obtain ⟨k, v⟩ := c
    cases t with
    | nil => simp [Memory.wf]
    | cons d t =>
      obtain ⟨k', v'⟩ := d
      simp only [Memory.wf, Bool.and_eq_true, decide_eq_true_eq] at ih ⊢
      constructor
      · rintro ⟨⟨hv, hk⟩, hw⟩
        obtain ⟨hp, hz⟩ := ih.mp hw
        refine ⟨List.pairwise_cons.mpr ⟨?_, hp⟩, ?_⟩
        · rintro x hx
          rcases List.mem_cons.mp hx with rfl | hx'
          · exact hk
          · exact lt_trans hk ((List.pairwise_cons.mp hp).1 x hx')
        · rintro x hx
          rcases List.mem_cons.mp hx with rfl | hx'
          · exact hv
          · exact hz x hx'
      · rintro ⟨hp, hz⟩
        obtain ⟨h1, h2⟩ := List.pairwise_cons.mp hp
        exact ⟨⟨hz (k, v) (by simp), h1 (k', v') (by simp)⟩, ih.mpr ⟨h2, fun x hx => hz x (by simp [hx])⟩⟩

theorem eraseCell_eq_filter (m : List Host.Cell) (a : Nat) :
    eraseCell m a = m.filter fun c => decide (c.1 ≠ a) := by
  induction m with
  | nil => rfl
  | cons c t ih =>
    obtain ⟨k, v⟩ := c
    by_cases h : k = a <;> simp [eraseCell, h, ih]

theorem sorted_eraseCell {m : List Host.Cell} (h : Sorted m) (a : Nat) : Sorted (eraseCell m a) := by
  rw [eraseCell_eq_filter]
  exact ⟨h.1.filter _, fun c hc => h.2 c (List.mem_of_mem_filter hc)⟩

theorem mem_insertCell {m : List Host.Cell} {a : Nat} {b : Byte} {c : Host.Cell} :
    c ∈ insertCell m a b ↔ c = (a, b) ∨ c ∈ m := by
  induction m with
  | nil => simp [insertCell]
  | cons d t ih =>
    obtain ⟨k, v⟩ := d
    by_cases h : a < k
    · simp [insertCell, h]
    · simp only [insertCell, h, if_false, List.mem_cons, ih]
      constructor
      · rintro (h1 | h1 | h1) <;> simp [h1]
      · rintro (h1 | h1 | h1) <;> simp [h1]

theorem sorted_insertCell {m : List Host.Cell} (h : Sorted m) {a : Nat} {b : Byte} (hb : b ≠ 0)
    (ha : ∀ c ∈ m, c.1 ≠ a) : Sorted (insertCell m a b) := by
  refine ⟨?_, fun c hc => ?_⟩
  · induction m with
    | nil => simp [insertCell]
    | cons d t ih =>
      obtain ⟨k, v⟩ := d
      obtain ⟨h1, h2⟩ := List.pairwise_cons.mp h.1
      have hk : k ≠ a := ha (k, v) (by simp)
      by_cases hl : a < k
      · simp only [insertCell, hl, if_true]
        refine List.pairwise_cons.mpr ⟨?_, h.1⟩
        rintro x hx
        rcases List.mem_cons.mp hx with rfl | hx'
        · exact hl
        · exact lt_trans hl (h1 x hx')
      · simp only [insertCell, hl, if_false]
        refine List.pairwise_cons.mpr ⟨?_, ih ⟨h2, fun c hc => h.2 c (by simp [hc])⟩
          (fun c hc => ha c (by simp [hc]))⟩
        rintro x hx
        rcases mem_insertCell.mp hx with rfl | hx'
        · show k < a; omega
        · exact h1 x hx'
  · rcases mem_insertCell.mp hc with rfl | hc'
    · exact hb
    · exact h.2 c hc'

/-- A write keeps the canonical form. -/
theorem wf_writeCell {m : List Host.Cell} (h : Memory.wf m = true) (a : Nat) (b : Byte) :
    Memory.wf (writeCell m a b) = true := by
  rw [wf_iff_sorted] at h ⊢
  unfold writeCell
  split
  · exact sorted_eraseCell h a
  · rename_i hb
    exact sorted_insertCell (sorted_eraseCell h a) hb (not_mem_eraseCell m a)

/-- A write of several bytes keeps the canonical form. -/
theorem wf_writeCells {m : List Host.Cell} (h : Memory.wf m = true) (a : Nat) (bs : List Byte) :
    Memory.wf (writeCells m a bs) = true := by
  induction bs generalizing m a with
  | nil => exact h
  | cons c cs ih => exact ih (wf_writeCell h a c) (a + 1)

/-- The cleared store is in canonical form. -/
theorem wf_nil : Memory.wf [] = true := rfl

end Sys2Proof.Machine
end

