-- ==== Sys2Proof/Laws/State.lean ====
section
/-! SUPPORT. One lemma per field per named update of State: a field reads as it was, or as it was set. -/

namespace Sys2Proof.Machine

variable (s : State)

section
variable (x : List Host.Cell)
@[simp] theorem State.withStore_store : (s.withStore x).store = x := rfl
@[simp] theorem State.withStore_front : (s.withStore x).front = s.front := rfl
@[simp] theorem State.withStore_conv : (s.withStore x).conv = s.conv := rfl
@[simp] theorem State.withStore_energy : (s.withStore x).energy = s.energy := rfl
@[simp] theorem State.withStore_clock : (s.withStore x).clock = s.clock := rfl
@[simp] theorem State.withStore_tariff : (s.withStore x).tariff = s.tariff := rfl
@[simp] theorem State.withStore_credit : (s.withStore x).credit = s.credit := rfl
@[simp] theorem State.withStore_code : (s.withStore x).code = s.code := rfl
@[simp] theorem State.withStore_supply : (s.withStore x).supply = s.supply := rfl
@[simp] theorem State.withStore_tamper : (s.withStore x).tamper = s.tamper := rfl
@[simp] theorem State.withStore_link : (s.withStore x).link = s.link := rfl
@[simp] theorem State.withStore_strip : (s.withStore x).strip = s.strip := rfl
@[simp] theorem State.withStore_profile : (s.withStore x).profile = s.profile := rfl
@[simp] theorem State.withStore_power : (s.withStore x).power = s.power := rfl
@[simp] theorem State.withStore_settings : (s.withStore x).settings = s.settings := rfl
@[simp] theorem State.withStore_pins : (s.withStore x).pins = s.pins := rfl
@[simp] theorem State.withStore_freeCount : (s.withStore x).freeCount = s.freeCount := rfl
@[simp] theorem State.withStore_pending : (s.withStore x).pending = s.pending := rfl
@[simp] theorem State.withStore_withStore (y : List Host.Cell) : (s.withStore x).withStore y = s.withStore y := rfl
@[simp] theorem State.withStore_same : s.withStore s.store = s := rfl
end

section
variable (x : FrontEnd)
@[simp] theorem State.withFront_store : (s.withFront x).store = s.store := rfl
@[simp] theorem State.withFront_front : (s.withFront x).front = x := rfl
@[simp] theorem State.withFront_conv : (s.withFront x).conv = s.conv := rfl
@[simp] theorem State.withFront_energy : (s.withFront x).energy = s.energy := rfl
@[simp] theorem State.withFront_clock : (s.withFront x).clock = s.clock := rfl
@[simp] theorem State.withFront_tariff : (s.withFront x).tariff = s.tariff := rfl
@[simp] theorem State.withFront_credit : (s.withFront x).credit = s.credit := rfl
@[simp] theorem State.withFront_code : (s.withFront x).code = s.code := rfl
@[simp] theorem State.withFront_supply : (s.withFront x).supply = s.supply := rfl
@[simp] theorem State.withFront_tamper : (s.withFront x).tamper = s.tamper := rfl
@[simp] theorem State.withFront_link : (s.withFront x).link = s.link := rfl
@[simp] theorem State.withFront_strip : (s.withFront x).strip = s.strip := rfl
@[simp] theorem State.withFront_profile : (s.withFront x).profile = s.profile := rfl
@[simp] theorem State.withFront_power : (s.withFront x).power = s.power := rfl
@[simp] theorem State.withFront_settings : (s.withFront x).settings = s.settings := rfl
@[simp] theorem State.withFront_pins : (s.withFront x).pins = s.pins := rfl
@[simp] theorem State.withFront_freeCount : (s.withFront x).freeCount = s.freeCount := rfl
@[simp] theorem State.withFront_pending : (s.withFront x).pending = s.pending := rfl
@[simp] theorem State.withFront_withFront (y : FrontEnd) : (s.withFront x).withFront y = s.withFront y := rfl
@[simp] theorem State.withFront_same : s.withFront s.front = s := rfl
end

section
variable (x : Converter)
@[simp] theorem State.withConv_store : (s.withConv x).store = s.store := rfl
@[simp] theorem State.withConv_front : (s.withConv x).front = s.front := rfl
@[simp] theorem State.withConv_conv : (s.withConv x).conv = x := rfl
@[simp] theorem State.withConv_energy : (s.withConv x).energy = s.energy := rfl
@[simp] theorem State.withConv_clock : (s.withConv x).clock = s.clock := rfl
@[simp] theorem State.withConv_tariff : (s.withConv x).tariff = s.tariff := rfl
@[simp] theorem State.withConv_credit : (s.withConv x).credit = s.credit := rfl
@[simp] theorem State.withConv_code : (s.withConv x).code = s.code := rfl
@[simp] theorem State.withConv_supply : (s.withConv x).supply = s.supply := rfl
@[simp] theorem State.withConv_tamper : (s.withConv x).tamper = s.tamper := rfl
@[simp] theorem State.withConv_link : (s.withConv x).link = s.link := rfl
@[simp] theorem State.withConv_strip : (s.withConv x).strip = s.strip := rfl
@[simp] theorem State.withConv_profile : (s.withConv x).profile = s.profile := rfl
@[simp] theorem State.withConv_power : (s.withConv x).power = s.power := rfl
@[simp] theorem State.withConv_settings : (s.withConv x).settings = s.settings := rfl
@[simp] theorem State.withConv_pins : (s.withConv x).pins = s.pins := rfl
@[simp] theorem State.withConv_freeCount : (s.withConv x).freeCount = s.freeCount := rfl
@[simp] theorem State.withConv_pending : (s.withConv x).pending = s.pending := rfl
@[simp] theorem State.withConv_withConv (y : Converter) : (s.withConv x).withConv y = s.withConv y := rfl
@[simp] theorem State.withConv_same : s.withConv s.conv = s := rfl
end

section
variable (x : Energy)
@[simp] theorem State.withEnergy_store : (s.withEnergy x).store = s.store := rfl
@[simp] theorem State.withEnergy_front : (s.withEnergy x).front = s.front := rfl
@[simp] theorem State.withEnergy_conv : (s.withEnergy x).conv = s.conv := rfl
@[simp] theorem State.withEnergy_energy : (s.withEnergy x).energy = x := rfl
@[simp] theorem State.withEnergy_clock : (s.withEnergy x).clock = s.clock := rfl
@[simp] theorem State.withEnergy_tariff : (s.withEnergy x).tariff = s.tariff := rfl
@[simp] theorem State.withEnergy_credit : (s.withEnergy x).credit = s.credit := rfl
@[simp] theorem State.withEnergy_code : (s.withEnergy x).code = s.code := rfl
@[simp] theorem State.withEnergy_supply : (s.withEnergy x).supply = s.supply := rfl
@[simp] theorem State.withEnergy_tamper : (s.withEnergy x).tamper = s.tamper := rfl
@[simp] theorem State.withEnergy_link : (s.withEnergy x).link = s.link := rfl
@[simp] theorem State.withEnergy_strip : (s.withEnergy x).strip = s.strip := rfl
@[simp] theorem State.withEnergy_profile : (s.withEnergy x).profile = s.profile := rfl
@[simp] theorem State.withEnergy_power : (s.withEnergy x).power = s.power := rfl
@[simp] theorem State.withEnergy_settings : (s.withEnergy x).settings = s.settings := rfl
@[simp] theorem State.withEnergy_pins : (s.withEnergy x).pins = s.pins := rfl
@[simp] theorem State.withEnergy_freeCount : (s.withEnergy x).freeCount = s.freeCount := rfl
@[simp] theorem State.withEnergy_pending : (s.withEnergy x).pending = s.pending := rfl
@[simp] theorem State.withEnergy_withEnergy (y : Energy) : (s.withEnergy x).withEnergy y = s.withEnergy y := rfl
@[simp] theorem State.withEnergy_same : s.withEnergy s.energy = s := rfl
end

section
variable (x : Clock)
@[simp] theorem State.withClock_store : (s.withClock x).store = s.store := rfl
@[simp] theorem State.withClock_front : (s.withClock x).front = s.front := rfl
@[simp] theorem State.withClock_conv : (s.withClock x).conv = s.conv := rfl
@[simp] theorem State.withClock_energy : (s.withClock x).energy = s.energy := rfl
@[simp] theorem State.withClock_clock : (s.withClock x).clock = x := rfl
@[simp] theorem State.withClock_tariff : (s.withClock x).tariff = s.tariff := rfl
@[simp] theorem State.withClock_credit : (s.withClock x).credit = s.credit := rfl
@[simp] theorem State.withClock_code : (s.withClock x).code = s.code := rfl
@[simp] theorem State.withClock_supply : (s.withClock x).supply = s.supply := rfl
@[simp] theorem State.withClock_tamper : (s.withClock x).tamper = s.tamper := rfl
@[simp] theorem State.withClock_link : (s.withClock x).link = s.link := rfl
@[simp] theorem State.withClock_strip : (s.withClock x).strip = s.strip := rfl
@[simp] theorem State.withClock_profile : (s.withClock x).profile = s.profile := rfl
@[simp] theorem State.withClock_power : (s.withClock x).power = s.power := rfl
@[simp] theorem State.withClock_settings : (s.withClock x).settings = s.settings := rfl
@[simp] theorem State.withClock_pins : (s.withClock x).pins = s.pins := rfl
@[simp] theorem State.withClock_freeCount : (s.withClock x).freeCount = s.freeCount := rfl
@[simp] theorem State.withClock_pending : (s.withClock x).pending = s.pending := rfl
@[simp] theorem State.withClock_withClock (y : Clock) : (s.withClock x).withClock y = s.withClock y := rfl
@[simp] theorem State.withClock_same : s.withClock s.clock = s := rfl
end

section
variable (x : TariffUnit)
@[simp] theorem State.withTariff_store : (s.withTariff x).store = s.store := rfl
@[simp] theorem State.withTariff_front : (s.withTariff x).front = s.front := rfl
@[simp] theorem State.withTariff_conv : (s.withTariff x).conv = s.conv := rfl
@[simp] theorem State.withTariff_energy : (s.withTariff x).energy = s.energy := rfl
@[simp] theorem State.withTariff_clock : (s.withTariff x).clock = s.clock := rfl
@[simp] theorem State.withTariff_tariff : (s.withTariff x).tariff = x := rfl
@[simp] theorem State.withTariff_credit : (s.withTariff x).credit = s.credit := rfl
@[simp] theorem State.withTariff_code : (s.withTariff x).code = s.code := rfl
@[simp] theorem State.withTariff_supply : (s.withTariff x).supply = s.supply := rfl
@[simp] theorem State.withTariff_tamper : (s.withTariff x).tamper = s.tamper := rfl
@[simp] theorem State.withTariff_link : (s.withTariff x).link = s.link := rfl
@[simp] theorem State.withTariff_strip : (s.withTariff x).strip = s.strip := rfl
@[simp] theorem State.withTariff_profile : (s.withTariff x).profile = s.profile := rfl
@[simp] theorem State.withTariff_power : (s.withTariff x).power = s.power := rfl
@[simp] theorem State.withTariff_settings : (s.withTariff x).settings = s.settings := rfl
@[simp] theorem State.withTariff_pins : (s.withTariff x).pins = s.pins := rfl
@[simp] theorem State.withTariff_freeCount : (s.withTariff x).freeCount = s.freeCount := rfl
@[simp] theorem State.withTariff_pending : (s.withTariff x).pending = s.pending := rfl
@[simp] theorem State.withTariff_withTariff (y : TariffUnit) : (s.withTariff x).withTariff y = s.withTariff y := rfl
@[simp] theorem State.withTariff_same : s.withTariff s.tariff = s := rfl
end

section
variable (x : Credit)
@[simp] theorem State.withCredit_store : (s.withCredit x).store = s.store := rfl
@[simp] theorem State.withCredit_front : (s.withCredit x).front = s.front := rfl
@[simp] theorem State.withCredit_conv : (s.withCredit x).conv = s.conv := rfl
@[simp] theorem State.withCredit_energy : (s.withCredit x).energy = s.energy := rfl
@[simp] theorem State.withCredit_clock : (s.withCredit x).clock = s.clock := rfl
@[simp] theorem State.withCredit_tariff : (s.withCredit x).tariff = s.tariff := rfl
@[simp] theorem State.withCredit_credit : (s.withCredit x).credit = x := rfl
@[simp] theorem State.withCredit_code : (s.withCredit x).code = s.code := rfl
@[simp] theorem State.withCredit_supply : (s.withCredit x).supply = s.supply := rfl
@[simp] theorem State.withCredit_tamper : (s.withCredit x).tamper = s.tamper := rfl
@[simp] theorem State.withCredit_link : (s.withCredit x).link = s.link := rfl
@[simp] theorem State.withCredit_strip : (s.withCredit x).strip = s.strip := rfl
@[simp] theorem State.withCredit_profile : (s.withCredit x).profile = s.profile := rfl
@[simp] theorem State.withCredit_power : (s.withCredit x).power = s.power := rfl
@[simp] theorem State.withCredit_settings : (s.withCredit x).settings = s.settings := rfl
@[simp] theorem State.withCredit_pins : (s.withCredit x).pins = s.pins := rfl
@[simp] theorem State.withCredit_freeCount : (s.withCredit x).freeCount = s.freeCount := rfl
@[simp] theorem State.withCredit_pending : (s.withCredit x).pending = s.pending := rfl
@[simp] theorem State.withCredit_withCredit (y : Credit) : (s.withCredit x).withCredit y = s.withCredit y := rfl
@[simp] theorem State.withCredit_same : s.withCredit s.credit = s := rfl
end

section
variable (x : CodeUnit)
@[simp] theorem State.withCode_store : (s.withCode x).store = s.store := rfl
@[simp] theorem State.withCode_front : (s.withCode x).front = s.front := rfl
@[simp] theorem State.withCode_conv : (s.withCode x).conv = s.conv := rfl
@[simp] theorem State.withCode_energy : (s.withCode x).energy = s.energy := rfl
@[simp] theorem State.withCode_clock : (s.withCode x).clock = s.clock := rfl
@[simp] theorem State.withCode_tariff : (s.withCode x).tariff = s.tariff := rfl
@[simp] theorem State.withCode_credit : (s.withCode x).credit = s.credit := rfl
@[simp] theorem State.withCode_code : (s.withCode x).code = x := rfl
@[simp] theorem State.withCode_supply : (s.withCode x).supply = s.supply := rfl
@[simp] theorem State.withCode_tamper : (s.withCode x).tamper = s.tamper := rfl
@[simp] theorem State.withCode_link : (s.withCode x).link = s.link := rfl
@[simp] theorem State.withCode_strip : (s.withCode x).strip = s.strip := rfl
@[simp] theorem State.withCode_profile : (s.withCode x).profile = s.profile := rfl
@[simp] theorem State.withCode_power : (s.withCode x).power = s.power := rfl
@[simp] theorem State.withCode_settings : (s.withCode x).settings = s.settings := rfl
@[simp] theorem State.withCode_pins : (s.withCode x).pins = s.pins := rfl
@[simp] theorem State.withCode_freeCount : (s.withCode x).freeCount = s.freeCount := rfl
@[simp] theorem State.withCode_pending : (s.withCode x).pending = s.pending := rfl
@[simp] theorem State.withCode_withCode (y : CodeUnit) : (s.withCode x).withCode y = s.withCode y := rfl
@[simp] theorem State.withCode_same : s.withCode s.code = s := rfl
end

section
variable (x : Supply)
@[simp] theorem State.withSupply_store : (s.withSupply x).store = s.store := rfl
@[simp] theorem State.withSupply_front : (s.withSupply x).front = s.front := rfl
@[simp] theorem State.withSupply_conv : (s.withSupply x).conv = s.conv := rfl
@[simp] theorem State.withSupply_energy : (s.withSupply x).energy = s.energy := rfl
@[simp] theorem State.withSupply_clock : (s.withSupply x).clock = s.clock := rfl
@[simp] theorem State.withSupply_tariff : (s.withSupply x).tariff = s.tariff := rfl
@[simp] theorem State.withSupply_credit : (s.withSupply x).credit = s.credit := rfl
@[simp] theorem State.withSupply_code : (s.withSupply x).code = s.code := rfl
@[simp] theorem State.withSupply_supply : (s.withSupply x).supply = x := rfl
@[simp] theorem State.withSupply_tamper : (s.withSupply x).tamper = s.tamper := rfl
@[simp] theorem State.withSupply_link : (s.withSupply x).link = s.link := rfl
@[simp] theorem State.withSupply_strip : (s.withSupply x).strip = s.strip := rfl
@[simp] theorem State.withSupply_profile : (s.withSupply x).profile = s.profile := rfl
@[simp] theorem State.withSupply_power : (s.withSupply x).power = s.power := rfl
@[simp] theorem State.withSupply_settings : (s.withSupply x).settings = s.settings := rfl
@[simp] theorem State.withSupply_pins : (s.withSupply x).pins = s.pins := rfl
@[simp] theorem State.withSupply_freeCount : (s.withSupply x).freeCount = s.freeCount := rfl
@[simp] theorem State.withSupply_pending : (s.withSupply x).pending = s.pending := rfl
@[simp] theorem State.withSupply_withSupply (y : Supply) : (s.withSupply x).withSupply y = s.withSupply y := rfl
@[simp] theorem State.withSupply_same : s.withSupply s.supply = s := rfl
end

section
variable (x : Tamper)
@[simp] theorem State.withTamper_store : (s.withTamper x).store = s.store := rfl
@[simp] theorem State.withTamper_front : (s.withTamper x).front = s.front := rfl
@[simp] theorem State.withTamper_conv : (s.withTamper x).conv = s.conv := rfl
@[simp] theorem State.withTamper_energy : (s.withTamper x).energy = s.energy := rfl
@[simp] theorem State.withTamper_clock : (s.withTamper x).clock = s.clock := rfl
@[simp] theorem State.withTamper_tariff : (s.withTamper x).tariff = s.tariff := rfl
@[simp] theorem State.withTamper_credit : (s.withTamper x).credit = s.credit := rfl
@[simp] theorem State.withTamper_code : (s.withTamper x).code = s.code := rfl
@[simp] theorem State.withTamper_supply : (s.withTamper x).supply = s.supply := rfl
@[simp] theorem State.withTamper_tamper : (s.withTamper x).tamper = x := rfl
@[simp] theorem State.withTamper_link : (s.withTamper x).link = s.link := rfl
@[simp] theorem State.withTamper_strip : (s.withTamper x).strip = s.strip := rfl
@[simp] theorem State.withTamper_profile : (s.withTamper x).profile = s.profile := rfl
@[simp] theorem State.withTamper_power : (s.withTamper x).power = s.power := rfl
@[simp] theorem State.withTamper_settings : (s.withTamper x).settings = s.settings := rfl
@[simp] theorem State.withTamper_pins : (s.withTamper x).pins = s.pins := rfl
@[simp] theorem State.withTamper_freeCount : (s.withTamper x).freeCount = s.freeCount := rfl
@[simp] theorem State.withTamper_pending : (s.withTamper x).pending = s.pending := rfl
@[simp] theorem State.withTamper_withTamper (y : Tamper) : (s.withTamper x).withTamper y = s.withTamper y := rfl
@[simp] theorem State.withTamper_same : s.withTamper s.tamper = s := rfl
end

section
variable (x : Link)
@[simp] theorem State.withLink_store : (s.withLink x).store = s.store := rfl
@[simp] theorem State.withLink_front : (s.withLink x).front = s.front := rfl
@[simp] theorem State.withLink_conv : (s.withLink x).conv = s.conv := rfl
@[simp] theorem State.withLink_energy : (s.withLink x).energy = s.energy := rfl
@[simp] theorem State.withLink_clock : (s.withLink x).clock = s.clock := rfl
@[simp] theorem State.withLink_tariff : (s.withLink x).tariff = s.tariff := rfl
@[simp] theorem State.withLink_credit : (s.withLink x).credit = s.credit := rfl
@[simp] theorem State.withLink_code : (s.withLink x).code = s.code := rfl
@[simp] theorem State.withLink_supply : (s.withLink x).supply = s.supply := rfl
@[simp] theorem State.withLink_tamper : (s.withLink x).tamper = s.tamper := rfl
@[simp] theorem State.withLink_link : (s.withLink x).link = x := rfl
@[simp] theorem State.withLink_strip : (s.withLink x).strip = s.strip := rfl
@[simp] theorem State.withLink_profile : (s.withLink x).profile = s.profile := rfl
@[simp] theorem State.withLink_power : (s.withLink x).power = s.power := rfl
@[simp] theorem State.withLink_settings : (s.withLink x).settings = s.settings := rfl
@[simp] theorem State.withLink_pins : (s.withLink x).pins = s.pins := rfl
@[simp] theorem State.withLink_freeCount : (s.withLink x).freeCount = s.freeCount := rfl
@[simp] theorem State.withLink_pending : (s.withLink x).pending = s.pending := rfl
@[simp] theorem State.withLink_withLink (y : Link) : (s.withLink x).withLink y = s.withLink y := rfl
@[simp] theorem State.withLink_same : s.withLink s.link = s := rfl
end

section
variable (x : Strip)
@[simp] theorem State.withStrip_store : (s.withStrip x).store = s.store := rfl
@[simp] theorem State.withStrip_front : (s.withStrip x).front = s.front := rfl
@[simp] theorem State.withStrip_conv : (s.withStrip x).conv = s.conv := rfl
@[simp] theorem State.withStrip_energy : (s.withStrip x).energy = s.energy := rfl
@[simp] theorem State.withStrip_clock : (s.withStrip x).clock = s.clock := rfl
@[simp] theorem State.withStrip_tariff : (s.withStrip x).tariff = s.tariff := rfl
@[simp] theorem State.withStrip_credit : (s.withStrip x).credit = s.credit := rfl
@[simp] theorem State.withStrip_code : (s.withStrip x).code = s.code := rfl
@[simp] theorem State.withStrip_supply : (s.withStrip x).supply = s.supply := rfl
@[simp] theorem State.withStrip_tamper : (s.withStrip x).tamper = s.tamper := rfl
@[simp] theorem State.withStrip_link : (s.withStrip x).link = s.link := rfl
@[simp] theorem State.withStrip_strip : (s.withStrip x).strip = x := rfl
@[simp] theorem State.withStrip_profile : (s.withStrip x).profile = s.profile := rfl
@[simp] theorem State.withStrip_power : (s.withStrip x).power = s.power := rfl
@[simp] theorem State.withStrip_settings : (s.withStrip x).settings = s.settings := rfl
@[simp] theorem State.withStrip_pins : (s.withStrip x).pins = s.pins := rfl
@[simp] theorem State.withStrip_freeCount : (s.withStrip x).freeCount = s.freeCount := rfl
@[simp] theorem State.withStrip_pending : (s.withStrip x).pending = s.pending := rfl
@[simp] theorem State.withStrip_withStrip (y : Strip) : (s.withStrip x).withStrip y = s.withStrip y := rfl
@[simp] theorem State.withStrip_same : s.withStrip s.strip = s := rfl
end

section
variable (x : Profile)
@[simp] theorem State.withProfile_store : (s.withProfile x).store = s.store := rfl
@[simp] theorem State.withProfile_front : (s.withProfile x).front = s.front := rfl
@[simp] theorem State.withProfile_conv : (s.withProfile x).conv = s.conv := rfl
@[simp] theorem State.withProfile_energy : (s.withProfile x).energy = s.energy := rfl
@[simp] theorem State.withProfile_clock : (s.withProfile x).clock = s.clock := rfl
@[simp] theorem State.withProfile_tariff : (s.withProfile x).tariff = s.tariff := rfl
@[simp] theorem State.withProfile_credit : (s.withProfile x).credit = s.credit := rfl
@[simp] theorem State.withProfile_code : (s.withProfile x).code = s.code := rfl
@[simp] theorem State.withProfile_supply : (s.withProfile x).supply = s.supply := rfl
@[simp] theorem State.withProfile_tamper : (s.withProfile x).tamper = s.tamper := rfl
@[simp] theorem State.withProfile_link : (s.withProfile x).link = s.link := rfl
@[simp] theorem State.withProfile_strip : (s.withProfile x).strip = s.strip := rfl
@[simp] theorem State.withProfile_profile : (s.withProfile x).profile = x := rfl
@[simp] theorem State.withProfile_power : (s.withProfile x).power = s.power := rfl
@[simp] theorem State.withProfile_settings : (s.withProfile x).settings = s.settings := rfl
@[simp] theorem State.withProfile_pins : (s.withProfile x).pins = s.pins := rfl
@[simp] theorem State.withProfile_freeCount : (s.withProfile x).freeCount = s.freeCount := rfl
@[simp] theorem State.withProfile_pending : (s.withProfile x).pending = s.pending := rfl
@[simp] theorem State.withProfile_withProfile (y : Profile) : (s.withProfile x).withProfile y = s.withProfile y := rfl
@[simp] theorem State.withProfile_same : s.withProfile s.profile = s := rfl
end

section
variable (x : Power)
@[simp] theorem State.withPower_store : (s.withPower x).store = s.store := rfl
@[simp] theorem State.withPower_front : (s.withPower x).front = s.front := rfl
@[simp] theorem State.withPower_conv : (s.withPower x).conv = s.conv := rfl
@[simp] theorem State.withPower_energy : (s.withPower x).energy = s.energy := rfl
@[simp] theorem State.withPower_clock : (s.withPower x).clock = s.clock := rfl
@[simp] theorem State.withPower_tariff : (s.withPower x).tariff = s.tariff := rfl
@[simp] theorem State.withPower_credit : (s.withPower x).credit = s.credit := rfl
@[simp] theorem State.withPower_code : (s.withPower x).code = s.code := rfl
@[simp] theorem State.withPower_supply : (s.withPower x).supply = s.supply := rfl
@[simp] theorem State.withPower_tamper : (s.withPower x).tamper = s.tamper := rfl
@[simp] theorem State.withPower_link : (s.withPower x).link = s.link := rfl
@[simp] theorem State.withPower_strip : (s.withPower x).strip = s.strip := rfl
@[simp] theorem State.withPower_profile : (s.withPower x).profile = s.profile := rfl
@[simp] theorem State.withPower_power : (s.withPower x).power = x := rfl
@[simp] theorem State.withPower_settings : (s.withPower x).settings = s.settings := rfl
@[simp] theorem State.withPower_pins : (s.withPower x).pins = s.pins := rfl
@[simp] theorem State.withPower_freeCount : (s.withPower x).freeCount = s.freeCount := rfl
@[simp] theorem State.withPower_pending : (s.withPower x).pending = s.pending := rfl
@[simp] theorem State.withPower_withPower (y : Power) : (s.withPower x).withPower y = s.withPower y := rfl
@[simp] theorem State.withPower_same : s.withPower s.power = s := rfl
end

section
variable (x : Settings)
@[simp] theorem State.withSettings_store : (s.withSettings x).store = s.store := rfl
@[simp] theorem State.withSettings_front : (s.withSettings x).front = s.front := rfl
@[simp] theorem State.withSettings_conv : (s.withSettings x).conv = s.conv := rfl
@[simp] theorem State.withSettings_energy : (s.withSettings x).energy = s.energy := rfl
@[simp] theorem State.withSettings_clock : (s.withSettings x).clock = s.clock := rfl
@[simp] theorem State.withSettings_tariff : (s.withSettings x).tariff = s.tariff := rfl
@[simp] theorem State.withSettings_credit : (s.withSettings x).credit = s.credit := rfl
@[simp] theorem State.withSettings_code : (s.withSettings x).code = s.code := rfl
@[simp] theorem State.withSettings_supply : (s.withSettings x).supply = s.supply := rfl
@[simp] theorem State.withSettings_tamper : (s.withSettings x).tamper = s.tamper := rfl
@[simp] theorem State.withSettings_link : (s.withSettings x).link = s.link := rfl
@[simp] theorem State.withSettings_strip : (s.withSettings x).strip = s.strip := rfl
@[simp] theorem State.withSettings_profile : (s.withSettings x).profile = s.profile := rfl
@[simp] theorem State.withSettings_power : (s.withSettings x).power = s.power := rfl
@[simp] theorem State.withSettings_settings : (s.withSettings x).settings = x := rfl
@[simp] theorem State.withSettings_pins : (s.withSettings x).pins = s.pins := rfl
@[simp] theorem State.withSettings_freeCount : (s.withSettings x).freeCount = s.freeCount := rfl
@[simp] theorem State.withSettings_pending : (s.withSettings x).pending = s.pending := rfl
@[simp] theorem State.withSettings_withSettings (y : Settings) : (s.withSettings x).withSettings y = s.withSettings y := rfl
@[simp] theorem State.withSettings_same : s.withSettings s.settings = s := rfl
end

section
variable (x : Pins)
@[simp] theorem State.withPins_store : (s.withPins x).store = s.store := rfl
@[simp] theorem State.withPins_front : (s.withPins x).front = s.front := rfl
@[simp] theorem State.withPins_conv : (s.withPins x).conv = s.conv := rfl
@[simp] theorem State.withPins_energy : (s.withPins x).energy = s.energy := rfl
@[simp] theorem State.withPins_clock : (s.withPins x).clock = s.clock := rfl
@[simp] theorem State.withPins_tariff : (s.withPins x).tariff = s.tariff := rfl
@[simp] theorem State.withPins_credit : (s.withPins x).credit = s.credit := rfl
@[simp] theorem State.withPins_code : (s.withPins x).code = s.code := rfl
@[simp] theorem State.withPins_supply : (s.withPins x).supply = s.supply := rfl
@[simp] theorem State.withPins_tamper : (s.withPins x).tamper = s.tamper := rfl
@[simp] theorem State.withPins_link : (s.withPins x).link = s.link := rfl
@[simp] theorem State.withPins_strip : (s.withPins x).strip = s.strip := rfl
@[simp] theorem State.withPins_profile : (s.withPins x).profile = s.profile := rfl
@[simp] theorem State.withPins_power : (s.withPins x).power = s.power := rfl
@[simp] theorem State.withPins_settings : (s.withPins x).settings = s.settings := rfl
@[simp] theorem State.withPins_pins : (s.withPins x).pins = x := rfl
@[simp] theorem State.withPins_freeCount : (s.withPins x).freeCount = s.freeCount := rfl
@[simp] theorem State.withPins_pending : (s.withPins x).pending = s.pending := rfl
@[simp] theorem State.withPins_withPins (y : Pins) : (s.withPins x).withPins y = s.withPins y := rfl
@[simp] theorem State.withPins_same : s.withPins s.pins = s := rfl
end

section
variable (x : Nat)
@[simp] theorem State.withFreeCount_store : (s.withFreeCount x).store = s.store := rfl
@[simp] theorem State.withFreeCount_front : (s.withFreeCount x).front = s.front := rfl
@[simp] theorem State.withFreeCount_conv : (s.withFreeCount x).conv = s.conv := rfl
@[simp] theorem State.withFreeCount_energy : (s.withFreeCount x).energy = s.energy := rfl
@[simp] theorem State.withFreeCount_clock : (s.withFreeCount x).clock = s.clock := rfl
@[simp] theorem State.withFreeCount_tariff : (s.withFreeCount x).tariff = s.tariff := rfl
@[simp] theorem State.withFreeCount_credit : (s.withFreeCount x).credit = s.credit := rfl
@[simp] theorem State.withFreeCount_code : (s.withFreeCount x).code = s.code := rfl
@[simp] theorem State.withFreeCount_supply : (s.withFreeCount x).supply = s.supply := rfl
@[simp] theorem State.withFreeCount_tamper : (s.withFreeCount x).tamper = s.tamper := rfl
@[simp] theorem State.withFreeCount_link : (s.withFreeCount x).link = s.link := rfl
@[simp] theorem State.withFreeCount_strip : (s.withFreeCount x).strip = s.strip := rfl
@[simp] theorem State.withFreeCount_profile : (s.withFreeCount x).profile = s.profile := rfl
@[simp] theorem State.withFreeCount_power : (s.withFreeCount x).power = s.power := rfl
@[simp] theorem State.withFreeCount_settings : (s.withFreeCount x).settings = s.settings := rfl
@[simp] theorem State.withFreeCount_pins : (s.withFreeCount x).pins = s.pins := rfl
@[simp] theorem State.withFreeCount_freeCount : (s.withFreeCount x).freeCount = x := rfl
@[simp] theorem State.withFreeCount_pending : (s.withFreeCount x).pending = s.pending := rfl
@[simp] theorem State.withFreeCount_withFreeCount (y : Nat) : (s.withFreeCount x).withFreeCount y = s.withFreeCount y := rfl
@[simp] theorem State.withFreeCount_same : s.withFreeCount s.freeCount = s := rfl
end

section
variable (x : List Instr)
@[simp] theorem State.withPending_store : (s.withPending x).store = s.store := rfl
@[simp] theorem State.withPending_front : (s.withPending x).front = s.front := rfl
@[simp] theorem State.withPending_conv : (s.withPending x).conv = s.conv := rfl
@[simp] theorem State.withPending_energy : (s.withPending x).energy = s.energy := rfl
@[simp] theorem State.withPending_clock : (s.withPending x).clock = s.clock := rfl
@[simp] theorem State.withPending_tariff : (s.withPending x).tariff = s.tariff := rfl
@[simp] theorem State.withPending_credit : (s.withPending x).credit = s.credit := rfl
@[simp] theorem State.withPending_code : (s.withPending x).code = s.code := rfl
@[simp] theorem State.withPending_supply : (s.withPending x).supply = s.supply := rfl
@[simp] theorem State.withPending_tamper : (s.withPending x).tamper = s.tamper := rfl
@[simp] theorem State.withPending_link : (s.withPending x).link = s.link := rfl
@[simp] theorem State.withPending_strip : (s.withPending x).strip = s.strip := rfl
@[simp] theorem State.withPending_profile : (s.withPending x).profile = s.profile := rfl
@[simp] theorem State.withPending_power : (s.withPending x).power = s.power := rfl
@[simp] theorem State.withPending_settings : (s.withPending x).settings = s.settings := rfl
@[simp] theorem State.withPending_pins : (s.withPending x).pins = s.pins := rfl
@[simp] theorem State.withPending_freeCount : (s.withPending x).freeCount = s.freeCount := rfl
@[simp] theorem State.withPending_pending : (s.withPending x).pending = x := rfl
@[simp] theorem State.withPending_withPending (y : List Instr) : (s.withPending x).withPending y = s.withPending y := rfl
@[simp] theorem State.withPending_same : s.withPending s.pending = s := rfl
end

end Sys2Proof.Machine
end

