-- ==== Sys2Proof/Laws/Touch.lean ====
section
/-! SUPPORT. One lemma per shared operation: which parts of the state it can touch. Each is stated once as a frame, and
once as a rewriting rule, so that the frame of a composition comes out by simp. -/

namespace Sys2Proof.Machine

theorem OnlyTouches.refl (bs : List Block) (s : State) : OnlyTouches bs s s := by
  intro b _; cases b <;> rfl

theorem Block.Same.trans {b : Block} {s t u : State} (h : b.Same s t) (g : b.Same t u) : b.Same s u := by
  cases b <;> exact Eq.trans g h

theorem Block.Same.symm {b : Block} {s t : State} (h : b.Same s t) : b.Same t s := by
  cases b <;> exact Eq.symm h

theorem OnlyTouches.trans {bs : List Block} {s t u : State} (h : OnlyTouches bs s t) (g : OnlyTouches bs t u) :
    OnlyTouches bs s u := fun b hb => (h b hb).trans (g b hb)

theorem OnlyTouches.mono {cs bs : List Block} {s t : State} (h : OnlyTouches cs s t) (m : ∀ b ∈ cs, b ∈ bs) :
    OnlyTouches bs s t := fun b hb => h b fun hc => hb (m b hc)

/-- After an operation that touches only parts in `bs`, what only touches `bs` is what did so before it. -/
theorem OnlyTouches.iff_of {cs bs : List Block} {s t u : State} (g : OnlyTouches cs t u) (m : ∀ b ∈ cs, b ∈ bs) :
    OnlyTouches bs s u ↔ OnlyTouches bs s t :=
  ⟨fun h b hb => (h b hb).trans (g b fun hc => hb (m b hc)).symm, fun h => h.trans (g.mono m)⟩

/-- A free choice touches what the results it is made of touch, and the count of choices. -/
theorem freePick_touches {bs : List Block} {s : State} (t : State) {results : List State} (m : Block.freeCount ∈ bs)
    (base : OnlyTouches bs s t) (each : ∀ r ∈ results, OnlyTouches bs s r) : OnlyTouches bs s (freePick results t) :=
  freePick_of (fun u n h b hb => (show b.Same u (u.withFreeCount n) by cases b <;> first | rfl | exact absurd m hb) |>
    (h b hb).trans) base each

@[simp] theorem onlyTouches_refl (bs : List Block) (s : State) : OnlyTouches bs s s ↔ True :=
  iff_true_intro (OnlyTouches.refl bs s)

variable {bs : List Block} {s : State} (t : State)

theorem withStore_touches (x : List Host.Cell) : OnlyTouches [.store] t (t.withStore x) := by
  intro b hb; cases b <;> first | rfl | simp at hb
@[simp] theorem onlyTouches_withStore (x : List Host.Cell) (m : Block.store ∈ bs) :
    OnlyTouches bs s (t.withStore x) ↔ OnlyTouches bs s t :=
  (withStore_touches t x).iff_of (by simpa using m)

theorem withFront_touches (x : FrontEnd) : OnlyTouches [.front] t (t.withFront x) := by
  intro b hb; cases b <;> first | rfl | simp at hb
@[simp] theorem onlyTouches_withFront (x : FrontEnd) (m : Block.front ∈ bs) :
    OnlyTouches bs s (t.withFront x) ↔ OnlyTouches bs s t :=
  (withFront_touches t x).iff_of (by simpa using m)

theorem withConv_touches (x : Converter) : OnlyTouches [.conv] t (t.withConv x) := by
  intro b hb; cases b <;> first | rfl | simp at hb
@[simp] theorem onlyTouches_withConv (x : Converter) (m : Block.conv ∈ bs) :
    OnlyTouches bs s (t.withConv x) ↔ OnlyTouches bs s t :=
  (withConv_touches t x).iff_of (by simpa using m)

theorem withEnergy_touches (x : Energy) : OnlyTouches [.energy] t (t.withEnergy x) := by
  intro b hb; cases b <;> first | rfl | simp at hb
@[simp] theorem onlyTouches_withEnergy (x : Energy) (m : Block.energy ∈ bs) :
    OnlyTouches bs s (t.withEnergy x) ↔ OnlyTouches bs s t :=
  (withEnergy_touches t x).iff_of (by simpa using m)

theorem withClock_touches (x : Clock) : OnlyTouches [.clock] t (t.withClock x) := by
  intro b hb; cases b <;> first | rfl | simp at hb
@[simp] theorem onlyTouches_withClock (x : Clock) (m : Block.clock ∈ bs) :
    OnlyTouches bs s (t.withClock x) ↔ OnlyTouches bs s t :=
  (withClock_touches t x).iff_of (by simpa using m)

theorem withTariff_touches (x : TariffUnit) : OnlyTouches [.tariff] t (t.withTariff x) := by
  intro b hb; cases b <;> first | rfl | simp at hb
@[simp] theorem onlyTouches_withTariff (x : TariffUnit) (m : Block.tariff ∈ bs) :
    OnlyTouches bs s (t.withTariff x) ↔ OnlyTouches bs s t :=
  (withTariff_touches t x).iff_of (by simpa using m)

theorem withCredit_touches (x : Credit) : OnlyTouches [.credit] t (t.withCredit x) := by
  intro b hb; cases b <;> first | rfl | simp at hb
@[simp] theorem onlyTouches_withCredit (x : Credit) (m : Block.credit ∈ bs) :
    OnlyTouches bs s (t.withCredit x) ↔ OnlyTouches bs s t :=
  (withCredit_touches t x).iff_of (by simpa using m)

theorem withCode_touches (x : CodeUnit) : OnlyTouches [.code] t (t.withCode x) := by
  intro b hb; cases b <;> first | rfl | simp at hb
@[simp] theorem onlyTouches_withCode (x : CodeUnit) (m : Block.code ∈ bs) :
    OnlyTouches bs s (t.withCode x) ↔ OnlyTouches bs s t :=
  (withCode_touches t x).iff_of (by simpa using m)

theorem withSupply_touches (x : Supply) : OnlyTouches [.supply] t (t.withSupply x) := by
  intro b hb; cases b <;> first | rfl | simp at hb
@[simp] theorem onlyTouches_withSupply (x : Supply) (m : Block.supply ∈ bs) :
    OnlyTouches bs s (t.withSupply x) ↔ OnlyTouches bs s t :=
  (withSupply_touches t x).iff_of (by simpa using m)

theorem withTamper_touches (x : Tamper) : OnlyTouches [.tamper] t (t.withTamper x) := by
  intro b hb; cases b <;> first | rfl | simp at hb
@[simp] theorem onlyTouches_withTamper (x : Tamper) (m : Block.tamper ∈ bs) :
    OnlyTouches bs s (t.withTamper x) ↔ OnlyTouches bs s t :=
  (withTamper_touches t x).iff_of (by simpa using m)

theorem withLink_touches (x : Link) : OnlyTouches [.link] t (t.withLink x) := by
  intro b hb; cases b <;> first | rfl | simp at hb
@[simp] theorem onlyTouches_withLink (x : Link) (m : Block.link ∈ bs) :
    OnlyTouches bs s (t.withLink x) ↔ OnlyTouches bs s t :=
  (withLink_touches t x).iff_of (by simpa using m)

theorem withStrip_touches (x : Strip) : OnlyTouches [.strip] t (t.withStrip x) := by
  intro b hb; cases b <;> first | rfl | simp at hb
@[simp] theorem onlyTouches_withStrip (x : Strip) (m : Block.strip ∈ bs) :
    OnlyTouches bs s (t.withStrip x) ↔ OnlyTouches bs s t :=
  (withStrip_touches t x).iff_of (by simpa using m)

theorem withProfile_touches (x : Profile) : OnlyTouches [.profile] t (t.withProfile x) := by
  intro b hb; cases b <;> first | rfl | simp at hb
@[simp] theorem onlyTouches_withProfile (x : Profile) (m : Block.profile ∈ bs) :
    OnlyTouches bs s (t.withProfile x) ↔ OnlyTouches bs s t :=
  (withProfile_touches t x).iff_of (by simpa using m)

theorem withPower_touches (x : Power) : OnlyTouches [.power] t (t.withPower x) := by
  intro b hb; cases b <;> first | rfl | simp at hb
@[simp] theorem onlyTouches_withPower (x : Power) (m : Block.power ∈ bs) :
    OnlyTouches bs s (t.withPower x) ↔ OnlyTouches bs s t :=
  (withPower_touches t x).iff_of (by simpa using m)

theorem withSettings_touches (x : Settings) : OnlyTouches [.settings] t (t.withSettings x) := by
  intro b hb; cases b <;> first | rfl | simp at hb
@[simp] theorem onlyTouches_withSettings (x : Settings) (m : Block.settings ∈ bs) :
    OnlyTouches bs s (t.withSettings x) ↔ OnlyTouches bs s t :=
  (withSettings_touches t x).iff_of (by simpa using m)

theorem withPins_touches (x : Pins) : OnlyTouches [.pins] t (t.withPins x) := by
  intro b hb; cases b <;> first | rfl | simp at hb
@[simp] theorem onlyTouches_withPins (x : Pins) (m : Block.pins ∈ bs) :
    OnlyTouches bs s (t.withPins x) ↔ OnlyTouches bs s t :=
  (withPins_touches t x).iff_of (by simpa using m)

theorem withFreeCount_touches (x : Nat) : OnlyTouches [.freeCount] t (t.withFreeCount x) := by
  intro b hb; cases b <;> first | rfl | simp at hb
@[simp] theorem onlyTouches_withFreeCount (x : Nat) (m : Block.freeCount ∈ bs) :
    OnlyTouches bs s (t.withFreeCount x) ↔ OnlyTouches bs s t :=
  (withFreeCount_touches t x).iff_of (by simpa using m)

theorem withPending_touches (x : List Instr) : OnlyTouches [.pending] t (t.withPending x) := by
  intro b hb; cases b <;> first | rfl | simp at hb
@[simp] theorem onlyTouches_withPending (x : List Instr) (m : Block.pending ∈ bs) :
    OnlyTouches bs s (t.withPending x) ↔ OnlyTouches bs s t :=
  (withPending_touches t x).iff_of (by simpa using m)
theorem poke_touches (a : Nat) (l : List Byte) : OnlyTouches [.store] t (poke a l t) := by
  unfold poke
  simp [apply_ite (OnlyTouches _ _)]
@[simp] theorem onlyTouches_poke (a : Nat) (l : List Byte) (h0 : Block.store ∈ bs) :
    OnlyTouches bs s (poke a l t) ↔ OnlyTouches bs s t :=
  (poke_touches t a l).iff_of (by simp [h0])

theorem pageFrame_touches : OnlyTouches [.store] t (pageFrame t) := by
  unfold pageFrame
  simp
@[simp] theorem onlyTouches_pageFrame (h0 : Block.store ∈ bs) :
    OnlyTouches bs s (pageFrame t) ↔ OnlyTouches bs s t :=
  (pageFrame_touches t).iff_of (by simp [h0])

theorem pageBacklog_touches : OnlyTouches [.store] t (pageBacklog t) := by
  unfold pageBacklog
  simp
@[simp] theorem onlyTouches_pageBacklog (h0 : Block.store ∈ bs) :
    OnlyTouches bs s (pageBacklog t) ↔ OnlyTouches bs s t :=
  (pageBacklog_touches t).iff_of (by simp [h0])

theorem pageEnergy_touches : OnlyTouches [.store] t (pageEnergy t) := by
  unfold pageEnergy
  simp
@[simp] theorem onlyTouches_pageEnergy (h0 : Block.store ∈ bs) :
    OnlyTouches bs s (pageEnergy t) ↔ OnlyTouches bs s t :=
  (pageEnergy_touches t).iff_of (by simp [h0])

theorem pageClock_touches : OnlyTouches [.store] t (pageClock t) := by
  unfold pageClock
  simp
@[simp] theorem onlyTouches_pageClock (h0 : Block.store ∈ bs) :
    OnlyTouches bs s (pageClock t) ↔ OnlyTouches bs s t :=
  (pageClock_touches t).iff_of (by simp [h0])

theorem pageCalendar_touches : OnlyTouches [.store] t (pageCalendar t) := by
  unfold pageCalendar
  simp
@[simp] theorem onlyTouches_pageCalendar (h0 : Block.store ∈ bs) :
    OnlyTouches bs s (pageCalendar t) ↔ OnlyTouches bs s t :=
  (pageCalendar_touches t).iff_of (by simp [h0])

theorem pageTariff_touches : OnlyTouches [.store] t (pageTariff t) := by
  unfold pageTariff
  simp
@[simp] theorem onlyTouches_pageTariff (h0 : Block.store ∈ bs) :
    OnlyTouches bs s (pageTariff t) ↔ OnlyTouches bs s t :=
  (pageTariff_touches t).iff_of (by simp [h0])

theorem pageBlockBand_touches : OnlyTouches [.store] t (pageBlockBand t) := by
  unfold pageBlockBand
  simp
@[simp] theorem onlyTouches_pageBlockBand (h0 : Block.store ∈ bs) :
    OnlyTouches bs s (pageBlockBand t) ↔ OnlyTouches bs s t :=
  (pageBlockBand_touches t).iff_of (by simp [h0])

theorem pageCredit_touches : OnlyTouches [.store] t (pageCredit t) := by
  unfold pageCredit
  simp
@[simp] theorem onlyTouches_pageCredit (h0 : Block.store ∈ bs) :
    OnlyTouches bs s (pageCredit t) ↔ OnlyTouches bs s t :=
  (pageCredit_touches t).iff_of (by simp [h0])

theorem pageEntry_touches : OnlyTouches [.store] t (pageEntry t) := by
  unfold pageEntry
  simp
@[simp] theorem onlyTouches_pageEntry (h0 : Block.store ∈ bs) :
    OnlyTouches bs s (pageEntry t) ↔ OnlyTouches bs s t :=
  (pageEntry_touches t).iff_of (by simp [h0])

theorem pageCode_touches : OnlyTouches [.store] t (pageCode t) := by
  unfold pageCode
  simp
@[simp] theorem onlyTouches_pageCode (h0 : Block.store ∈ bs) :
    OnlyTouches bs s (pageCode t) ↔ OnlyTouches bs s t :=
  (pageCode_touches t).iff_of (by simp [h0])

theorem pageSupply_touches : OnlyTouches [.store] t (pageSupply t) := by
  unfold pageSupply
  simp
@[simp] theorem onlyTouches_pageSupply (h0 : Block.store ∈ bs) :
    OnlyTouches bs s (pageSupply t) ↔ OnlyTouches bs s t :=
  (pageSupply_touches t).iff_of (by simp [h0])

theorem pageRecord_touches (k : TamperKind) : OnlyTouches [.store] t (pageRecord k t) := by
  unfold pageRecord
  simp
@[simp] theorem onlyTouches_pageRecord (k : TamperKind) (h0 : Block.store ∈ bs) :
    OnlyTouches bs s (pageRecord k t) ↔ OnlyTouches bs s t :=
  (pageRecord_touches t k).iff_of (by simp [h0])

theorem pageWindows_touches : OnlyTouches [.store] t (pageWindows t) := by
  unfold pageWindows
  simp
@[simp] theorem onlyTouches_pageWindows (h0 : Block.store ∈ bs) :
    OnlyTouches bs s (pageWindows t) ↔ OnlyTouches bs s t :=
  (pageWindows_touches t).iff_of (by simp [h0])

theorem pageSwitches_touches : OnlyTouches [.store] t (pageSwitches t) := by
  unfold pageSwitches
  simp
@[simp] theorem onlyTouches_pageSwitches (h0 : Block.store ∈ bs) :
    OnlyTouches bs s (pageSwitches t) ↔ OnlyTouches bs s t :=
  (pageSwitches_touches t).iff_of (by simp [h0])

theorem pageLamp_touches : OnlyTouches [.store] t (pageLamp t) := by
  unfold pageLamp
  simp
@[simp] theorem onlyTouches_pageLamp (h0 : Block.store ∈ bs) :
    OnlyTouches bs s (pageLamp t) ↔ OnlyTouches bs s t :=
  (pageLamp_touches t).iff_of (by simp [h0])

theorem pageStrip_touches : OnlyTouches [.store] t (pageStrip t) := by
  unfold pageStrip
  simp
@[simp] theorem onlyTouches_pageStrip (h0 : Block.store ∈ bs) :
    OnlyTouches bs s (pageStrip t) ↔ OnlyTouches bs s t :=
  (pageStrip_touches t).iff_of (by simp [h0])

theorem pageProfile_touches : OnlyTouches [.store] t (pageProfile t) := by
  unfold pageProfile
  simp
@[simp] theorem onlyTouches_pageProfile (h0 : Block.store ∈ bs) :
    OnlyTouches bs s (pageProfile t) ↔ OnlyTouches bs s t :=
  (pageProfile_touches t).iff_of (by simp [h0])

theorem pageRecords_touches : OnlyTouches [.store] t (pageRecords t) := by
  unfold pageRecords TamperKind.all; simp
@[simp] theorem onlyTouches_pageRecords (h0 : Block.store ∈ bs) :
    OnlyTouches bs s (pageRecords t) ↔ OnlyTouches bs s t :=
  (pageRecords_touches t).iff_of (by simp [h0])

theorem pageAll_touches : OnlyTouches [.store] t (pageAll t) := by
  unfold pageAll
  simp
@[simp] theorem onlyTouches_pageAll (h0 : Block.store ∈ bs) :
    OnlyTouches bs s (pageAll t) ↔ OnlyTouches bs s t :=
  (pageAll_touches t).iff_of (by simp [h0])

theorem attnUpdate_touches : OnlyTouches [.link] t (attnUpdate t) := by
  unfold attnUpdate
  simp [apply_ite (OnlyTouches _ _)]
@[simp] theorem onlyTouches_attnUpdate (h0 : Block.link ∈ bs) :
    OnlyTouches bs s (attnUpdate t) ↔ OnlyTouches bs s t :=
  (attnUpdate_touches t).iff_of (by simp [h0])

theorem raise_touches (c : AttnCause) : OnlyTouches [.link] t (raise c t) := by
  unfold raise
  simp [apply_ite (OnlyTouches _ _)]
@[simp] theorem onlyTouches_raise (c : AttnCause) (h0 : Block.link ∈ bs) :
    OnlyTouches bs s (raise c t) ↔ OnlyTouches bs s t :=
  (raise_touches t c).iff_of (by simp [h0])

theorem collide_touches (a : Nat) : OnlyTouches [.link] t (collide a t) := by
  unfold collide
  simp
@[simp] theorem onlyTouches_collide (a : Nat) (h0 : Block.link ∈ bs) :
    OnlyTouches bs s (collide a t) ↔ OnlyTouches bs s t :=
  (collide_touches t a).iff_of (by simp [h0])

theorem clearCollisionFlag_touches : OnlyTouches [.link] t (clearCollisionFlag t) := by
  unfold clearCollisionFlag
  simp
@[simp] theorem onlyTouches_clearCollisionFlag (h0 : Block.link ∈ bs) :
    OnlyTouches bs s (clearCollisionFlag t) ↔ OnlyTouches bs s t :=
  (clearCollisionFlag_touches t).iff_of (by simp [h0])

theorem completeSlip_touches (n : Fin 16) (v : Verdict) (r : List Byte) : OnlyTouches [.store, .link] t (completeSlip n v r t) := by
  unfold completeSlip
  simp
@[simp] theorem onlyTouches_completeSlip (n : Fin 16) (v : Verdict) (r : List Byte) (h0 : Block.store ∈ bs) (h1 : Block.link ∈ bs) :
    OnlyTouches bs s (completeSlip n v r t) ↔ OnlyTouches bs s t :=
  (completeSlip_touches t n v r).iff_of (by simp [h0, h1])

theorem markTaken_touches (n : Fin 16) : OnlyTouches [.store, .link] t (markTaken n t) := by
  unfold markTaken
  simp
@[simp] theorem onlyTouches_markTaken (n : Fin 16) (h0 : Block.store ∈ bs) (h1 : Block.link ∈ bs) :
    OnlyTouches bs s (markTaken n t) ↔ OnlyTouches bs s t :=
  (markTaken_touches t n).iff_of (by simp [h0, h1])

theorem writeNotice_touches (k : NoticeKind) (hd : Nat) (x : Stamp) (d : List Byte) : OnlyTouches [.store, .link, .strip] t (writeNotice k hd x d t) := by
  unfold writeNotice
  simp [apply_ite (OnlyTouches _ _)]
@[simp] theorem onlyTouches_writeNotice (k : NoticeKind) (hd : Nat) (x : Stamp) (d : List Byte) (h0 : Block.store ∈ bs) (h1 : Block.link ∈ bs) (h2 : Block.strip ∈ bs) :
    OnlyTouches bs s (writeNotice k hd x d t) ↔ OnlyTouches bs s t :=
  (writeNotice_touches t k hd x d).iff_of (by simp [h0, h1, h2])

theorem notice_touches (k : NoticeKind) (hd : Nat) (d : List Byte) : OnlyTouches [.store, .link, .strip] t (notice k hd d t) := by
  unfold notice
  simp
@[simp] theorem onlyTouches_notice (k : NoticeKind) (hd : Nat) (d : List Byte) (h0 : Block.store ∈ bs) (h1 : Block.link ∈ bs) (h2 : Block.strip ∈ bs) :
    OnlyTouches bs s (notice k hd d t) ↔ OnlyTouches bs s t :=
  (notice_touches t k hd d).iff_of (by simp [h0, h1, h2])

theorem overPeriod_touches (f : Period → Period) : OnlyTouches [.profile] t (overPeriod f t) := by
  unfold overPeriod
  simp
@[simp] theorem onlyTouches_overPeriod (f : Period → Period) (h0 : Block.profile ∈ bs) :
    OnlyTouches bs s (overPeriod f t) ↔ OnlyTouches bs s t :=
  (overPeriod_touches t f).iff_of (by simp [h0])

theorem openPeriod_touches : OnlyTouches [.profile] t (openPeriod t) := by
  unfold openPeriod
  simp
@[simp] theorem onlyTouches_openPeriod (h0 : Block.profile ∈ bs) :
    OnlyTouches bs s (openPeriod t) ↔ OnlyTouches bs s t :=
  (openPeriod_touches t).iff_of (by simp [h0])

theorem profileWattHour_touches : OnlyTouches [.profile] t (profileWattHour t) := by
  unfold profileWattHour
  simp
@[simp] theorem onlyTouches_profileWattHour (h0 : Block.profile ∈ bs) :
    OnlyTouches bs s (profileWattHour t) ↔ OnlyTouches bs s t :=
  (profileWattHour_touches t).iff_of (by simp [h0])

theorem profileTamper_touches : OnlyTouches [.profile] t (profileTamper t) := by
  unfold profileTamper
  simp
@[simp] theorem onlyTouches_profileTamper (h0 : Block.profile ∈ bs) :
    OnlyTouches bs s (profileTamper t) ↔ OnlyTouches bs s t :=
  (profileTamper_touches t).iff_of (by simp [h0])

theorem profileSupplyOpen_touches : OnlyTouches [.profile] t (profileSupplyOpen t) := by
  unfold profileSupplyOpen
  simp
@[simp] theorem onlyTouches_profileSupplyOpen (h0 : Block.profile ∈ bs) :
    OnlyTouches bs s (profileSupplyOpen t) ↔ OnlyTouches bs s t :=
  (profileSupplyOpen_touches t).iff_of (by simp [h0])

theorem profileFrame_touches (v : Nat) : OnlyTouches [.profile] t (profileFrame v t) := by
  unfold profileFrame
  simp
@[simp] theorem onlyTouches_profileFrame (v : Nat) (h0 : Block.profile ∈ bs) :
    OnlyTouches bs s (profileFrame v t) ↔ OnlyTouches bs s t :=
  (profileFrame_touches t v).iff_of (by simp [h0])

theorem recordPeriod_touches (p : Period) (e : Nat) (m : Bool) : OnlyTouches [.store, .link, .strip, .profile] t (recordPeriod p e m t) := by
  unfold recordPeriod
  repeat' split
  all_goals simp [apply_ite (OnlyTouches _ _)]
@[simp] theorem onlyTouches_recordPeriod (p : Period) (e : Nat) (m : Bool) (h0 : Block.store ∈ bs) (h1 : Block.link ∈ bs) (h2 : Block.strip ∈ bs) (h3 : Block.profile ∈ bs) :
    OnlyTouches bs s (recordPeriod p e m t) ↔ OnlyTouches bs s t :=
  (recordPeriod_touches t p e m).iff_of (by simp [h0, h1, h2, h3])

theorem closePeriod_touches (m : Bool) : OnlyTouches [.store, .link, .strip, .profile] t (closePeriod m t) := by
  unfold closePeriod
  repeat' split
  all_goals simp
@[simp] theorem onlyTouches_closePeriod (m : Bool) (h0 : Block.store ∈ bs) (h1 : Block.link ∈ bs) (h2 : Block.strip ∈ bs) (h3 : Block.profile ∈ bs) :
    OnlyTouches bs s (closePeriod m t) ↔ OnlyTouches bs s t :=
  (closePeriod_touches t m).iff_of (by simp [h0, h1, h2, h3])

theorem turnPeriod_touches (m : Bool) : OnlyTouches [.store, .link, .strip, .profile] t (turnPeriod m t) := by
  unfold turnPeriod
  simp [apply_ite (OnlyTouches _ _)]
@[simp] theorem onlyTouches_turnPeriod (m : Bool) (h0 : Block.store ∈ bs) (h1 : Block.link ∈ bs) (h2 : Block.strip ∈ bs) (h3 : Block.profile ∈ bs) :
    OnlyTouches bs s (turnPeriod m t) ↔ OnlyTouches bs s t :=
  (turnPeriod_touches t m).iff_of (by simp [h0, h1, h2, h3])

theorem profileMinute_touches : OnlyTouches [.store, .link, .strip, .profile] t (profileMinute t) := by
  unfold profileMinute
  repeat' split
  all_goals simp [apply_ite (OnlyTouches _ _)]
@[simp] theorem onlyTouches_profileMinute (h0 : Block.store ∈ bs) (h1 : Block.link ∈ bs) (h2 : Block.strip ∈ bs) (h3 : Block.profile ∈ bs) :
    OnlyTouches bs s (profileMinute t) ↔ OnlyTouches bs s t :=
  (profileMinute_touches t).iff_of (by simp [h0, h1, h2, h3])

theorem savePeriod_touches : OnlyTouches [.profile] t (savePeriod t) := by
  unfold savePeriod
  repeat' split
  all_goals simp
@[simp] theorem onlyTouches_savePeriod (h0 : Block.profile ∈ bs) :
    OnlyTouches bs s (savePeriod t) ↔ OnlyTouches bs s t :=
  (savePeriod_touches t).iff_of (by simp [h0])

theorem resumePeriods_touches : OnlyTouches [.store, .link, .strip, .profile] t (resumePeriods t) := by
  unfold resumePeriods
  repeat' split
  all_goals simp
@[simp] theorem onlyTouches_resumePeriods (h0 : Block.store ∈ bs) (h1 : Block.link ∈ bs) (h2 : Block.strip ∈ bs) (h3 : Block.profile ∈ bs) :
    OnlyTouches bs s (resumePeriods t) ↔ OnlyTouches bs s t :=
  (resumePeriods_touches t).iff_of (by simp [h0, h1, h2, h3])

theorem overSupply_touches (f : Supply → Supply) : OnlyTouches [.supply] t (overSupply f t) := by
  unfold overSupply
  simp
@[simp] theorem onlyTouches_overSupply (f : Supply → Supply) (h0 : Block.supply ∈ bs) :
    OnlyTouches bs s (overSupply f t) ↔ OnlyTouches bs s t :=
  (overSupply_touches t f).iff_of (by simp [h0])

theorem supplyNotice_touches (o : MachineState) (x : SupplyTrigger) (u : Bool) : OnlyTouches [.store, .link, .strip] t (supplyNotice o x u t) := by
  unfold supplyNotice
  simp
@[simp] theorem onlyTouches_supplyNotice (o : MachineState) (x : SupplyTrigger) (u : Bool) (h0 : Block.store ∈ bs) (h1 : Block.link ∈ bs) (h2 : Block.strip ∈ bs) :
    OnlyTouches bs s (supplyNotice o x u t) ↔ OnlyTouches bs s t :=
  (supplyNotice_touches t o x u).iff_of (by simp [h0, h1, h2])

theorem changeMachine_touches (m : MachineState) (x : SupplyTrigger) (u : Bool) : OnlyTouches [.store, .supply, .link, .strip, .profile] t (changeMachine m x u t) := by
  unfold changeMachine
  simp [apply_ite (OnlyTouches _ _)]
@[simp] theorem onlyTouches_changeMachine (m : MachineState) (x : SupplyTrigger) (u : Bool) (h0 : Block.store ∈ bs) (h1 : Block.supply ∈ bs) (h2 : Block.link ∈ bs) (h3 : Block.strip ∈ bs) (h4 : Block.profile ∈ bs) :
    OnlyTouches bs s (changeMachine m x u t) ↔ OnlyTouches bs s t :=
  (changeMachine_touches t m x u).iff_of (by simp [h0, h1, h2, h3, h4])

theorem beginPulse_touches (d : Direction) : OnlyTouches [.conv, .supply] t (beginPulse d t) := by
  unfold beginPulse
  simp
@[simp] theorem onlyTouches_beginPulse (d : Direction) (h0 : Block.conv ∈ bs) (h1 : Block.supply ∈ bs) :
    OnlyTouches bs s (beginPulse d t) ↔ OnlyTouches bs s t :=
  (beginPulse_touches t d).iff_of (by simp [h0, h1])

theorem beginAttempt_touches (d : Direction) : OnlyTouches [.store, .conv, .supply] t (beginAttempt d t) := by
  unfold beginAttempt
  simp
@[simp] theorem onlyTouches_beginAttempt (d : Direction) (h0 : Block.store ∈ bs) (h1 : Block.conv ∈ bs) (h2 : Block.supply ∈ bs) :
    OnlyTouches bs s (beginAttempt d t) ↔ OnlyTouches bs s t :=
  (beginAttempt_touches t d).iff_of (by simp [h0, h1, h2])

theorem enterOpening_touches (x : SupplyTrigger) : OnlyTouches [.store, .conv, .supply, .link, .strip, .profile] t (enterOpening x t) := by
  unfold enterOpening
  simp
@[simp] theorem onlyTouches_enterOpening (x : SupplyTrigger) (h0 : Block.store ∈ bs) (h1 : Block.conv ∈ bs) (h2 : Block.supply ∈ bs) (h3 : Block.link ∈ bs) (h4 : Block.strip ∈ bs) (h5 : Block.profile ∈ bs) :
    OnlyTouches bs s (enterOpening x t) ↔ OnlyTouches bs s t :=
  (enterOpening_touches t x).iff_of (by simp [h0, h1, h2, h3, h4, h5])

theorem enterClosing_touches : OnlyTouches [.store, .conv, .supply, .link, .strip, .profile] t (enterClosing t) := by
  unfold enterClosing
  simp
@[simp] theorem onlyTouches_enterClosing (h0 : Block.store ∈ bs) (h1 : Block.conv ∈ bs) (h2 : Block.supply ∈ bs) (h3 : Block.link ∈ bs) (h4 : Block.strip ∈ bs) (h5 : Block.profile ∈ bs) :
    OnlyTouches bs s (enterClosing t) ↔ OnlyTouches bs s t :=
  (enterClosing_touches t).iff_of (by simp [h0, h1, h2, h3, h4, h5])

theorem actOnCauses_touches : OnlyTouches [.store, .conv, .supply, .link, .strip, .profile] t (actOnCauses t) := by
  unfold actOnCauses
  repeat' split
  all_goals simp
@[simp] theorem onlyTouches_actOnCauses (h0 : Block.store ∈ bs) (h1 : Block.conv ∈ bs) (h2 : Block.supply ∈ bs) (h3 : Block.link ∈ bs) (h4 : Block.strip ∈ bs) (h5 : Block.profile ∈ bs) :
    OnlyTouches bs s (actOnCauses t) ↔ OnlyTouches bs s t :=
  (actOnCauses_touches t).iff_of (by simp [h0, h1, h2, h3, h4, h5])

theorem setCause_touches (k : Cause) (b : Bool) : OnlyTouches [.store, .conv, .supply, .link, .strip, .profile] t (setCause k b t) := by
  unfold setCause
  simp [apply_ite (OnlyTouches _ _)]
@[simp] theorem onlyTouches_setCause (k : Cause) (b : Bool) (h0 : Block.store ∈ bs) (h1 : Block.conv ∈ bs) (h2 : Block.supply ∈ bs) (h3 : Block.link ∈ bs) (h4 : Block.strip ∈ bs) (h5 : Block.profile ∈ bs) :
    OnlyTouches bs s (setCause k b t) ↔ OnlyTouches bs s t :=
  (setCause_touches t k b).iff_of (by simp [h0, h1, h2, h3, h4, h5])

theorem takeConfirm_touches : OnlyTouches [.store, .conv, .supply, .link, .strip, .profile] t (takeConfirm t) := by
  unfold takeConfirm
  simp [apply_ite (OnlyTouches _ _)]
@[simp] theorem onlyTouches_takeConfirm (h0 : Block.store ∈ bs) (h1 : Block.conv ∈ bs) (h2 : Block.supply ∈ bs) (h3 : Block.link ∈ bs) (h4 : Block.strip ∈ bs) (h5 : Block.profile ∈ bs) :
    OnlyTouches bs s (takeConfirm t) ↔ OnlyTouches bs s t :=
  (takeConfirm_touches t).iff_of (by simp [h0, h1, h2, h3, h4, h5])

theorem markUnverified_touches : OnlyTouches [.supply] t (markUnverified t) := by
  unfold markUnverified
  simp
@[simp] theorem onlyTouches_markUnverified (h0 : Block.supply ∈ bs) :
    OnlyTouches bs s (markUnverified t) ↔ OnlyTouches bs s t :=
  (markUnverified_touches t).iff_of (by simp [h0])

theorem endPulse_touches : OnlyTouches [.store, .conv, .supply, .link, .strip, .profile] t (endPulse t) := by
  unfold endPulse
  dsimp only
  repeat' split
  all_goals simp
@[simp] theorem onlyTouches_endPulse (h0 : Block.store ∈ bs) (h1 : Block.conv ∈ bs) (h2 : Block.supply ∈ bs) (h3 : Block.link ∈ bs) (h4 : Block.strip ∈ bs) (h5 : Block.profile ∈ bs) :
    OnlyTouches bs s (endPulse t) ↔ OnlyTouches bs s t :=
  (endPulse_touches t).iff_of (by simp [h0, h1, h2, h3, h4, h5])

theorem relayFaultNotice_touches (a : Attempt) : OnlyTouches [.store, .link, .strip] t (relayFaultNotice a t) := by
  unfold relayFaultNotice
  simp
@[simp] theorem onlyTouches_relayFaultNotice (a : Attempt) (h0 : Block.store ∈ bs) (h1 : Block.link ∈ bs) (h2 : Block.strip ∈ bs) :
    OnlyTouches bs s (relayFaultNotice a t) ↔ OnlyTouches bs s t :=
  (relayFaultNotice_touches t a).iff_of (by simp [h0, h1, h2])

theorem failAttempt_touches (a : Attempt) : OnlyTouches [.store, .conv, .supply, .link, .strip, .profile] t (failAttempt a t) := by
  unfold failAttempt
  repeat' split
  all_goals simp [apply_ite (OnlyTouches _ _)]
@[simp] theorem onlyTouches_failAttempt (a : Attempt) (h0 : Block.store ∈ bs) (h1 : Block.conv ∈ bs) (h2 : Block.supply ∈ bs) (h3 : Block.link ∈ bs) (h4 : Block.strip ∈ bs) (h5 : Block.profile ∈ bs) :
    OnlyTouches bs s (failAttempt a t) ↔ OnlyTouches bs s t :=
  (failAttempt_touches t a).iff_of (by simp [h0, h1, h2, h3, h4, h5])

theorem windowExpires_touches (a : Attempt) : OnlyTouches [.store, .conv, .supply, .link, .strip, .profile] t (windowExpires a t) := by
  unfold windowExpires
  simp [apply_ite (OnlyTouches _ _)]
@[simp] theorem onlyTouches_windowExpires (a : Attempt) (h0 : Block.store ∈ bs) (h1 : Block.conv ∈ bs) (h2 : Block.supply ∈ bs) (h3 : Block.link ∈ bs) (h4 : Block.strip ∈ bs) (h5 : Block.profile ∈ bs) :
    OnlyTouches bs s (windowExpires a t) ↔ OnlyTouches bs s t :=
  (windowExpires_touches t a).iff_of (by simp [h0, h1, h2, h3, h4, h5])

theorem noteLoadV_touches (f : Frame) : OnlyTouches [.supply] t (noteLoadV f t) := by
  unfold noteLoadV
  simp [apply_ite (OnlyTouches _ _)]
@[simp] theorem onlyTouches_noteLoadV (f : Frame) (h0 : Block.supply ∈ bs) :
    OnlyTouches bs s (noteLoadV f t) ↔ OnlyTouches bs s t :=
  (noteLoadV_touches t f).iff_of (by simp [h0])

theorem overloadTrip_touches (p : Nat) : OnlyTouches [.store, .conv, .supply, .link, .strip, .profile] t (overloadTrip p t) := by
  unfold overloadTrip
  simp
@[simp] theorem onlyTouches_overloadTrip (p : Nat) (h0 : Block.store ∈ bs) (h1 : Block.conv ∈ bs) (h2 : Block.supply ∈ bs) (h3 : Block.link ∈ bs) (h4 : Block.strip ∈ bs) (h5 : Block.profile ∈ bs) :
    OnlyTouches bs s (overloadTrip p t) ↔ OnlyTouches bs s t :=
  (overloadTrip_touches t p).iff_of (by simp [h0, h1, h2, h3, h4, h5])

theorem overloadFrame_touches (f : Frame) (p : Nat) : OnlyTouches [.store, .conv, .supply, .link, .strip, .profile] t (overloadFrame f p t) := by
  unfold overloadFrame
  simp [apply_ite (OnlyTouches _ _)]
@[simp] theorem onlyTouches_overloadFrame (f : Frame) (p : Nat) (h0 : Block.store ∈ bs) (h1 : Block.conv ∈ bs) (h2 : Block.supply ∈ bs) (h3 : Block.link ∈ bs) (h4 : Block.strip ∈ bs) (h5 : Block.profile ∈ bs) :
    OnlyTouches bs s (overloadFrame f p t) ↔ OnlyTouches bs s t :=
  (overloadFrame_touches t f p).iff_of (by simp [h0, h1, h2, h3, h4, h5])

theorem supplyFrame_touches (f : Frame) (p : Nat) : OnlyTouches [.store, .conv, .supply, .link, .strip, .profile] t (supplyFrame f p t) := by
  unfold supplyFrame
  repeat' split
  all_goals simp [apply_ite (OnlyTouches _ _)]
@[simp] theorem onlyTouches_supplyFrame (f : Frame) (p : Nat) (h0 : Block.store ∈ bs) (h1 : Block.conv ∈ bs) (h2 : Block.supply ∈ bs) (h3 : Block.link ∈ bs) (h4 : Block.strip ∈ bs) (h5 : Block.profile ∈ bs) :
    OnlyTouches bs s (supplyFrame f p t) ↔ OnlyTouches bs s t :=
  (supplyFrame_touches t f p).iff_of (by simp [h0, h1, h2, h3, h4, h5])

theorem endOverload_touches : OnlyTouches [.store, .conv, .supply, .link, .strip, .profile] t (endOverload t) := by
  unfold endOverload
  simp
@[simp] theorem onlyTouches_endOverload (h0 : Block.store ∈ bs) (h1 : Block.conv ∈ bs) (h2 : Block.supply ∈ bs) (h3 : Block.link ∈ bs) (h4 : Block.strip ∈ bs) (h5 : Block.profile ∈ bs) :
    OnlyTouches bs s (endOverload t) ↔ OnlyTouches bs s t :=
  (endOverload_touches t).iff_of (by simp [h0, h1, h2, h3, h4, h5])

theorem retryExpires_touches : OnlyTouches [.store, .conv, .supply, .link, .strip, .profile] t (retryExpires t) := by
  unfold retryExpires
  simp
@[simp] theorem onlyTouches_retryExpires (h0 : Block.store ∈ bs) (h1 : Block.conv ∈ bs) (h2 : Block.supply ∈ bs) (h3 : Block.link ∈ bs) (h4 : Block.strip ∈ bs) (h5 : Block.profile ∈ bs) :
    OnlyTouches bs s (retryExpires t) ↔ OnlyTouches bs s t :=
  (retryExpires_touches t).iff_of (by simp [h0, h1, h2, h3, h4, h5])

theorem applyPowerLimit_touches (w : Nat) : OnlyTouches [.store, .conv, .supply, .link, .strip, .profile] t (applyPowerLimit w t) := by
  unfold applyPowerLimit
  simp [apply_ite (OnlyTouches _ _)]
@[simp] theorem onlyTouches_applyPowerLimit (w : Nat) (h0 : Block.store ∈ bs) (h1 : Block.conv ∈ bs) (h2 : Block.supply ∈ bs) (h3 : Block.link ∈ bs) (h4 : Block.strip ∈ bs) (h5 : Block.profile ∈ bs) :
    OnlyTouches bs s (applyPowerLimit w t) ↔ OnlyTouches bs s t :=
  (applyPowerLimit_touches t w).iff_of (by simp [h0, h1, h2, h3, h4, h5])

theorem pruneTrips_touches : OnlyTouches [.store, .supply] t (pruneTrips t) := by
  unfold pruneTrips
  simp
@[simp] theorem onlyTouches_pruneTrips (h0 : Block.store ∈ bs) (h1 : Block.supply ∈ bs) :
    OnlyTouches bs s (pruneTrips t) ↔ OnlyTouches bs s t :=
  (pruneTrips_touches t).iff_of (by simp [h0, h1])

theorem resolveSupply_touches (v : Nat) : OnlyTouches [.store, .conv, .supply, .link, .strip, .profile] t (resolveSupply v t) := by
  unfold resolveSupply
  simp [apply_ite (OnlyTouches _ _)]
@[simp] theorem onlyTouches_resolveSupply (v : Nat) (h0 : Block.store ∈ bs) (h1 : Block.conv ∈ bs) (h2 : Block.supply ∈ bs) (h3 : Block.link ∈ bs) (h4 : Block.strip ∈ bs) (h5 : Block.profile ∈ bs) :
    OnlyTouches bs s (resolveSupply v t) ↔ OnlyTouches bs s t :=
  (resolveSupply_touches t v).iff_of (by simp [h0, h1, h2, h3, h4, h5])

theorem creditStateNotice_touches (o : CreditState) (x : CreditTrigger) : OnlyTouches [.store, .link, .strip] t (creditStateNotice o x t) := by
  unfold creditStateNotice
  simp
@[simp] theorem onlyTouches_creditStateNotice (o : CreditState) (x : CreditTrigger) (h0 : Block.store ∈ bs) (h1 : Block.link ∈ bs) (h2 : Block.strip ∈ bs) :
    OnlyTouches bs s (creditStateNotice o x t) ↔ OnlyTouches bs s t :=
  (creditStateNotice_touches t o x).iff_of (by simp [h0, h1, h2])

theorem evaluateCredit_touches (x : CreditTrigger) : OnlyTouches [.store, .conv, .credit, .supply, .link, .strip, .profile] t (evaluateCredit x t) := by
  unfold evaluateCredit
  simp [apply_ite (OnlyTouches _ _)]
@[simp] theorem onlyTouches_evaluateCredit (x : CreditTrigger) (h0 : Block.store ∈ bs) (h1 : Block.conv ∈ bs) (h2 : Block.credit ∈ bs) (h3 : Block.supply ∈ bs) (h4 : Block.link ∈ bs) (h5 : Block.strip ∈ bs) (h6 : Block.profile ∈ bs) :
    OnlyTouches bs s (evaluateCredit x t) ↔ OnlyTouches bs s t :=
  (evaluateCredit_touches t x).iff_of (by simp [h0, h1, h2, h3, h4, h5, h6])

theorem energyDebit_touches (r : Nat) : OnlyTouches [.store, .conv, .credit, .supply, .link, .strip, .profile] t (energyDebit r t) := by
  unfold energyDebit
  simp
@[simp] theorem onlyTouches_energyDebit (r : Nat) (h0 : Block.store ∈ bs) (h1 : Block.conv ∈ bs) (h2 : Block.credit ∈ bs) (h3 : Block.supply ∈ bs) (h4 : Block.link ∈ bs) (h5 : Block.strip ∈ bs) (h6 : Block.profile ∈ bs) :
    OnlyTouches bs s (energyDebit r t) ↔ OnlyTouches bs s t :=
  (energyDebit_touches t r).iff_of (by simp [h0, h1, h2, h3, h4, h5, h6])

theorem dailyDebit_touches (a : Nat) : OnlyTouches [.store, .conv, .credit, .supply, .link, .strip, .profile] t (dailyDebit a t) := by
  unfold dailyDebit
  simp
@[simp] theorem onlyTouches_dailyDebit (a : Nat) (h0 : Block.store ∈ bs) (h1 : Block.conv ∈ bs) (h2 : Block.credit ∈ bs) (h3 : Block.supply ∈ bs) (h4 : Block.link ∈ bs) (h5 : Block.strip ∈ bs) (h6 : Block.profile ∈ bs) :
    OnlyTouches bs s (dailyDebit a t) ↔ OnlyTouches bs s t :=
  (dailyDebit_touches t a).iff_of (by simp [h0, h1, h2, h3, h4, h5, h6])

theorem addCredit_touches (v : Nat) : OnlyTouches [.store, .conv, .credit, .supply, .link, .strip, .profile] t (addCredit v t) := by
  unfold addCredit
  simp
@[simp] theorem onlyTouches_addCredit (v : Nat) (h0 : Block.store ∈ bs) (h1 : Block.conv ∈ bs) (h2 : Block.credit ∈ bs) (h3 : Block.supply ∈ bs) (h4 : Block.link ∈ bs) (h5 : Block.strip ∈ bs) (h6 : Block.profile ∈ bs) :
    OnlyTouches bs s (addCredit v t) ↔ OnlyTouches bs s t :=
  (addCredit_touches t v).iff_of (by simp [h0, h1, h2, h3, h4, h5, h6])

theorem setEmergencyAmount_touches (a : Nat) : OnlyTouches [.store, .conv, .credit, .supply, .link, .strip, .profile] t (setEmergencyAmount a t) := by
  unfold setEmergencyAmount
  simp
@[simp] theorem onlyTouches_setEmergencyAmount (a : Nat) (h0 : Block.store ∈ bs) (h1 : Block.conv ∈ bs) (h2 : Block.credit ∈ bs) (h3 : Block.supply ∈ bs) (h4 : Block.link ∈ bs) (h5 : Block.strip ∈ bs) (h6 : Block.profile ∈ bs) :
    OnlyTouches bs s (setEmergencyAmount a t) ↔ OnlyTouches bs s t :=
  (setEmergencyAmount_touches t a).iff_of (by simp [h0, h1, h2, h3, h4, h5, h6])

theorem resetCredit_touches : OnlyTouches [.store, .conv, .credit, .supply, .link, .strip, .profile] t (resetCredit t) := by
  unfold resetCredit
  simp
@[simp] theorem onlyTouches_resetCredit (h0 : Block.store ∈ bs) (h1 : Block.conv ∈ bs) (h2 : Block.credit ∈ bs) (h3 : Block.supply ∈ bs) (h4 : Block.link ∈ bs) (h5 : Block.strip ∈ bs) (h6 : Block.profile ∈ bs) :
    OnlyTouches bs s (resetCredit t) ↔ OnlyTouches bs s t :=
  (resetCredit_touches t).iff_of (by simp [h0, h1, h2, h3, h4, h5, h6])

theorem emergencyNotice_touches (c : Credit) : OnlyTouches [.store, .link, .strip] t (emergencyNotice c t) := by
  unfold emergencyNotice
  simp
@[simp] theorem onlyTouches_emergencyNotice (c : Credit) (h0 : Block.store ∈ bs) (h1 : Block.link ∈ bs) (h2 : Block.strip ∈ bs) :
    OnlyTouches bs s (emergencyNotice c t) ↔ OnlyTouches bs s t :=
  (emergencyNotice_touches t c).iff_of (by simp [h0, h1, h2])

theorem startCredit_touches : OnlyTouches [.store, .conv, .credit, .supply, .link, .strip, .profile] t (startCredit t) := by
  unfold startCredit
  simp
@[simp] theorem onlyTouches_startCredit (h0 : Block.store ∈ bs) (h1 : Block.conv ∈ bs) (h2 : Block.credit ∈ bs) (h3 : Block.supply ∈ bs) (h4 : Block.link ∈ bs) (h5 : Block.strip ∈ bs) (h6 : Block.profile ∈ bs) :
    OnlyTouches bs s (startCredit t) ↔ OnlyTouches bs s t :=
  (startCredit_touches t).iff_of (by simp [h0, h1, h2, h3, h4, h5, h6])

theorem putRecord_touches (k : TamperKind) (r : TamperRecord) : OnlyTouches [.store, .tamper] t (putRecord k r t) := by
  unfold putRecord
  simp
@[simp] theorem onlyTouches_putRecord (k : TamperKind) (r : TamperRecord) (h0 : Block.store ∈ bs) (h1 : Block.tamper ∈ bs) :
    OnlyTouches bs s (putRecord k r t) ↔ OnlyTouches bs s t :=
  (putRecord_touches t k r).iff_of (by simp [h0, h1])

theorem tamperOn_touches (k : TamperKind) (o : Bool) (x : Stamp) (b : TamperStatus) (c : TamperStatus) (n : Nat) (m : List Byte) : OnlyTouches [.store, .link, .strip] t (tamperOn k o x b c n m t) := by
  unfold tamperOn
  simp
@[simp] theorem onlyTouches_tamperOn (k : TamperKind) (o : Bool) (x : Stamp) (b : TamperStatus) (c : TamperStatus) (n : Nat) (m : List Byte) (h0 : Block.store ∈ bs) (h1 : Block.link ∈ bs) (h2 : Block.strip ∈ bs) :
    OnlyTouches bs s (tamperOn k o x b c n m t) ↔ OnlyTouches bs s t :=
  (tamperOn_touches t k o x b c n m).iff_of (by simp [h0, h1, h2])

theorem tamperOff_touches (k : TamperKind) (o : Bool) (x : Stamp) (n : Nat) (f : Option Stamp) (l : Option Stamp) : OnlyTouches [.store, .link, .strip] t (tamperOff k o x n f l t) := by
  unfold tamperOff
  simp
@[simp] theorem onlyTouches_tamperOff (k : TamperKind) (o : Bool) (x : Stamp) (n : Nat) (f : Option Stamp) (l : Option Stamp) (h0 : Block.store ∈ bs) (h1 : Block.link ∈ bs) (h2 : Block.strip ∈ bs) :
    OnlyTouches bs s (tamperOff k o x n f l t) ↔ OnlyTouches bs s t :=
  (tamperOff_touches t k o x n f l).iff_of (by simp [h0, h1, h2])

theorem kindOn_touches (k : TamperKind) (m : List Byte) : OnlyTouches [.store, .conv, .supply, .tamper, .link, .strip, .profile] t (kindOn k m t) := by
  unfold kindOn
  simp [apply_ite (OnlyTouches _ _)]
@[simp] theorem onlyTouches_kindOn (k : TamperKind) (m : List Byte) (h0 : Block.store ∈ bs) (h1 : Block.conv ∈ bs) (h2 : Block.supply ∈ bs) (h3 : Block.tamper ∈ bs) (h4 : Block.link ∈ bs) (h5 : Block.strip ∈ bs) (h6 : Block.profile ∈ bs) :
    OnlyTouches bs s (kindOn k m t) ↔ OnlyTouches bs s t :=
  (kindOn_touches t k m).iff_of (by simp [h0, h1, h2, h3, h4, h5, h6])

theorem kindOff_touches (k : TamperKind) : OnlyTouches [.store, .tamper, .link, .strip] t (kindOff k t) := by
  unfold kindOff
  simp
@[simp] theorem onlyTouches_kindOff (k : TamperKind) (h0 : Block.store ∈ bs) (h1 : Block.tamper ∈ bs) (h2 : Block.link ∈ bs) (h3 : Block.strip ∈ bs) :
    OnlyTouches bs s (kindOff k t) ↔ OnlyTouches bs s t :=
  (kindOff_touches t k).iff_of (by simp [h0, h1, h2, h3])

theorem appendEvent_touches (e : BatteryEvent) : OnlyTouches [.power] t (appendEvent e t) := by
  unfold appendEvent
  simp [apply_ite (OnlyTouches _ _)]
@[simp] theorem onlyTouches_appendEvent (e : BatteryEvent) (h0 : Block.power ∈ bs) :
    OnlyTouches bs s (appendEvent e t) ↔ OnlyTouches bs s t :=
  (appendEvent_touches t e).iff_of (by simp [h0])

theorem switchOnBattery_touches (w : SwitchId) (p : Position) : OnlyTouches [.store, .tamper, .power] t (switchOnBattery w p t) := by
  unfold switchOnBattery
  simp
@[simp] theorem onlyTouches_switchOnBattery (w : SwitchId) (p : Position) (h0 : Block.store ∈ bs) (h1 : Block.tamper ∈ bs) (h2 : Block.power ∈ bs) :
    OnlyTouches bs s (switchOnBattery w p t) ↔ OnlyTouches bs s t :=
  (switchOnBattery_touches t w p).iff_of (by simp [h0, h1, h2])

theorem switchOnMains_touches (w : SwitchId) (p : Position) : OnlyTouches [.store, .conv, .supply, .tamper, .link, .strip, .profile] t (switchOnMains w p t) := by
  unfold switchOnMains
  dsimp only
  simp only [onlyTouches_pageSwitches, List.mem_cons, true_or]
  split <;> simp
@[simp] theorem onlyTouches_switchOnMains (w : SwitchId) (p : Position) (h0 : Block.store ∈ bs) (h1 : Block.conv ∈ bs) (h2 : Block.supply ∈ bs) (h3 : Block.tamper ∈ bs) (h4 : Block.link ∈ bs) (h5 : Block.strip ∈ bs) (h6 : Block.profile ∈ bs) :
    OnlyTouches bs s (switchOnMains w p t) ↔ OnlyTouches bs s t :=
  (switchOnMains_touches t w p).iff_of (by simp [h0, h1, h2, h3, h4, h5, h6])

theorem switchSettles_touches (w : SwitchId) (p : Position) : OnlyTouches [.store, .conv, .supply, .tamper, .link, .strip, .profile, .power] t (switchSettles w p t) := by
  unfold switchSettles
  repeat' split
  all_goals simp
@[simp] theorem onlyTouches_switchSettles (w : SwitchId) (p : Position) (h0 : Block.store ∈ bs) (h1 : Block.conv ∈ bs) (h2 : Block.supply ∈ bs) (h3 : Block.tamper ∈ bs) (h4 : Block.link ∈ bs) (h5 : Block.strip ∈ bs) (h6 : Block.profile ∈ bs) (h7 : Block.power ∈ bs) :
    OnlyTouches bs s (switchSettles w p t) ↔ OnlyTouches bs s t :=
  (switchSettles_touches t w p).iff_of (by simp [h0, h1, h2, h3, h4, h5, h6, h7])

theorem judgeKind_touches (f : Frame) (k : FrameKind) : OnlyTouches [.store, .conv, .supply, .tamper, .link, .strip, .profile] t (judgeKind f k t) := by
  unfold judgeKind
  simp [apply_ite (OnlyTouches _ _)]
@[simp] theorem onlyTouches_judgeKind (f : Frame) (k : FrameKind) (h0 : Block.store ∈ bs) (h1 : Block.conv ∈ bs) (h2 : Block.supply ∈ bs) (h3 : Block.tamper ∈ bs) (h4 : Block.link ∈ bs) (h5 : Block.strip ∈ bs) (h6 : Block.profile ∈ bs) :
    OnlyTouches bs s (judgeKind f k t) ↔ OnlyTouches bs s t :=
  (judgeKind_touches t f k).iff_of (by simp [h0, h1, h2, h3, h4, h5, h6])

theorem tamperFrame_touches (f : Frame) : OnlyTouches [.store, .conv, .supply, .tamper, .link, .strip, .profile] t (tamperFrame f t) := by
  unfold tamperFrame FrameKind.all; simp
@[simp] theorem onlyTouches_tamperFrame (f : Frame) (h0 : Block.store ∈ bs) (h1 : Block.conv ∈ bs) (h2 : Block.supply ∈ bs) (h3 : Block.tamper ∈ bs) (h4 : Block.link ∈ bs) (h5 : Block.strip ∈ bs) (h6 : Block.profile ∈ bs) :
    OnlyTouches bs s (tamperFrame f t) ↔ OnlyTouches bs s t :=
  (tamperFrame_touches t f).iff_of (by simp [h0, h1, h2, h3, h4, h5, h6])

theorem clockBack_touches (m : Nat) : OnlyTouches [.store, .tamper, .link, .strip] t (clockBack m t) := by
  unfold clockBack
  simp
@[simp] theorem onlyTouches_clockBack (m : Nat) (h0 : Block.store ∈ bs) (h1 : Block.tamper ∈ bs) (h2 : Block.link ∈ bs) (h3 : Block.strip ∈ bs) :
    OnlyTouches bs s (clockBack m t) ↔ OnlyTouches bs s t :=
  (clockBack_touches t m).iff_of (by simp [h0, h1, h2, h3])

theorem clearTamper_touches (ks : List TamperKind) (q : Nat) : OnlyTouches [.store, .conv, .supply, .tamper, .link, .strip, .profile] t (clearTamper ks q t) := by
  have h : ∀ (l : List TamperKind) (u : State), OnlyTouches [.store, .tamper] u
      (l.foldl (fun s k => putRecord k (s.tamper.records.get k).cleared s) u) := by
    intro l
    induction l with
    | nil => intro u; exact OnlyTouches.refl _ _
    | cons k l ih => intro u; exact (putRecord_touches _ _ _).trans (ih _)
  have h1 := OnlyTouches.iff_of (bs := [.store, .conv, .supply, .tamper, .link, .strip, .profile]) (s := t)
    (h (clearedKinds t.tamper.records ks) t) (by decide)
  unfold clearTamper; simp [apply_ite (OnlyTouches _ _), h1]
@[simp] theorem onlyTouches_clearTamper (ks : List TamperKind) (q : Nat) (h0 : Block.store ∈ bs) (h1 : Block.conv ∈ bs) (h2 : Block.supply ∈ bs) (h3 : Block.tamper ∈ bs) (h4 : Block.link ∈ bs) (h5 : Block.strip ∈ bs) (h6 : Block.profile ∈ bs) :
    OnlyTouches bs s (clearTamper ks q t) ↔ OnlyTouches bs s t :=
  (clearTamper_touches t ks q).iff_of (by simp [h0, h1, h2, h3, h4, h5, h6])

theorem beginTestPulse_touches : OnlyTouches [.store, .energy] t (beginTestPulse t) := by
  unfold beginTestPulse
  simp
@[simp] theorem onlyTouches_beginTestPulse (h0 : Block.store ∈ bs) (h1 : Block.energy ∈ bs) :
    OnlyTouches bs s (beginTestPulse t) ↔ OnlyTouches bs s t :=
  (beginTestPulse_touches t).iff_of (by simp [h0, h1])

theorem owePulse_touches : OnlyTouches [.store, .energy] t (owePulse t) := by
  unfold owePulse
  simp [apply_ite (OnlyTouches _ _)]
@[simp] theorem onlyTouches_owePulse (h0 : Block.store ∈ bs) (h1 : Block.energy ∈ bs) :
    OnlyTouches bs s (owePulse t) ↔ OnlyTouches bs s t :=
  (owePulse_touches t).iff_of (by simp [h0, h1])

theorem countWattHour_touches : OnlyTouches [.tariff] t (countWattHour t) := by
  unfold countWattHour
  simp
@[simp] theorem onlyTouches_countWattHour (h0 : Block.tariff ∈ bs) :
    OnlyTouches bs s (countWattHour t) ↔ OnlyTouches bs s t :=
  (countWattHour_touches t).iff_of (by simp [h0])

theorem carry_touches : OnlyTouches [.store, .conv, .energy, .tariff, .credit, .supply, .link, .strip, .profile] t (carry t) := by
  unfold carry
  simp
@[simp] theorem onlyTouches_carry (h0 : Block.store ∈ bs) (h1 : Block.conv ∈ bs) (h2 : Block.energy ∈ bs) (h3 : Block.tariff ∈ bs) (h4 : Block.credit ∈ bs) (h5 : Block.supply ∈ bs) (h6 : Block.link ∈ bs) (h7 : Block.strip ∈ bs) (h8 : Block.profile ∈ bs) :
    OnlyTouches bs s (carry t) ↔ OnlyTouches bs s t :=
  (carry_touches t).iff_of (by simp [h0, h1, h2, h3, h4, h5, h6, h7, h8])

theorem carries_touches (n : Nat) : OnlyTouches [.store, .conv, .energy, .tariff, .credit, .supply, .link, .strip, .profile] t (carries n t) := by
  induction n generalizing t with
  | zero => exact OnlyTouches.refl _ _
  | succ n ih => exact (carry_touches t).trans (ih _)
@[simp] theorem onlyTouches_carries (n : Nat) (h0 : Block.store ∈ bs) (h1 : Block.conv ∈ bs) (h2 : Block.energy ∈ bs) (h3 : Block.tariff ∈ bs) (h4 : Block.credit ∈ bs) (h5 : Block.supply ∈ bs) (h6 : Block.link ∈ bs) (h7 : Block.strip ∈ bs) (h8 : Block.profile ∈ bs) :
    OnlyTouches bs s (carries n t) ↔ OnlyTouches bs s t :=
  (carries_touches t n).iff_of (by simp [h0, h1, h2, h3, h4, h5, h6, h7, h8])

theorem energyFrame_touches (f : Frame) : OnlyTouches [.store, .conv, .energy, .tariff, .credit, .supply, .link, .strip, .profile] t (energyFrame f t) := by
  unfold energyFrame
  simp
@[simp] theorem onlyTouches_energyFrame (f : Frame) (h0 : Block.store ∈ bs) (h1 : Block.conv ∈ bs) (h2 : Block.energy ∈ bs) (h3 : Block.tariff ∈ bs) (h4 : Block.credit ∈ bs) (h5 : Block.supply ∈ bs) (h6 : Block.link ∈ bs) (h7 : Block.strip ∈ bs) (h8 : Block.profile ∈ bs) :
    OnlyTouches bs s (energyFrame f t) ↔ OnlyTouches bs s t :=
  (energyFrame_touches t f).iff_of (by simp [h0, h1, h2, h3, h4, h5, h6, h7, h8])

theorem pulseHighEnds_touches : OnlyTouches [.energy] t (pulseHighEnds t) := by
  unfold pulseHighEnds
  simp
@[simp] theorem onlyTouches_pulseHighEnds (h0 : Block.energy ∈ bs) :
    OnlyTouches bs s (pulseHighEnds t) ↔ OnlyTouches bs s t :=
  (pulseHighEnds_touches t).iff_of (by simp [h0])

theorem pulseGapEnds_touches : OnlyTouches [.store, .energy] t (pulseGapEnds t) := by
  unfold pulseGapEnds
  simp [apply_ite (OnlyTouches _ _)]
@[simp] theorem onlyTouches_pulseGapEnds (h0 : Block.store ∈ bs) (h1 : Block.energy ∈ bs) :
    OnlyTouches bs s (pulseGapEnds t) ↔ OnlyTouches bs s t :=
  (pulseGapEnds_touches t).iff_of (by simp [h0, h1])

theorem discardBacklog_touches : OnlyTouches [.energy] t (discardBacklog t) := by
  unfold discardBacklog
  simp
@[simp] theorem onlyTouches_discardBacklog (h0 : Block.energy ∈ bs) :
    OnlyTouches bs s (discardBacklog t) ↔ OnlyTouches bs s t :=
  (discardBacklog_touches t).iff_of (by simp [h0])

theorem activateTariff_touches (r : Tariff) (x : TariffSource) : OnlyTouches [.store, .tariff, .link, .strip] t (activateTariff r x t) := by
  unfold activateTariff
  simp
@[simp] theorem onlyTouches_activateTariff (r : Tariff) (x : TariffSource) (h0 : Block.store ∈ bs) (h1 : Block.tariff ∈ bs) (h2 : Block.link ∈ bs) (h3 : Block.strip ∈ bs) :
    OnlyTouches bs s (activateTariff r x t) ↔ OnlyTouches bs s t :=
  (activateTariff_touches t r x).iff_of (by simp [h0, h1, h2, h3])

theorem tariffSecond_touches : OnlyTouches [.store, .tariff, .link, .strip] t (tariffSecond t) := by
  unfold tariffSecond
  repeat' split
  all_goals simp
@[simp] theorem onlyTouches_tariffSecond (h0 : Block.store ∈ bs) (h1 : Block.tariff ∈ bs) (h2 : Block.link ∈ bs) (h3 : Block.strip ∈ bs) :
    OnlyTouches bs s (tariffSecond t) ↔ OnlyTouches bs s t :=
  (tariffSecond_touches t).iff_of (by simp [h0, h1, h2, h3])

theorem rollover_touches (r : Tariff) : OnlyTouches [.store, .tariff] t (rollover r t) := by
  unfold rollover
  repeat' split
  all_goals simp [apply_ite (OnlyTouches _ _)]
@[simp] theorem onlyTouches_rollover (r : Tariff) (h0 : Block.store ∈ bs) (h1 : Block.tariff ∈ bs) :
    OnlyTouches bs s (rollover r t) ↔ OnlyTouches bs s t :=
  (rollover_touches t r).iff_of (by simp [h0, h1])

theorem chargeDays_touches (r : Tariff) : OnlyTouches [.store, .conv, .tariff, .credit, .supply, .link, .strip, .profile] t (chargeDays r t) := by
  unfold chargeDays
  repeat' split
  all_goals simp [apply_ite (OnlyTouches _ _)]
@[simp] theorem onlyTouches_chargeDays (r : Tariff) (h0 : Block.store ∈ bs) (h1 : Block.conv ∈ bs) (h2 : Block.tariff ∈ bs) (h3 : Block.credit ∈ bs) (h4 : Block.supply ∈ bs) (h5 : Block.link ∈ bs) (h6 : Block.strip ∈ bs) (h7 : Block.profile ∈ bs) :
    OnlyTouches bs s (chargeDays r t) ↔ OnlyTouches bs s t :=
  (chargeDays_touches t r).iff_of (by simp [h0, h1, h2, h3, h4, h5, h6, h7])

theorem tariffMinute_touches : OnlyTouches [.store, .conv, .tariff, .credit, .supply, .link, .strip, .profile] t (tariffMinute t) := by
  unfold tariffMinute
  repeat' split
  all_goals simp
@[simp] theorem onlyTouches_tariffMinute (h0 : Block.store ∈ bs) (h1 : Block.conv ∈ bs) (h2 : Block.tariff ∈ bs) (h3 : Block.credit ∈ bs) (h4 : Block.supply ∈ bs) (h5 : Block.link ∈ bs) (h6 : Block.strip ∈ bs) (h7 : Block.profile ∈ bs) :
    OnlyTouches bs s (tariffMinute t) ↔ OnlyTouches bs s t :=
  (tariffMinute_touches t).iff_of (by simp [h0, h1, h2, h3, h4, h5, h6, h7])

theorem takeTariffLoad_touches (n : Fin 16) : OnlyTouches [.store, .tariff, .link] t (takeTariffLoad n t) := by
  unfold takeTariffLoad
  simp [apply_ite (OnlyTouches _ _)]
@[simp] theorem onlyTouches_takeTariffLoad (n : Fin 16) (h0 : Block.store ∈ bs) (h1 : Block.tariff ∈ bs) (h2 : Block.link ∈ bs) :
    OnlyTouches bs s (takeTariffLoad n t) ↔ OnlyTouches bs s t :=
  (takeTariffLoad_touches t n).iff_of (by simp [h0, h1, h2])

theorem installTariff_touches (r : Tariff) : OnlyTouches [.store, .tariff, .link, .strip] t (installTariff r t) := by
  unfold installTariff
  simp [apply_ite (OnlyTouches _ _)]
@[simp] theorem onlyTouches_installTariff (r : Tariff) (h0 : Block.store ∈ bs) (h1 : Block.tariff ∈ bs) (h2 : Block.link ∈ bs) (h3 : Block.strip ∈ bs) :
    OnlyTouches bs s (installTariff r t) ↔ OnlyTouches bs s t :=
  (installTariff_touches t r).iff_of (by simp [h0, h1, h2, h3])

theorem finishLoad_touches (l : Load) : OnlyTouches [.store, .tariff, .link, .strip] t (finishLoad l t) := by
  unfold finishLoad
  repeat' split
  all_goals simp
@[simp] theorem onlyTouches_finishLoad (l : Load) (h0 : Block.store ∈ bs) (h1 : Block.tariff ∈ bs) (h2 : Block.link ∈ bs) (h3 : Block.strip ∈ bs) :
    OnlyTouches bs s (finishLoad l t) ↔ OnlyTouches bs s t :=
  (finishLoad_touches t l).iff_of (by simp [h0, h1, h2, h3])

theorem clockStepNotice_touches (o : Clock) (n : Nat) : OnlyTouches [.store, .link, .strip] t (clockStepNotice o n t) := by
  unfold clockStepNotice
  simp
@[simp] theorem onlyTouches_clockStepNotice (o : Clock) (n : Nat) (h0 : Block.store ∈ bs) (h1 : Block.link ∈ bs) (h2 : Block.strip ∈ bs) :
    OnlyTouches bs s (clockStepNotice o n t) ↔ OnlyTouches bs s t :=
  (clockStepNotice_touches t o n).iff_of (by simp [h0, h1, h2])

theorem setClock_touches (n : Nat) : OnlyTouches [.store, .conv, .clock, .credit, .supply, .tamper, .link, .strip, .profile] t (setClock n t) := by
  unfold setClock
  simp [apply_ite (OnlyTouches _ _)]
@[simp] theorem onlyTouches_setClock (n : Nat) (h0 : Block.store ∈ bs) (h1 : Block.conv ∈ bs) (h2 : Block.clock ∈ bs) (h3 : Block.credit ∈ bs) (h4 : Block.supply ∈ bs) (h5 : Block.tamper ∈ bs) (h6 : Block.link ∈ bs) (h7 : Block.strip ∈ bs) (h8 : Block.profile ∈ bs) :
    OnlyTouches bs s (setClock n t) ↔ OnlyTouches bs s t :=
  (setClock_touches t n).iff_of (by simp [h0, h1, h2, h3, h4, h5, h6, h7, h8])

theorem takeClockSet_touches (n : Fin 16) : OnlyTouches [.store, .conv, .clock, .credit, .supply, .tamper, .link, .strip, .profile] t (takeClockSet n t) := by
  unfold takeClockSet
  simp [apply_ite (OnlyTouches _ _)]
@[simp] theorem onlyTouches_takeClockSet (n : Fin 16) (h0 : Block.store ∈ bs) (h1 : Block.conv ∈ bs) (h2 : Block.clock ∈ bs) (h3 : Block.credit ∈ bs) (h4 : Block.supply ∈ bs) (h5 : Block.tamper ∈ bs) (h6 : Block.link ∈ bs) (h7 : Block.strip ∈ bs) (h8 : Block.profile ∈ bs) :
    OnlyTouches bs s (takeClockSet n t) ↔ OnlyTouches bs s t :=
  (takeClockSet_touches t n).iff_of (by simp [h0, h1, h2, h3, h4, h5, h6, h7, h8])

theorem overCode_touches (f : CodeUnit → CodeUnit) : OnlyTouches [.code] t (overCode f t) := by
  unfold overCode
  simp
@[simp] theorem onlyTouches_overCode (f : CodeUnit → CodeUnit) (h0 : Block.code ∈ bs) :
    OnlyTouches bs s (overCode f t) ↔ OnlyTouches bs s t :=
  (overCode_touches t f).iff_of (by simp [h0])

theorem applyCode_touches (c : Code) : OnlyTouches [.store, .conv, .credit, .supply, .tamper, .link, .strip, .profile] t (applyCode c t) := by
  unfold applyCode
  repeat' split
  all_goals simp
@[simp] theorem onlyTouches_applyCode (c : Code) (h0 : Block.store ∈ bs) (h1 : Block.conv ∈ bs) (h2 : Block.credit ∈ bs) (h3 : Block.supply ∈ bs) (h4 : Block.tamper ∈ bs) (h5 : Block.link ∈ bs) (h6 : Block.strip ∈ bs) (h7 : Block.profile ∈ bs) :
    OnlyTouches bs s (applyCode c t) ↔ OnlyTouches bs s t :=
  (applyCode_touches t c).iff_of (by simp [h0, h1, h2, h3, h4, h5, h6, h7])

theorem acceptCode_touches (c : Code) : OnlyTouches [.store, .conv, .credit, .code, .supply, .tamper, .link, .strip, .profile] t (acceptCode c t) := by
  unfold acceptCode
  simp
@[simp] theorem onlyTouches_acceptCode (c : Code) (h0 : Block.store ∈ bs) (h1 : Block.conv ∈ bs) (h2 : Block.credit ∈ bs) (h3 : Block.code ∈ bs) (h4 : Block.supply ∈ bs) (h5 : Block.tamper ∈ bs) (h6 : Block.link ∈ bs) (h7 : Block.strip ∈ bs) (h8 : Block.profile ∈ bs) :
    OnlyTouches bs s (acceptCode c t) ↔ OnlyTouches bs s t :=
  (acceptCode_touches t c).iff_of (by simp [h0, h1, h2, h3, h4, h5, h6, h7, h8])

theorem settleCode_touches (v : Verdict) (c : Option Code) : OnlyTouches [.store, .conv, .credit, .code, .supply, .tamper, .link, .strip, .profile] t (settleCode v c t) := by
  unfold settleCode
  repeat' split
  all_goals simp
@[simp] theorem onlyTouches_settleCode (v : Verdict) (c : Option Code) (h0 : Block.store ∈ bs) (h1 : Block.conv ∈ bs) (h2 : Block.credit ∈ bs) (h3 : Block.code ∈ bs) (h4 : Block.supply ∈ bs) (h5 : Block.tamper ∈ bs) (h6 : Block.link ∈ bs) (h7 : Block.strip ∈ bs) (h8 : Block.profile ∈ bs) :
    OnlyTouches bs s (settleCode v c t) ↔ OnlyTouches bs s t :=
  (settleCode_touches t v c).iff_of (by simp [h0, h1, h2, h3, h4, h5, h6, h7, h8])

theorem keypadOutcome_touches (e : Entry) (v : Verdict) (d : List Byte) : OnlyTouches [.store, .link, .strip] t (keypadOutcome e v d t) := by
  unfold keypadOutcome
  simp
@[simp] theorem onlyTouches_keypadOutcome (e : Entry) (v : Verdict) (d : List Byte) (h0 : Block.store ∈ bs) (h1 : Block.link ∈ bs) (h2 : Block.strip ∈ bs) :
    OnlyTouches bs s (keypadOutcome e v d t) ↔ OnlyTouches bs s t :=
  (keypadOutcome_touches t e v d).iff_of (by simp [h0, h1, h2])

theorem takeCodeSlip_touches (n : Fin 16) : OnlyTouches [.store, .code, .link] t (takeCodeSlip n t) := by
  unfold takeCodeSlip
  simp [apply_ite (OnlyTouches _ _)]
@[simp] theorem onlyTouches_takeCodeSlip (n : Fin 16) (h0 : Block.store ∈ bs) (h1 : Block.code ∈ bs) (h2 : Block.link ∈ bs) :
    OnlyTouches bs s (takeCodeSlip n t) ↔ OnlyTouches bs s t :=
  (takeCodeSlip_touches t n).iff_of (by simp [h0, h1, h2])

theorem takeSubmission_touches : OnlyTouches [.store, .code] t (takeSubmission t) := by
  unfold takeSubmission
  simp
@[simp] theorem onlyTouches_takeSubmission (h0 : Block.store ∈ bs) (h1 : Block.code ∈ bs) :
    OnlyTouches bs s (takeSubmission t) ↔ OnlyTouches bs s t :=
  (takeSubmission_touches t).iff_of (by simp [h0, h1])

theorem arbitrate_touches : OnlyTouches [.store, .code, .link] t (arbitrate t) := by
  unfold arbitrate
  dsimp only
  repeat' split
  all_goals simp
@[simp] theorem onlyTouches_arbitrate (h0 : Block.store ∈ bs) (h1 : Block.code ∈ bs) (h2 : Block.link ∈ bs) :
    OnlyTouches bs s (arbitrate t) ↔ OnlyTouches bs s t :=
  (arbitrate_touches t).iff_of (by simp [h0, h1, h2])

theorem endHold_touches : OnlyTouches [.store, .code] t (endHold t) := by
  unfold endHold
  simp
@[simp] theorem onlyTouches_endHold (h0 : Block.store ∈ bs) (h1 : Block.code ∈ bs) :
    OnlyTouches bs s (endHold t) ↔ OnlyTouches bs s t :=
  (endHold_touches t).iff_of (by simp [h0, h1])

theorem reportDecode_touches (x : Source) (v : Verdict) (c : Option Code) (r : TamperRecords) : OnlyTouches [.store, .code, .link, .strip] t (reportDecode x v c r t) := by
  unfold reportDecode
  repeat' split
  all_goals simp
@[simp] theorem onlyTouches_reportDecode (x : Source) (v : Verdict) (c : Option Code) (r : TamperRecords) (h0 : Block.store ∈ bs) (h1 : Block.code ∈ bs) (h2 : Block.link ∈ bs) (h3 : Block.strip ∈ bs) :
    OnlyTouches bs s (reportDecode x v c r t) ↔ OnlyTouches bs s t :=
  (reportDecode_touches t x v c r).iff_of (by simp [h0, h1, h2, h3])

theorem finishDecode_touches (x : Source) (l : List Byte) : OnlyTouches [.store, .conv, .credit, .code, .supply, .tamper, .link, .strip, .profile] t (finishDecode x l t) := by
  unfold finishDecode
  simp
@[simp] theorem onlyTouches_finishDecode (x : Source) (l : List Byte) (h0 : Block.store ∈ bs) (h1 : Block.conv ∈ bs) (h2 : Block.credit ∈ bs) (h3 : Block.code ∈ bs) (h4 : Block.supply ∈ bs) (h5 : Block.tamper ∈ bs) (h6 : Block.link ∈ bs) (h7 : Block.strip ∈ bs) (h8 : Block.profile ∈ bs) :
    OnlyTouches bs s (finishDecode x l t) ↔ OnlyTouches bs s t :=
  (finishDecode_touches t x l).iff_of (by simp [h0, h1, h2, h3, h4, h5, h6, h7, h8])

theorem finishKeySet_touches (n : Fin 16) (a : Bool) (b : Bool) : OnlyTouches [.store, .code, .link] t (finishKeySet n a b t) := by
  unfold finishKeySet
  simp [apply_ite (OnlyTouches _ _)]
@[simp] theorem onlyTouches_finishKeySet (n : Fin 16) (a : Bool) (b : Bool) (h0 : Block.store ∈ bs) (h1 : Block.code ∈ bs) (h2 : Block.link ∈ bs) :
    OnlyTouches bs s (finishKeySet n a b t) ↔ OnlyTouches bs s t :=
  (finishKeySet_touches t n a b).iff_of (by simp [h0, h1, h2])

theorem clearLine_touches : OnlyTouches [.code] t (clearLine t) := by
  unfold clearLine
  simp
@[simp] theorem onlyTouches_clearLine (h0 : Block.code ∈ bs) :
    OnlyTouches bs s (clearLine t) ↔ OnlyTouches bs s t :=
  (clearLine_touches t).iff_of (by simp [h0])

theorem submitLine_touches : OnlyTouches [.store, .code] t (submitLine t) := by
  unfold submitLine
  simp [apply_ite (OnlyTouches _ _)]
@[simp] theorem onlyTouches_submitLine (h0 : Block.store ∈ bs) (h1 : Block.code ∈ bs) :
    OnlyTouches bs s (submitLine t) ↔ OnlyTouches bs s t :=
  (submitLine_touches t).iff_of (by simp [h0, h1])

theorem idleExpires_touches : OnlyTouches [.store, .code] t (idleExpires t) := by
  unfold idleExpires
  simp [apply_ite (OnlyTouches _ _)]
@[simp] theorem onlyTouches_idleExpires (h0 : Block.store ∈ bs) (h1 : Block.code ∈ bs) :
    OnlyTouches bs s (idleExpires t) ↔ OnlyTouches bs s t :=
  (idleExpires_touches t).iff_of (by simp [h0, h1])

theorem idleSecond_touches : OnlyTouches [.store, .code] t (idleSecond t) := by
  unfold idleSecond
  simp [apply_ite (OnlyTouches _ _)]
@[simp] theorem onlyTouches_idleSecond (h0 : Block.store ∈ bs) (h1 : Block.code ∈ bs) :
    OnlyTouches bs s (idleSecond t) ↔ OnlyTouches bs s t :=
  (idleSecond_touches t).iff_of (by simp [h0, h1])

theorem endLock_touches : OnlyTouches [.store, .code] t (endLock t) := by
  unfold endLock
  simp
@[simp] theorem onlyTouches_endLock (h0 : Block.store ∈ bs) (h1 : Block.code ∈ bs) :
    OnlyTouches bs s (endLock t) ↔ OnlyTouches bs s t :=
  (endLock_touches t).iff_of (by simp [h0, h1])

theorem lockSecond_touches : OnlyTouches [.store, .code] t (lockSecond t) := by
  unfold lockSecond
  simp [apply_ite (OnlyTouches _ _)]
@[simp] theorem onlyTouches_lockSecond (h0 : Block.store ∈ bs) (h1 : Block.code ∈ bs) :
    OnlyTouches bs s (lockSecond t) ↔ OnlyTouches bs s t :=
  (lockSecond_touches t).iff_of (by simp [h0, h1])

theorem scanRelease_touches (k : Key) : OnlyTouches [.code] t (scanRelease k t) := by
  unfold scanRelease
  simp [apply_ite (OnlyTouches _ _)]
@[simp] theorem onlyTouches_scanRelease (k : Key) (h0 : Block.code ∈ bs) :
    OnlyTouches bs s (scanRelease k t) ↔ OnlyTouches bs s t :=
  (scanRelease_touches t k).iff_of (by simp [h0])

theorem takeSupplyOrder_touches (n : Fin 16) : OnlyTouches [.store, .conv, .supply, .link, .strip, .profile] t (takeSupplyOrder n t) := by
  unfold takeSupplyOrder
  simp [apply_ite (OnlyTouches _ _)]
@[simp] theorem onlyTouches_takeSupplyOrder (n : Fin 16) (h0 : Block.store ∈ bs) (h1 : Block.conv ∈ bs) (h2 : Block.supply ∈ bs) (h3 : Block.link ∈ bs) (h4 : Block.strip ∈ bs) (h5 : Block.profile ∈ bs) :
    OnlyTouches bs s (takeSupplyOrder n t) ↔ OnlyTouches bs s t :=
  (takeSupplyOrder_touches t n).iff_of (by simp [h0, h1, h2, h3, h4, h5])

theorem clearWindows_touches (o : Settings) (g : Settings) : OnlyTouches [.tamper] t (clearWindows o g t) := by
  unfold clearWindows
  simp [apply_ite (OnlyTouches _ _)]
@[simp] theorem onlyTouches_clearWindows (o : Settings) (g : Settings) (h0 : Block.tamper ∈ bs) :
    OnlyTouches bs s (clearWindows o g t) ↔ OnlyTouches bs s t :=
  (clearWindows_touches t o g).iff_of (by simp [h0])

theorem judgeIdle_touches : OnlyTouches [.store, .code, .freeCount] t (judgeIdle t) := by
  unfold judgeIdle
  split
  · split
    · simp
    · split
      · exact freePick_touches _ (by simp) (OnlyTouches.refl _ _) (by simp)
      · exact OnlyTouches.refl _ _
  · exact OnlyTouches.refl _ _
@[simp] theorem onlyTouches_judgeIdle (h0 : Block.store ∈ bs) (h1 : Block.code ∈ bs) (h2 : Block.freeCount ∈ bs) :
    OnlyTouches bs s (judgeIdle t) ↔ OnlyTouches bs s t :=
  (judgeIdle_touches t).iff_of (by simp [h0, h1, h2])

theorem installSettings_touches (g : Settings) : OnlyTouches [.store, .conv, .credit, .code, .supply, .tamper, .link, .strip, .profile, .settings, .freeCount] t (installSettings g t) := by
  unfold installSettings
  simp
@[simp] theorem onlyTouches_installSettings (g : Settings) (h0 : Block.store ∈ bs) (h1 : Block.conv ∈ bs) (h2 : Block.credit ∈ bs) (h3 : Block.code ∈ bs) (h4 : Block.supply ∈ bs) (h5 : Block.tamper ∈ bs) (h6 : Block.link ∈ bs) (h7 : Block.strip ∈ bs) (h8 : Block.profile ∈ bs) (h9 : Block.settings ∈ bs) (h10 : Block.freeCount ∈ bs) :
    OnlyTouches bs s (installSettings g t) ↔ OnlyTouches bs s t :=
  (installSettings_touches t g).iff_of (by simp [h0, h1, h2, h3, h4, h5, h6, h7, h8, h9, h10])

theorem settingsWrite_touches (n : Fin 16) (o : Nat) : OnlyTouches [.store, .conv, .credit, .code, .supply, .tamper, .link, .strip, .profile, .settings, .freeCount] t (settingsWrite n o t) := by
  unfold settingsWrite
  dsimp only
  repeat' split
  all_goals simp
@[simp] theorem onlyTouches_settingsWrite (n : Fin 16) (o : Nat) (h0 : Block.store ∈ bs) (h1 : Block.conv ∈ bs) (h2 : Block.credit ∈ bs) (h3 : Block.code ∈ bs) (h4 : Block.supply ∈ bs) (h5 : Block.tamper ∈ bs) (h6 : Block.link ∈ bs) (h7 : Block.strip ∈ bs) (h8 : Block.profile ∈ bs) (h9 : Block.settings ∈ bs) (h10 : Block.freeCount ∈ bs) :
    OnlyTouches bs s (settingsWrite n o t) ↔ OnlyTouches bs s t :=
  (settingsWrite_touches t n o).iff_of (by simp [h0, h1, h2, h3, h4, h5, h6, h7, h8, h9, h10])

theorem settingsFetch_touches (n : Fin 16) (o : Nat) : OnlyTouches [.store, .link] t (settingsFetch n o t) := by
  unfold settingsFetch
  simp [apply_ite (OnlyTouches _ _)]
@[simp] theorem onlyTouches_settingsFetch (n : Fin 16) (o : Nat) (h0 : Block.store ∈ bs) (h1 : Block.link ∈ bs) :
    OnlyTouches bs s (settingsFetch n o t) ↔ OnlyTouches bs s t :=
  (settingsFetch_touches t n o).iff_of (by simp [h0, h1])

theorem takeSettings_touches (n : Fin 16) : OnlyTouches [.store, .conv, .credit, .code, .supply, .tamper, .link, .strip, .profile, .settings, .freeCount] t (takeSettings n t) := by
  unfold takeSettings
  simp [apply_ite (OnlyTouches _ _)]
@[simp] theorem onlyTouches_takeSettings (n : Fin 16) (h0 : Block.store ∈ bs) (h1 : Block.conv ∈ bs) (h2 : Block.credit ∈ bs) (h3 : Block.code ∈ bs) (h4 : Block.supply ∈ bs) (h5 : Block.tamper ∈ bs) (h6 : Block.link ∈ bs) (h7 : Block.strip ∈ bs) (h8 : Block.profile ∈ bs) (h9 : Block.settings ∈ bs) (h10 : Block.freeCount ∈ bs) :
    OnlyTouches bs s (takeSettings n t) ↔ OnlyTouches bs s t :=
  (takeSettings_touches t n).iff_of (by simp [h0, h1, h2, h3, h4, h5, h6, h7, h8, h9, h10])

theorem takeProfileSetup_touches (n : Fin 16) : OnlyTouches [.store, .link, .strip, .profile] t (takeProfileSetup n t) := by
  unfold takeProfileSetup
  simp [apply_ite (OnlyTouches _ _)]
@[simp] theorem onlyTouches_takeProfileSetup (n : Fin 16) (h0 : Block.store ∈ bs) (h1 : Block.link ∈ bs) (h2 : Block.strip ∈ bs) (h3 : Block.profile ∈ bs) :
    OnlyTouches bs s (takeProfileSetup n t) ↔ OnlyTouches bs s t :=
  (takeProfileSetup_touches t n).iff_of (by simp [h0, h1, h2, h3])

theorem takeCapture_touches (n : Fin 16) : OnlyTouches [.store, .link] t (takeCapture n t) := by
  unfold takeCapture
  simp
@[simp] theorem onlyTouches_takeCapture (n : Fin 16) (h0 : Block.store ∈ bs) (h1 : Block.link ∈ bs) :
    OnlyTouches bs s (takeCapture n t) ↔ OnlyTouches bs s t :=
  (takeCapture_touches t n).iff_of (by simp [h0, h1])

theorem takeUnknown_touches (n : Fin 16) : OnlyTouches [.store, .link] t (takeUnknown n t) := by
  unfold takeUnknown
  simp
@[simp] theorem onlyTouches_takeUnknown (n : Fin 16) (h0 : Block.store ∈ bs) (h1 : Block.link ∈ bs) :
    OnlyTouches bs s (takeUnknown n t) ↔ OnlyTouches bs s t :=
  (takeUnknown_touches t n).iff_of (by simp [h0, h1])

theorem takeSlip_touches (n : Fin 16) : OnlyTouches [.store, .conv, .clock, .tariff, .credit, .code, .supply, .tamper, .link, .strip, .profile, .settings, .freeCount] t (takeSlip n t) := by
  unfold takeSlip
  repeat' split
  all_goals simp
@[simp] theorem onlyTouches_takeSlip (n : Fin 16) (h0 : Block.store ∈ bs) (h1 : Block.conv ∈ bs) (h2 : Block.clock ∈ bs) (h3 : Block.tariff ∈ bs) (h4 : Block.credit ∈ bs) (h5 : Block.code ∈ bs) (h6 : Block.supply ∈ bs) (h7 : Block.tamper ∈ bs) (h8 : Block.link ∈ bs) (h9 : Block.strip ∈ bs) (h10 : Block.profile ∈ bs) (h11 : Block.settings ∈ bs) (h12 : Block.freeCount ∈ bs) :
    OnlyTouches bs s (takeSlip n t) ↔ OnlyTouches bs s t :=
  (takeSlip_touches t n).iff_of (by simp [h0, h1, h2, h3, h4, h5, h6, h7, h8, h9, h10, h11, h12])

theorem putSlipState_touches (n : Fin 16) (x : SlipState) : OnlyTouches [.store] t (putSlipState n x t) := by
  unfold putSlipState
  simp
@[simp] theorem onlyTouches_putSlipState (n : Fin 16) (x : SlipState) (h0 : Block.store ∈ bs) :
    OnlyTouches bs s (putSlipState n x t) ↔ OnlyTouches bs s t :=
  (putSlipState_touches t n x).iff_of (by simp [h0])

theorem postSlip_touches (n : Fin 16) : OnlyTouches [.store, .conv, .clock, .tariff, .credit, .code, .supply, .tamper, .link, .strip, .profile, .settings, .freeCount] t (postSlip n t) := by
  unfold postSlip
  simp [apply_ite (OnlyTouches _ _)]
@[simp] theorem onlyTouches_postSlip (n : Fin 16) (h0 : Block.store ∈ bs) (h1 : Block.conv ∈ bs) (h2 : Block.clock ∈ bs) (h3 : Block.tariff ∈ bs) (h4 : Block.credit ∈ bs) (h5 : Block.code ∈ bs) (h6 : Block.supply ∈ bs) (h7 : Block.tamper ∈ bs) (h8 : Block.link ∈ bs) (h9 : Block.strip ∈ bs) (h10 : Block.profile ∈ bs) (h11 : Block.settings ∈ bs) (h12 : Block.freeCount ∈ bs) :
    OnlyTouches bs s (postSlip n t) ↔ OnlyTouches bs s t :=
  (postSlip_touches t n).iff_of (by simp [h0, h1, h2, h3, h4, h5, h6, h7, h8, h9, h10, h11, h12])

theorem drainLoads_touches (n : Nat) : OnlyTouches [.store, .tariff, .link] t (drainLoads n t) := by
  induction n generalizing t with
  | zero => exact OnlyTouches.refl _ _
  | succ n ih =>
    unfold drainLoads
    split
    · exact OnlyTouches.refl _ _
    · split
      · exact (takeTariffLoad_touches _ _).trans (ih _)
      · exact OnlyTouches.refl _ _
@[simp] theorem onlyTouches_drainLoads (n : Nat) (h0 : Block.store ∈ bs) (h1 : Block.tariff ∈ bs) (h2 : Block.link ∈ bs) :
    OnlyTouches bs s (drainLoads n t) ↔ OnlyTouches bs s t :=
  (drainLoads_touches t n).iff_of (by simp [h0, h1, h2])

theorem putByte_touches (a : Nat) (b : Byte) : OnlyTouches [.store] t (putByte a b t) := by
  unfold putByte
  simp
@[simp] theorem onlyTouches_putByte (a : Nat) (b : Byte) (h0 : Block.store ∈ bs) :
    OnlyTouches bs s (putByte a b t) ↔ OnlyTouches bs s t :=
  (putByte_touches t a b).iff_of (by simp [h0])

theorem hostState_touches (n : Fin 16) (b : Byte) : OnlyTouches [.store, .conv, .clock, .tariff, .credit, .code, .supply, .tamper, .link, .strip, .profile, .settings, .freeCount] t (hostState n b t) := by
  unfold hostState
  repeat' split
  all_goals simp
@[simp] theorem onlyTouches_hostState (n : Fin 16) (b : Byte) (h0 : Block.store ∈ bs) (h1 : Block.conv ∈ bs) (h2 : Block.clock ∈ bs) (h3 : Block.tariff ∈ bs) (h4 : Block.credit ∈ bs) (h5 : Block.code ∈ bs) (h6 : Block.supply ∈ bs) (h7 : Block.tamper ∈ bs) (h8 : Block.link ∈ bs) (h9 : Block.strip ∈ bs) (h10 : Block.profile ∈ bs) (h11 : Block.settings ∈ bs) (h12 : Block.freeCount ∈ bs) :
    OnlyTouches bs s (hostState n b t) ↔ OnlyTouches bs s t :=
  (hostState_touches t n b).iff_of (by simp [h0, h1, h2, h3, h4, h5, h6, h7, h8, h9, h10, h11, h12])

theorem hostByte_touches (a : Nat) (b : Byte) : OnlyTouches [.store, .conv, .clock, .tariff, .credit, .code, .supply, .tamper, .link, .strip, .profile, .settings, .freeCount] t (hostByte a b t) := by
  unfold hostByte
  simp [apply_ite (OnlyTouches _ _)]
@[simp] theorem onlyTouches_hostByte (a : Nat) (b : Byte) (h0 : Block.store ∈ bs) (h1 : Block.conv ∈ bs) (h2 : Block.clock ∈ bs) (h3 : Block.tariff ∈ bs) (h4 : Block.credit ∈ bs) (h5 : Block.code ∈ bs) (h6 : Block.supply ∈ bs) (h7 : Block.tamper ∈ bs) (h8 : Block.link ∈ bs) (h9 : Block.strip ∈ bs) (h10 : Block.profile ∈ bs) (h11 : Block.settings ∈ bs) (h12 : Block.freeCount ∈ bs) :
    OnlyTouches bs s (hostByte a b t) ↔ OnlyTouches bs s t :=
  (hostByte_touches t a b).iff_of (by simp [h0, h1, h2, h3, h4, h5, h6, h7, h8, h9, h10, h11, h12])

theorem hostBytes_touches (a : Nat) (l : List Byte) : OnlyTouches [.store, .conv, .clock, .tariff, .credit, .code, .supply, .tamper, .link, .strip, .profile, .settings, .freeCount] t (hostBytes a l t) := by
  induction l generalizing a t with
  | nil => exact OnlyTouches.refl _ _
  | cons b l ih => exact (hostByte_touches _ _ _).trans (ih _ _)
@[simp] theorem onlyTouches_hostBytes (a : Nat) (l : List Byte) (h0 : Block.store ∈ bs) (h1 : Block.conv ∈ bs) (h2 : Block.clock ∈ bs) (h3 : Block.tariff ∈ bs) (h4 : Block.credit ∈ bs) (h5 : Block.code ∈ bs) (h6 : Block.supply ∈ bs) (h7 : Block.tamper ∈ bs) (h8 : Block.link ∈ bs) (h9 : Block.strip ∈ bs) (h10 : Block.profile ∈ bs) (h11 : Block.settings ∈ bs) (h12 : Block.freeCount ∈ bs) :
    OnlyTouches bs s (hostBytes a l t) ↔ OnlyTouches bs s t :=
  (hostBytes_touches t a l).iff_of (by simp [h0, h1, h2, h3, h4, h5, h6, h7, h8, h9, h10, h11, h12])

theorem withDataOut_touches (l : List Byte) : OnlyTouches [.link] t (withDataOut l t) := by
  unfold withDataOut
  simp
@[simp] theorem onlyTouches_withDataOut (l : List Byte) (h0 : Block.link ∈ bs) :
    OnlyTouches bs s (withDataOut l t) ↔ OnlyTouches bs s t :=
  (withDataOut_touches t l).iff_of (by simp [h0])

theorem storeWrite_touches (a : Nat) (l : List Byte) : OnlyTouches [.store, .conv, .clock, .tariff, .credit, .code, .supply, .tamper, .link, .strip, .profile, .settings, .freeCount] t (storeWrite a l t) := by
  unfold storeWrite
  simp [apply_ite (OnlyTouches _ _)]
@[simp] theorem onlyTouches_storeWrite (a : Nat) (l : List Byte) (h0 : Block.store ∈ bs) (h1 : Block.conv ∈ bs) (h2 : Block.clock ∈ bs) (h3 : Block.tariff ∈ bs) (h4 : Block.credit ∈ bs) (h5 : Block.code ∈ bs) (h6 : Block.supply ∈ bs) (h7 : Block.tamper ∈ bs) (h8 : Block.link ∈ bs) (h9 : Block.strip ∈ bs) (h10 : Block.profile ∈ bs) (h11 : Block.settings ∈ bs) (h12 : Block.freeCount ∈ bs) :
    OnlyTouches bs s (storeWrite a l t) ↔ OnlyTouches bs s t :=
  (storeWrite_touches t a l).iff_of (by simp [h0, h1, h2, h3, h4, h5, h6, h7, h8, h9, h10, h11, h12])

theorem postFilled_touches (n : Fin 16) (k : Byte) (l : List Byte) : OnlyTouches [.store, .conv, .clock, .tariff, .credit, .code, .supply, .tamper, .link, .strip, .profile, .settings, .freeCount] t (postFilled n k l t) := by
  unfold postFilled
  simp [apply_ite (OnlyTouches _ _)]
@[simp] theorem onlyTouches_postFilled (n : Fin 16) (k : Byte) (l : List Byte) (h0 : Block.store ∈ bs) (h1 : Block.conv ∈ bs) (h2 : Block.clock ∈ bs) (h3 : Block.tariff ∈ bs) (h4 : Block.credit ∈ bs) (h5 : Block.code ∈ bs) (h6 : Block.supply ∈ bs) (h7 : Block.tamper ∈ bs) (h8 : Block.link ∈ bs) (h9 : Block.strip ∈ bs) (h10 : Block.profile ∈ bs) (h11 : Block.settings ∈ bs) (h12 : Block.freeCount ∈ bs) :
    OnlyTouches bs s (postFilled n k l t) ↔ OnlyTouches bs s t :=
  (postFilled_touches t n k l).iff_of (by simp [h0, h1, h2, h3, h4, h5, h6, h7, h8, h9, h10, h11, h12])

theorem acknowledge_touches (m : BitVec 9) : OnlyTouches [.link] t (acknowledge m t) := by
  unfold acknowledge
  simp
@[simp] theorem onlyTouches_acknowledge (m : BitVec 9) (h0 : Block.link ∈ bs) :
    OnlyTouches bs s (acknowledge m t) ↔ OnlyTouches bs s t :=
  (acknowledge_touches t m).iff_of (by simp [h0])

theorem writeAconf_touches (v : Nat) : OnlyTouches [.link] t (writeAconf v t) := by
  unfold writeAconf
  simp
@[simp] theorem onlyTouches_writeAconf (v : Nat) (h0 : Block.link ∈ bs) :
    OnlyTouches bs s (writeAconf v t) ↔ OnlyTouches bs s t :=
  (writeAconf_touches t v).iff_of (by simp [h0])

theorem linkReset_touches : OnlyTouches [.store, .tariff, .code, .link, .strip, .profile] t (linkReset t) := by
  unfold linkReset
  simp
@[simp] theorem onlyTouches_linkReset (h0 : Block.store ∈ bs) (h1 : Block.tariff ∈ bs) (h2 : Block.code ∈ bs) (h3 : Block.link ∈ bs) (h4 : Block.strip ∈ bs) (h5 : Block.profile ∈ bs) :
    OnlyTouches bs s (linkReset t) ↔ OnlyTouches bs s t :=
  (linkReset_touches t).iff_of (by simp [h0, h1, h2, h3, h4, h5])

theorem control_touches (v : Nat) : OnlyTouches [.store, .tariff, .code, .link, .strip, .profile] t (control v t) := by
  unfold control
  simp [apply_ite (OnlyTouches _ _)]
@[simp] theorem onlyTouches_control (v : Nat) (h0 : Block.store ∈ bs) (h1 : Block.tariff ∈ bs) (h2 : Block.code ∈ bs) (h3 : Block.link ∈ bs) (h4 : Block.strip ∈ bs) (h5 : Block.profile ∈ bs) :
    OnlyTouches bs s (control v t) ↔ OnlyTouches bs s t :=
  (control_touches t v).iff_of (by simp [h0, h1, h2, h3, h4, h5])

theorem regWrite_touches (a : Nat) (l : List Byte) : OnlyTouches [.store, .tariff, .code, .link, .strip, .profile] t (regWrite a l t) := by
  unfold regWrite
  repeat' split
  all_goals simp
@[simp] theorem onlyTouches_regWrite (a : Nat) (l : List Byte) (h0 : Block.store ∈ bs) (h1 : Block.tariff ∈ bs) (h2 : Block.code ∈ bs) (h3 : Block.link ∈ bs) (h4 : Block.strip ∈ bs) (h5 : Block.profile ∈ bs) :
    OnlyTouches bs s (regWrite a l t) ↔ OnlyTouches bs s t :=
  (regWrite_touches t a l).iff_of (by simp [h0, h1, h2, h3, h4, h5])

theorem regRead_touches (a : Nat) (n : Nat) : OnlyTouches [.link] t (regRead a n t) := by
  unfold regRead
  simp [apply_ite (OnlyTouches _ _)]
@[simp] theorem onlyTouches_regRead (a : Nat) (n : Nat) (h0 : Block.link ∈ bs) :
    OnlyTouches bs s (regRead a n t) ↔ OnlyTouches bs s t :=
  (regRead_touches t a n).iff_of (by simp [h0])

theorem overPower_touches (f : Power → Power) : OnlyTouches [.power] t (overPower f t) := by
  unfold overPower
  simp
@[simp] theorem onlyTouches_overPower (f : Power → Power) (h0 : Block.power ∈ bs) :
    OnlyTouches bs s (overPower f t) ↔ OnlyTouches bs s t :=
  (overPower_touches t f).iff_of (by simp [h0])

theorem gather_touches (e : Nat) (m : Means) : OnlyTouches [.front] t (gather e m t) := by
  unfold gather
  simp
@[simp] theorem onlyTouches_gather (e : Nat) (m : Means) (h0 : Block.front ∈ bs) :
    OnlyTouches bs s (gather e m t) ↔ OnlyTouches bs s t :=
  (gather_touches t e m).iff_of (by simp [h0])

theorem putFrame_touches (f : Frame) : OnlyTouches [.front, .conv] t (putFrame f t) := by
  unfold putFrame
  simp
@[simp] theorem onlyTouches_putFrame (f : Frame) (h0 : Block.front ∈ bs) (h1 : Block.conv ∈ bs) :
    OnlyTouches bs s (putFrame f t) ↔ OnlyTouches bs s t :=
  (putFrame_touches t f).iff_of (by simp [h0, h1])

theorem batteryFrame_touches (f : Frame) : OnlyTouches [.store, .link, .strip, .power] t (batteryFrame f t) := by
  unfold batteryFrame
  repeat' split
  all_goals simp
@[simp] theorem onlyTouches_batteryFrame (f : Frame) (h0 : Block.store ∈ bs) (h1 : Block.link ∈ bs) (h2 : Block.strip ∈ bs) (h3 : Block.power ∈ bs) :
    OnlyTouches bs s (batteryFrame f t) ↔ OnlyTouches bs s t :=
  (batteryFrame_touches t f).iff_of (by simp [h0, h1, h2, h3])

theorem closeFinalFrame_touches (e : Nat) (m : Means) : OnlyTouches [.store, .front, .conv, .energy, .tariff, .credit, .supply, .tamper, .link, .strip, .profile, .power] t (closeFinalFrame e m t) := by
  unfold closeFinalFrame
  simp
@[simp] theorem onlyTouches_closeFinalFrame (e : Nat) (m : Means) (h0 : Block.store ∈ bs) (h1 : Block.front ∈ bs) (h2 : Block.conv ∈ bs) (h3 : Block.energy ∈ bs) (h4 : Block.tariff ∈ bs) (h5 : Block.credit ∈ bs) (h6 : Block.supply ∈ bs) (h7 : Block.tamper ∈ bs) (h8 : Block.link ∈ bs) (h9 : Block.strip ∈ bs) (h10 : Block.profile ∈ bs) (h11 : Block.power ∈ bs) :
    OnlyTouches bs s (closeFinalFrame e m t) ↔ OnlyTouches bs s t :=
  (closeFinalFrame_touches t e m).iff_of (by simp [h0, h1, h2, h3, h4, h5, h6, h7, h8, h9, h10, h11])

theorem beginHoldup_touches (r : EntryReason) : OnlyTouches [.store, .link, .strip, .power] t (beginHoldup r t) := by
  unfold beginHoldup
  simp
@[simp] theorem onlyTouches_beginHoldup (r : EntryReason) (h0 : Block.store ∈ bs) (h1 : Block.link ∈ bs) (h2 : Block.strip ∈ bs) (h3 : Block.power ∈ bs) :
    OnlyTouches bs s (beginHoldup r t) ↔ OnlyTouches bs s t :=
  (beginHoldup_touches t r).iff_of (by simp [h0, h1, h2, h3])

theorem supplyHoldup_touches : OnlyTouches [.supply] t (supplyHoldup t) := by
  unfold supplyHoldup
  simp [apply_ite (OnlyTouches _ _)]
@[simp] theorem onlyTouches_supplyHoldup (h0 : Block.supply ∈ bs) :
    OnlyTouches bs s (supplyHoldup t) ↔ OnlyTouches bs s t :=
  (supplyHoldup_touches t).iff_of (by simp [h0])

theorem cutKeySet_touches : OnlyTouches [.code, .freeCount] t (cutKeySet t) := by
  unfold cutKeySet
  split
  · exact freePick_touches _ (by simp) (OnlyTouches.refl _ _) (by simp)
  · exact OnlyTouches.refl _ _
@[simp] theorem onlyTouches_cutKeySet (h0 : Block.code ∈ bs) (h1 : Block.freeCount ∈ bs) :
    OnlyTouches bs s (cutKeySet t) ↔ OnlyTouches bs s t :=
  (cutKeySet_touches t).iff_of (by simp [h0, h1])

theorem holdupWork_touches : OnlyTouches [.front, .conv, .energy, .tariff, .code, .supply, .profile, .freeCount] t (holdupWork t) := by
  unfold holdupWork
  simp
@[simp] theorem onlyTouches_holdupWork (h0 : Block.front ∈ bs) (h1 : Block.conv ∈ bs) (h2 : Block.energy ∈ bs) (h3 : Block.tariff ∈ bs) (h4 : Block.code ∈ bs) (h5 : Block.supply ∈ bs) (h6 : Block.profile ∈ bs) (h7 : Block.freeCount ∈ bs) :
    OnlyTouches bs s (holdupWork t) ↔ OnlyTouches bs s t :=
  (holdupWork_touches t).iff_of (by simp [h0, h1, h2, h3, h4, h5, h6, h7])

theorem loseMains_touches (e : Nat) (m : Means) : OnlyTouches [.store, .front, .conv, .energy, .tariff, .credit, .code, .supply, .tamper, .link, .strip, .profile, .power, .freeCount] t (loseMains e m t) := by
  unfold loseMains
  simp [apply_ite (OnlyTouches _ _)]
@[simp] theorem onlyTouches_loseMains (e : Nat) (m : Means) (h0 : Block.store ∈ bs) (h1 : Block.front ∈ bs) (h2 : Block.conv ∈ bs) (h3 : Block.energy ∈ bs) (h4 : Block.tariff ∈ bs) (h5 : Block.credit ∈ bs) (h6 : Block.code ∈ bs) (h7 : Block.supply ∈ bs) (h8 : Block.tamper ∈ bs) (h9 : Block.link ∈ bs) (h10 : Block.strip ∈ bs) (h11 : Block.profile ∈ bs) (h12 : Block.power ∈ bs) (h13 : Block.freeCount ∈ bs) :
    OnlyTouches bs s (loseMains e m t) ↔ OnlyTouches bs s t :=
  (loseMains_touches t e m).iff_of (by simp [h0, h1, h2, h3, h4, h5, h6, h7, h8, h9, h10, h11, h12, h13])

theorem pullReset_touches : OnlyTouches [.store, .front, .conv, .energy, .tariff, .code, .supply, .link, .strip, .profile, .power, .freeCount] t (pullReset t) := by
  unfold pullReset
  simp
@[simp] theorem onlyTouches_pullReset (h0 : Block.store ∈ bs) (h1 : Block.front ∈ bs) (h2 : Block.conv ∈ bs) (h3 : Block.energy ∈ bs) (h4 : Block.tariff ∈ bs) (h5 : Block.code ∈ bs) (h6 : Block.supply ∈ bs) (h7 : Block.link ∈ bs) (h8 : Block.strip ∈ bs) (h9 : Block.profile ∈ bs) (h10 : Block.power ∈ bs) (h11 : Block.freeCount ∈ bs) :
    OnlyTouches bs s (pullReset t) ↔ OnlyTouches bs s t :=
  (pullReset_touches t).iff_of (by simp [h0, h1, h2, h3, h4, h5, h6, h7, h8, h9, h10, h11])

theorem powerClock_touches : OnlyTouches [.clock] t (powerClock t) := by
  unfold powerClock
  simp [apply_ite (OnlyTouches _ _)]
@[simp] theorem onlyTouches_powerClock (h0 : Block.clock ∈ bs) :
    OnlyTouches bs s (powerClock t) ↔ OnlyTouches bs s t :=
  (powerClock_touches t).iff_of (by simp [h0])

theorem enterWatch_touches : OnlyTouches [.conv, .power] t (enterWatch t) := by
  unfold enterWatch
  simp
@[simp] theorem onlyTouches_enterWatch (h0 : Block.conv ∈ bs) (h1 : Block.power ∈ bs) :
    OnlyTouches bs s (enterWatch t) ↔ OnlyTouches bs s t :=
  (enterWatch_touches t).iff_of (by simp [h0, h1])

theorem loseDomain_touches : OnlyTouches [.clock, .tamper, .power] t (loseDomain t) := by
  unfold loseDomain
  simp
@[simp] theorem onlyTouches_loseDomain (h0 : Block.clock ∈ bs) (h1 : Block.tamper ∈ bs) (h2 : Block.power ∈ bs) :
    OnlyTouches bs s (loseDomain t) ↔ OnlyTouches bs s t :=
  (loseDomain_touches t).iff_of (by simp [h0, h1, h2])

theorem enterDark_touches (b : Nat) : OnlyTouches [.conv, .clock, .tamper, .power] t (enterDark b t) := by
  unfold enterDark
  simp
@[simp] theorem onlyTouches_enterDark (b : Nat) (h0 : Block.conv ∈ bs) (h1 : Block.clock ∈ bs) (h2 : Block.tamper ∈ bs) (h3 : Block.power ∈ bs) :
    OnlyTouches bs s (enterDark b t) ↔ OnlyTouches bs s t :=
  (enterDark_touches t b).iff_of (by simp [h0, h1, h2, h3])

theorem watchConversion_touches (v : Nat) : OnlyTouches [.conv, .clock, .tamper, .power] t (watchConversion v t) := by
  unfold watchConversion
  simp [apply_ite (OnlyTouches _ _)]
@[simp] theorem onlyTouches_watchConversion (v : Nat) (h0 : Block.conv ∈ bs) (h1 : Block.clock ∈ bs) (h2 : Block.tamper ∈ bs) (h3 : Block.power ∈ bs) :
    OnlyTouches bs s (watchConversion v t) ↔ OnlyTouches bs s t :=
  (watchConversion_touches t v).iff_of (by simp [h0, h1, h2, h3])

theorem watchChange_touches : OnlyTouches [.conv, .power] t (watchChange t) := by
  unfold watchChange
  simp [apply_ite (OnlyTouches _ _)]
@[simp] theorem onlyTouches_watchChange (h0 : Block.conv ∈ bs) (h1 : Block.power ∈ bs) :
    OnlyTouches bs s (watchChange t) ↔ OnlyTouches bs s t :=
  (watchChange_touches t).iff_of (by simp [h0, h1])

theorem beginStartUp_touches : OnlyTouches [.store, .front, .conv, .energy, .code, .supply, .tamper, .link, .strip, .profile, .power] t (beginStartUp t) := by
  unfold beginStartUp
  simp
@[simp] theorem onlyTouches_beginStartUp (h0 : Block.store ∈ bs) (h1 : Block.front ∈ bs) (h2 : Block.conv ∈ bs) (h3 : Block.energy ∈ bs) (h4 : Block.code ∈ bs) (h5 : Block.supply ∈ bs) (h6 : Block.tamper ∈ bs) (h7 : Block.link ∈ bs) (h8 : Block.strip ∈ bs) (h9 : Block.profile ∈ bs) (h10 : Block.power ∈ bs) :
    OnlyTouches bs s (beginStartUp t) ↔ OnlyTouches bs s t :=
  (beginStartUp_touches t).iff_of (by simp [h0, h1, h2, h3, h4, h5, h6, h7, h8, h9, h10])

theorem factoryState_touches : OnlyTouches [.energy, .clock, .tariff, .credit, .code, .supply, .tamper, .profile, .power, .settings] t (factoryState t) := by
  unfold factoryState
  simp
@[simp] theorem onlyTouches_factoryState (h0 : Block.energy ∈ bs) (h1 : Block.clock ∈ bs) (h2 : Block.tariff ∈ bs) (h3 : Block.credit ∈ bs) (h4 : Block.code ∈ bs) (h5 : Block.supply ∈ bs) (h6 : Block.tamper ∈ bs) (h7 : Block.profile ∈ bs) (h8 : Block.power ∈ bs) (h9 : Block.settings ∈ bs) :
    OnlyTouches bs s (factoryState t) ↔ OnlyTouches bs s t :=
  (factoryState_touches t).iff_of (by simp [h0, h1, h2, h3, h4, h5, h6, h7, h8, h9])

theorem settleFromRecords_touches : OnlyTouches [.tamper] t (settleFromRecords t) := by
  unfold settleFromRecords
  simp
@[simp] theorem onlyTouches_settleFromRecords (h0 : Block.tamper ∈ bs) :
    OnlyTouches bs s (settleFromRecords t) ↔ OnlyTouches bs s t :=
  (settleFromRecords_touches t).iff_of (by simp [h0])

theorem startStep1_touches : OnlyTouches [.energy, .clock, .tariff, .credit, .code, .supply, .tamper, .profile, .power, .settings] t (startStep1 t) := by
  unfold startStep1
  simp [apply_ite (OnlyTouches _ _)]
@[simp] theorem onlyTouches_startStep1 (h0 : Block.energy ∈ bs) (h1 : Block.clock ∈ bs) (h2 : Block.tariff ∈ bs) (h3 : Block.credit ∈ bs) (h4 : Block.code ∈ bs) (h5 : Block.supply ∈ bs) (h6 : Block.tamper ∈ bs) (h7 : Block.profile ∈ bs) (h8 : Block.power ∈ bs) (h9 : Block.settings ∈ bs) :
    OnlyTouches bs s (startStep1 t) ↔ OnlyTouches bs s t :=
  (startStep1_touches t).iff_of (by simp [h0, h1, h2, h3, h4, h5, h6, h7, h8, h9])

theorem startStep2_touches : OnlyTouches [.store, .link, .strip, .power] t (startStep2 t) := by
  unfold startStep2
  simp
@[simp] theorem onlyTouches_startStep2 (h0 : Block.store ∈ bs) (h1 : Block.link ∈ bs) (h2 : Block.strip ∈ bs) (h3 : Block.power ∈ bs) :
    OnlyTouches bs s (startStep2 t) ↔ OnlyTouches bs s t :=
  (startStep2_touches t).iff_of (by simp [h0, h1, h2, h3])

theorem replayEvent_touches (e : BatteryEvent) : OnlyTouches [.store, .link, .strip] t (replayEvent e t) := by
  unfold replayEvent
  repeat' split
  all_goals simp
@[simp] theorem onlyTouches_replayEvent (e : BatteryEvent) (h0 : Block.store ∈ bs) (h1 : Block.link ∈ bs) (h2 : Block.strip ∈ bs) :
    OnlyTouches bs s (replayEvent e t) ↔ OnlyTouches bs s t :=
  (replayEvent_touches t e).iff_of (by simp [h0, h1, h2])

theorem powerBackNotice_touches (n : Nat) : OnlyTouches [.store, .link, .strip] t (powerBackNotice n t) := by
  unfold powerBackNotice
  simp
@[simp] theorem onlyTouches_powerBackNotice (n : Nat) (h0 : Block.store ∈ bs) (h1 : Block.link ∈ bs) (h2 : Block.strip ∈ bs) :
    OnlyTouches bs s (powerBackNotice n t) ↔ OnlyTouches bs s t :=
  (powerBackNotice_touches t n).iff_of (by simp [h0, h1, h2])

theorem watchLostNotice_touches : OnlyTouches [.store, .link, .strip] t (watchLostNotice t) := by
  unfold watchLostNotice
  repeat' split
  all_goals simp
@[simp] theorem onlyTouches_watchLostNotice (h0 : Block.store ∈ bs) (h1 : Block.link ∈ bs) (h2 : Block.strip ∈ bs) :
    OnlyTouches bs s (watchLostNotice t) ↔ OnlyTouches bs s t :=
  (watchLostNotice_touches t).iff_of (by simp [h0, h1, h2])

theorem startStep3_touches : OnlyTouches [.store, .link, .strip, .profile, .power] t (startStep3 t) := by
  have h : ∀ (l : List BatteryEvent) (u : State), OnlyTouches [.store, .link, .strip] u
      (l.foldl (fun s e => replayEvent e s) u) := by
    intro l
    induction l with
    | nil => intro u; exact OnlyTouches.refl _ _
    | cons e l ih => intro u; exact (replayEvent_touches _ _).trans (ih _)
  have h1 := OnlyTouches.iff_of (bs := [.store, .link, .strip, .profile, .power]) (s := t)
    (h t.power.events t) (by decide)
  unfold startStep3; simp [apply_ite (OnlyTouches _ _), h1]
@[simp] theorem onlyTouches_startStep3 (h0 : Block.store ∈ bs) (h1 : Block.link ∈ bs) (h2 : Block.strip ∈ bs) (h3 : Block.profile ∈ bs) (h4 : Block.power ∈ bs) :
    OnlyTouches bs s (startStep3 t) ↔ OnlyTouches bs s t :=
  (startStep3_touches t).iff_of (by simp [h0, h1, h2, h3, h4])

theorem startStep4_touches : OnlyTouches [.store, .conv, .credit, .supply, .link, .strip, .profile, .power] t (startStep4 t) := by
  unfold startStep4
  simp
@[simp] theorem onlyTouches_startStep4 (h0 : Block.store ∈ bs) (h1 : Block.conv ∈ bs) (h2 : Block.credit ∈ bs) (h3 : Block.supply ∈ bs) (h4 : Block.link ∈ bs) (h5 : Block.strip ∈ bs) (h6 : Block.profile ∈ bs) (h7 : Block.power ∈ bs) :
    OnlyTouches bs s (startStep4 t) ↔ OnlyTouches bs s t :=
  (startStep4_touches t).iff_of (by simp [h0, h1, h2, h3, h4, h5, h6, h7])

theorem startStep6_touches : OnlyTouches [.front, .code, .link, .power] t (startStep6 t) := by
  unfold startStep6
  simp
@[simp] theorem onlyTouches_startStep6 (h0 : Block.front ∈ bs) (h1 : Block.code ∈ bs) (h2 : Block.link ∈ bs) (h3 : Block.power ∈ bs) :
    OnlyTouches bs s (startStep6 t) ↔ OnlyTouches bs s t :=
  (startStep6_touches t).iff_of (by simp [h0, h1, h2, h3])

theorem startStep56_touches (v : Nat) : OnlyTouches [.store, .front, .conv, .code, .supply, .link, .strip, .profile, .power] t (startStep56 v t) := by
  unfold startStep56
  simp
@[simp] theorem onlyTouches_startStep56 (v : Nat) (h0 : Block.store ∈ bs) (h1 : Block.front ∈ bs) (h2 : Block.conv ∈ bs) (h3 : Block.code ∈ bs) (h4 : Block.supply ∈ bs) (h5 : Block.link ∈ bs) (h6 : Block.strip ∈ bs) (h7 : Block.profile ∈ bs) (h8 : Block.power ∈ bs) :
    OnlyTouches bs s (startStep56 v t) ↔ OnlyTouches bs s t :=
  (startStep56_touches t v).iff_of (by simp [h0, h1, h2, h3, h4, h5, h6, h7, h8])

theorem tryReverify_touches : OnlyTouches [.store, .front, .conv, .code, .supply, .link, .strip, .profile, .power] t (tryReverify t) := by
  unfold tryReverify
  repeat' split
  all_goals simp
@[simp] theorem onlyTouches_tryReverify (h0 : Block.store ∈ bs) (h1 : Block.front ∈ bs) (h2 : Block.conv ∈ bs) (h3 : Block.code ∈ bs) (h4 : Block.supply ∈ bs) (h5 : Block.link ∈ bs) (h6 : Block.strip ∈ bs) (h7 : Block.profile ∈ bs) (h8 : Block.power ∈ bs) :
    OnlyTouches bs s (tryReverify t) ↔ OnlyTouches bs s t :=
  (tryReverify_touches t).iff_of (by simp [h0, h1, h2, h3, h4, h5, h6, h7, h8])

theorem nextStep_touches : OnlyTouches [.store, .front, .conv, .energy, .clock, .tariff, .credit, .code, .supply, .tamper, .link, .strip, .profile, .power, .settings] t (nextStep t) := by
  unfold nextStep
  repeat' split
  all_goals simp
@[simp] theorem onlyTouches_nextStep (h0 : Block.store ∈ bs) (h1 : Block.front ∈ bs) (h2 : Block.conv ∈ bs) (h3 : Block.energy ∈ bs) (h4 : Block.clock ∈ bs) (h5 : Block.tariff ∈ bs) (h6 : Block.credit ∈ bs) (h7 : Block.code ∈ bs) (h8 : Block.supply ∈ bs) (h9 : Block.tamper ∈ bs) (h10 : Block.link ∈ bs) (h11 : Block.strip ∈ bs) (h12 : Block.profile ∈ bs) (h13 : Block.power ∈ bs) (h14 : Block.settings ∈ bs) :
    OnlyTouches bs s (nextStep t) ↔ OnlyTouches bs s t :=
  (nextStep_touches t).iff_of (by simp [h0, h1, h2, h3, h4, h5, h6, h7, h8, h9, h10, h11, h12, h13, h14])

theorem stepsTo_touches (n : Nat) (k : Nat) : OnlyTouches [.store, .front, .conv, .energy, .clock, .tariff, .credit, .code, .supply, .tamper, .link, .strip, .profile, .power, .settings] t (stepsTo n k t) := by
  induction n generalizing t with
  | zero => exact OnlyTouches.refl _ _
  | succ n ih =>
    unfold stepsTo
    split
    · exact (nextStep_touches _).trans (ih _)
    · exact OnlyTouches.refl _ _
@[simp] theorem onlyTouches_stepsTo (n : Nat) (k : Nat) (h0 : Block.store ∈ bs) (h1 : Block.front ∈ bs) (h2 : Block.conv ∈ bs) (h3 : Block.energy ∈ bs) (h4 : Block.clock ∈ bs) (h5 : Block.tariff ∈ bs) (h6 : Block.credit ∈ bs) (h7 : Block.code ∈ bs) (h8 : Block.supply ∈ bs) (h9 : Block.tamper ∈ bs) (h10 : Block.link ∈ bs) (h11 : Block.strip ∈ bs) (h12 : Block.profile ∈ bs) (h13 : Block.power ∈ bs) (h14 : Block.settings ∈ bs) :
    OnlyTouches bs s (stepsTo n k t) ↔ OnlyTouches bs s t :=
  (stepsTo_touches t n k).iff_of (by simp [h0, h1, h2, h3, h4, h5, h6, h7, h8, h9, h10, h11, h12, h13, h14])

theorem startUp_touches (k : Nat) : OnlyTouches [.store, .front, .conv, .energy, .clock, .tariff, .credit, .code, .supply, .tamper, .link, .strip, .profile, .power, .settings] t (startUp k t) := by
  unfold startUp
  simp
@[simp] theorem onlyTouches_startUp (k : Nat) (h0 : Block.store ∈ bs) (h1 : Block.front ∈ bs) (h2 : Block.conv ∈ bs) (h3 : Block.energy ∈ bs) (h4 : Block.clock ∈ bs) (h5 : Block.tariff ∈ bs) (h6 : Block.credit ∈ bs) (h7 : Block.code ∈ bs) (h8 : Block.supply ∈ bs) (h9 : Block.tamper ∈ bs) (h10 : Block.link ∈ bs) (h11 : Block.strip ∈ bs) (h12 : Block.profile ∈ bs) (h13 : Block.power ∈ bs) (h14 : Block.settings ∈ bs) :
    OnlyTouches bs s (startUp k t) ↔ OnlyTouches bs s t :=
  (startUp_touches t k).iff_of (by simp [h0, h1, h2, h3, h4, h5, h6, h7, h8, h9, h10, h11, h12, h13, h14])

theorem idle_touches : OnlyTouches [.store, .front, .conv, .energy, .clock, .tariff, .credit, .code, .supply, .tamper, .link, .strip, .profile, .power, .settings] t (idle t) := by
  unfold idle
  simp [apply_ite (OnlyTouches _ _)]
@[simp] theorem onlyTouches_idle (h0 : Block.store ∈ bs) (h1 : Block.front ∈ bs) (h2 : Block.conv ∈ bs) (h3 : Block.energy ∈ bs) (h4 : Block.clock ∈ bs) (h5 : Block.tariff ∈ bs) (h6 : Block.credit ∈ bs) (h7 : Block.code ∈ bs) (h8 : Block.supply ∈ bs) (h9 : Block.tamper ∈ bs) (h10 : Block.link ∈ bs) (h11 : Block.strip ∈ bs) (h12 : Block.profile ∈ bs) (h13 : Block.power ∈ bs) (h14 : Block.settings ∈ bs) :
    OnlyTouches bs s (idle t) ↔ OnlyTouches bs s t :=
  (idle_touches t).iff_of (by simp [h0, h1, h2, h3, h4, h5, h6, h7, h8, h9, h10, h11, h12, h13, h14])

theorem holdInReset_touches : OnlyTouches [.conv, .power] t (holdInReset t) := by
  unfold holdInReset
  simp
@[simp] theorem onlyTouches_holdInReset (h0 : Block.conv ∈ bs) (h1 : Block.power ∈ bs) :
    OnlyTouches bs s (holdInReset t) ↔ OnlyTouches bs s t :=
  (holdInReset_touches t).iff_of (by simp [h0, h1])

theorem supplySecond_touches : OnlyTouches [.store, .supply] t (supplySecond t) := by
  unfold supplySecond
  simp
@[simp] theorem onlyTouches_supplySecond (h0 : Block.store ∈ bs) (h1 : Block.supply ∈ bs) :
    OnlyTouches bs s (supplySecond t) ↔ OnlyTouches bs s t :=
  (supplySecond_touches t).iff_of (by simp [h0, h1])

theorem clockPage_touches : OnlyTouches [.store] t (clockPage t) := by
  unfold clockPage
  simp [apply_ite (OnlyTouches _ _)]
@[simp] theorem onlyTouches_clockPage (h0 : Block.store ∈ bs) :
    OnlyTouches bs s (clockPage t) ↔ OnlyTouches bs s t :=
  (clockPage_touches t).iff_of (by simp [h0])

theorem tariffTick_touches (m : Bool) : OnlyTouches [.store, .conv, .tariff, .credit, .supply, .link, .strip, .profile] t (tariffTick m t) := by
  unfold tariffTick
  simp [apply_ite (OnlyTouches _ _)]
@[simp] theorem onlyTouches_tariffTick (m : Bool) (h0 : Block.store ∈ bs) (h1 : Block.conv ∈ bs) (h2 : Block.tariff ∈ bs) (h3 : Block.credit ∈ bs) (h4 : Block.supply ∈ bs) (h5 : Block.link ∈ bs) (h6 : Block.strip ∈ bs) (h7 : Block.profile ∈ bs) :
    OnlyTouches bs s (tariffTick m t) ↔ OnlyTouches bs s t :=
  (tariffTick_touches t m).iff_of (by simp [h0, h1, h2, h3, h4, h5, h6, h7])

theorem recloseWork_touches : OnlyTouches [.store, .conv, .supply, .link, .strip, .profile] t (recloseWork t) := by
  unfold recloseWork
  simp [apply_ite (OnlyTouches _ _)]
@[simp] theorem onlyTouches_recloseWork (h0 : Block.store ∈ bs) (h1 : Block.conv ∈ bs) (h2 : Block.supply ∈ bs) (h3 : Block.link ∈ bs) (h4 : Block.strip ∈ bs) (h5 : Block.profile ∈ bs) :
    OnlyTouches bs s (recloseWork t) ↔ OnlyTouches bs s t :=
  (recloseWork_touches t).iff_of (by simp [h0, h1, h2, h3, h4, h5])

theorem retryWork_touches : OnlyTouches [.store, .conv, .supply, .link, .strip, .profile] t (retryWork t) := by
  unfold retryWork
  simp [apply_ite (OnlyTouches _ _)]
@[simp] theorem onlyTouches_retryWork (h0 : Block.store ∈ bs) (h1 : Block.conv ∈ bs) (h2 : Block.supply ∈ bs) (h3 : Block.link ∈ bs) (h4 : Block.strip ∈ bs) (h5 : Block.profile ∈ bs) :
    OnlyTouches bs s (retryWork t) ↔ OnlyTouches bs s t :=
  (retryWork_touches t).iff_of (by simp [h0, h1, h2, h3, h4, h5])

theorem latchWork_touches : OnlyTouches [.store, .conv, .supply, .link, .strip, .profile] t (latchWork t) := by
  unfold latchWork
  simp [apply_ite (OnlyTouches _ _)]
@[simp] theorem onlyTouches_latchWork (h0 : Block.store ∈ bs) (h1 : Block.conv ∈ bs) (h2 : Block.supply ∈ bs) (h3 : Block.link ∈ bs) (h4 : Block.strip ∈ bs) (h5 : Block.profile ∈ bs) :
    OnlyTouches bs s (latchWork t) ↔ OnlyTouches bs s t :=
  (latchWork_touches t).iff_of (by simp [h0, h1, h2, h3, h4, h5])

theorem calendarEndNotice_touches : OnlyTouches [.store, .link, .strip] t (calendarEndNotice t) := by
  unfold calendarEndNotice
  simp
@[simp] theorem onlyTouches_calendarEndNotice (h0 : Block.store ∈ bs) (h1 : Block.link ∈ bs) (h2 : Block.strip ∈ bs) :
    OnlyTouches bs s (calendarEndNotice t) ↔ OnlyTouches bs s t :=
  (calendarEndNotice_touches t).iff_of (by simp [h0, h1, h2])

theorem tickCounts_touches : OnlyTouches [.store, .clock, .code, .supply] t (tickCounts t) := by
  unfold tickCounts
  simp [apply_ite (OnlyTouches _ _)]
@[simp] theorem onlyTouches_tickCounts (h0 : Block.store ∈ bs) (h1 : Block.clock ∈ bs) (h2 : Block.code ∈ bs) (h3 : Block.supply ∈ bs) :
    OnlyTouches bs s (tickCounts t) ↔ OnlyTouches bs s t :=
  (tickCounts_touches t).iff_of (by simp [h0, h1, h2, h3])

theorem mainsConversion_touches (c : Channel) (v : Nat) : OnlyTouches [.store, .front, .conv, .code, .supply, .link, .strip, .profile, .power] t (mainsConversion c v t) := by
  unfold mainsConversion
  simp
@[simp] theorem onlyTouches_mainsConversion (c : Channel) (v : Nat) (h0 : Block.store ∈ bs) (h1 : Block.front ∈ bs) (h2 : Block.conv ∈ bs) (h3 : Block.code ∈ bs) (h4 : Block.supply ∈ bs) (h5 : Block.link ∈ bs) (h6 : Block.strip ∈ bs) (h7 : Block.profile ∈ bs) (h8 : Block.power ∈ bs) :
    OnlyTouches bs s (mainsConversion c v t) ↔ OnlyTouches bs s t :=
  (mainsConversion_touches t c v).iff_of (by simp [h0, h1, h2, h3, h4, h5, h6, h7, h8])

theorem holdupEnds_touches (k : Nat) : OnlyTouches [.store, .front, .conv, .energy, .clock, .tariff, .credit, .code, .supply, .tamper, .link, .strip, .profile, .power, .settings] t (holdupEnds k t) := by
  unfold holdupEnds
  simp [apply_ite (OnlyTouches _ _)]
@[simp] theorem onlyTouches_holdupEnds (k : Nat) (h0 : Block.store ∈ bs) (h1 : Block.front ∈ bs) (h2 : Block.conv ∈ bs) (h3 : Block.energy ∈ bs) (h4 : Block.clock ∈ bs) (h5 : Block.tariff ∈ bs) (h6 : Block.credit ∈ bs) (h7 : Block.code ∈ bs) (h8 : Block.supply ∈ bs) (h9 : Block.tamper ∈ bs) (h10 : Block.link ∈ bs) (h11 : Block.strip ∈ bs) (h12 : Block.profile ∈ bs) (h13 : Block.power ∈ bs) (h14 : Block.settings ∈ bs) :
    OnlyTouches bs s (holdupEnds k t) ↔ OnlyTouches bs s t :=
  (holdupEnds_touches t k).iff_of (by simp [h0, h1, h2, h3, h4, h5, h6, h7, h8, h9, h10, h11, h12, h13, h14])

/-- Works that each touch only parts in `bs` do so together, in any order; the choice is counted. -/
theorem inAnyOrder_touches {works : List (State → State)} (m : Block.freeCount ∈ bs)
    (each : ∀ w ∈ works, ∀ u, OnlyTouches bs u (w u)) : OnlyTouches bs t (inAnyOrder works t) :=
  inAnyOrder_of (P := OnlyTouches bs t)
    (fun u n h => h.trans ((withFreeCount_touches u n).mono (by simpa using m)))
    (fun w hw u h => h.trans (each w hw u)) (OnlyTouches.refl _ _)

theorem takeEmergency_touches :
    OnlyTouches [.store, .conv, .credit, .supply, .link, .strip, .profile, .freeCount] t (takeEmergency t) := by
  unfold takeEmergency
  split
  · exact freePick_touches _ (by simp) (OnlyTouches.refl _ _) (by simp)
  · exact OnlyTouches.refl _ _

/-- The works by which the blocks take a frame: each is one of four. -/
theorem mem_takingOrders {f : Frame} {s : State} {o : List (State → State)} (h : o ∈ takingOrders f s)
    {w : State → State} (hw : w ∈ o) :
    w = tamperFrame f ∨ w = energyFrame f ∨ w = batteryFrame f ∨ w = fun s => supplyFrame f s.energy.power s := by
  have base : ∀ p ∈ frameOrders f s.supply.machine, ∀ v ∈ p,
      v = tamperFrame f ∨ v = energyFrame f ∨ v = fun s => supplyFrame f s.energy.power s := by
    unfold frameOrders
    split <;> simp
  unfold takingOrders at h
  dsimp only at h
  split at h
  · simp only [List.mem_flatMap] at h
    obtain ⟨p, hp, ho⟩ := h
    rcases List.mem_cons.mp ((mem_insertions_perm ho).mem_iff.mp hw) with g | g
    · exact .inr (.inr (.inl g))
    · rcases base p hp w g with e | e | e <;> simp [e]
  · simp only [List.mem_map] at h
    obtain ⟨p, hp, rfl⟩ := h
    rcases List.mem_append.mp hw with g | g
    · rcases base p hp w g with e | e | e <;> simp [e]
    · simp [List.mem_singleton.mp g]

theorem offerFrame_touches (f : Frame) :
    OnlyTouches [.store, .conv, .energy, .tariff, .credit, .supply, .tamper, .link, .strip, .profile, .power, .freeCount]
      t (offerFrame f t) := by
  have h : OnlyTouches [.store, .conv, .energy, .tariff, .credit, .supply, .tamper, .link, .strip, .profile, .power,
      .freeCount] t (freePick ((takingOrders f t).map fun o => runAll o t) t) := by
    refine freePick_touches _ (by simp) (OnlyTouches.refl _ _) fun r hr => ?_
    obtain ⟨o, ho, rfl⟩ := List.mem_map.mp hr
    refine runAll_of (P := OnlyTouches _ t) (fun w hw u g => g.trans ?_) (OnlyTouches.refl _ _)
    rcases mem_takingOrders ho hw with e | e | e | e <;> rw [e] <;> simp
  unfold offerFrame
  simp [h]

theorem closeFrame_touches (m : Means) :
    OnlyTouches [.store, .front, .conv, .energy, .tariff, .credit, .supply, .tamper, .link, .strip, .profile, .power,
      .freeCount] t (closeFrame m t) := by
  unfold closeFrame
  exact (OnlyTouches.mono (by simp) (by simp : ∀ b ∈ [Block.front, .conv], b ∈ _)).trans
    ((offerFrame_touches _ _).mono (by simp))

theorem mem_tickWorks {day reclose retry : Bool} {w : State → State} (h : w ∈ tickWorks day reclose retry t) :
    w = tariffTick (isMinute t.clock) ∨ w = latchWork ∨ w = recloseWork ∨ w = retryWork ∨
      w = evaluateCredit .minute ∨ w = profileMinute := by
  unfold tickWorks at h
  simp only [List.mem_append] at h
  rcases h with (((h | h) | h) | h) | h <;> split at h <;> simp at h <;> try tauto

theorem offerTick_touches (ended : Bool) :
    OnlyTouches [.store, .conv, .clock, .tariff, .credit, .code, .supply, .link, .strip, .profile, .freeCount] t
      (offerTick ended t) := by
  unfold offerTick
  dsimp only
  refine OnlyTouches.trans (t := if ended then calendarEndNotice (tickCounts t) else tickCounts t) ?_
    (inAnyOrder_touches _ (by simp) fun w hw u => ?_)
  · split <;> simp
  · rcases mem_tickWorks t hw with e | e | e | e | e | e <;> rw [e] <;> simp

end Sys2Proof.Machine
end

