-- ==== Sys2Proof/Laws/Keeps.lean ====
section
/-! SUPPORT. One lemma per shared operation: it keeps the canonical form of the store, and, with the strip's index in
its range, stores only in the places listed. Stated once as a law and once as a rewriting rule. -/

namespace Sys2Proof.Machine

/-- The kinds of place of the store: status page, slips, notice strip, and the rest. -/
inductive Place
  | page | slips | strip | other
deriving DecidableEq

/-- The kind of place an address lies in (R176). -/
def placeOf (a : Nat) : Place :=
  if a < 0x100 then .page
  else if 0x200 ≤ a ∧ a < 0x600 then .slips
  else if 0x600 ≤ a ∧ a < 0x800 then .strip
  else .other

/-- The canonical form is kept; and with the strip's index in range, it stays so and only the listed places change. -/
def Keeps (ps : List Place) (s t : State) : Prop :=
  (memoryWell s → memoryWell t) ∧
  (s.strip.writeIndex ≤ 31 → t.strip.writeIndex ≤ 31 ∧ ∀ a, placeOf a ∉ ps → peek t a = peek s a)

theorem Keeps.refl (ps : List Place) (s : State) : Keeps ps s s := ⟨id, fun h => ⟨h, fun _ _ => rfl⟩⟩

theorem Keeps.trans {ps : List Place} {s t u : State} (h : Keeps ps s t) (g : Keeps ps t u) : Keeps ps s u :=
  ⟨fun w => g.1 (h.1 w), fun w =>
    ⟨(g.2 (h.2 w).1).1, fun a ha => ((g.2 (h.2 w).1).2 a ha).trans ((h.2 w).2 a ha)⟩⟩

theorem Keeps.mono {qs ps : List Place} {s t : State} (h : Keeps qs s t) (m : ∀ b ∈ qs, b ∈ ps) : Keeps ps s t :=
  ⟨h.1, fun w => ⟨(h.2 w).1, fun a ha => (h.2 w).2 a fun hq => ha (m _ hq)⟩⟩

/-- What touches neither the store nor the strip stores nothing. -/
theorem OnlyTouches.keeps {bs : List Block} {s t : State} (h : OnlyTouches bs s t) (m : Block.store ∉ bs)
    (n : Block.strip ∉ bs) : Keeps [] s t := by
  have e : t.store = s.store := h _ m
  have f : t.strip = s.strip := h _ n
  exact ⟨fun w => by unfold memoryWell at *; rw [e]; exact w, fun w => ⟨by rw [f]; exact w, fun a _ => by
    unfold peek; rw [e]⟩⟩

/-- A free choice stores where the results it is made of store. -/
theorem freePick_keeps {ps : List Place} {s : State} (t : State) {results : List State} (base : Keeps ps s t)
    (each : ∀ r ∈ results, Keeps ps s r) : Keeps ps s (freePick results t) :=
  freePick_of (fun _ _ h => h) base each

@[simp] theorem keeps_refl (ps : List Place) (s : State) : Keeps ps s s ↔ True := iff_true_intro (Keeps.refl ps s)

@[simp] theorem length_leBytes (n v : Nat) : (leBytes n v).length = n := by
  induction n generalizing v with
  | zero => rfl
  | succ n ih => simp [leBytes, ih]

@[simp] theorem length_leInt (n : Nat) (v : Int) : (leInt n v).length = n := by simp [leInt]

@[simp] theorem length_padTo (n : Nat) (l : List Byte) : (padTo n l).length = n := by
  simp only [padTo, List.length_append, List.length_take, List.length_replicate]; omega

@[simp] theorem length_optBytes (n : Nat) (v : Option Nat) : (optBytes n v).length = n := by simp [optBytes]

@[simp] theorem length_stampBytes (v : Option Stamp) : (stampBytes v).length = 4 := by simp [stampBytes]

variable {ps : List Place} {s : State} (t : State)

theorem withStore_writeCells_keeps (a : Nat) (l : List Byte)
    (m : ∀ i < l.length, placeOf (a + i) ∈ ps) : Keeps ps t (t.withStore (writeCells t.store a l)) := by
  refine ⟨fun w => wf_writeCells w a l, fun w => ⟨w, fun b hb => ?_⟩⟩
  apply readCell_writeCells_outside
  by_contra hc
  have := m (b - a) (by omega)
  rw [show a + (b - a) = b by omega] at this
  exact hb this

/-- Bytes stored by the part within places of `ps`. -/
theorem poke_within (a : Nat) (l : List Byte) (m : ∀ i < l.length, placeOf (a + i) ∈ ps) :
    Keeps ps t (poke a l t) := by
  unfold poke
  split
  · exact withStore_writeCells_keeps t a l m
  · exact Keeps.refl _ _

/-- Bytes stored below 0x100. -/
theorem poke_page (a : Nat) (l : List Byte) (h : a + l.length ≤ 0x100) : Keeps [.page] t (poke a l t) :=
  poke_within t a l fun i hi => by
    simp only [placeOf, show a + i < 0x100 by omega, if_true, List.mem_cons, true_or]

/-- Bytes stored in a slip. -/
theorem poke_slip (n : Fin 16) (k : Nat) (l : List Byte) (h : k + l.length ≤ 64) :
    Keeps [.slips] t (poke (slipBase n + k) l t) :=
  poke_within t _ l fun i hi => by
    have hn := n.isLt
    unfold slipBase
    have h1 : ¬ 0x200 + 64 * n.val + k + i < 0x100 := by omega
    have h2 : 0x200 ≤ 0x200 + 64 * n.val + k + i ∧ 0x200 + 64 * n.val + k + i < 0x600 := by omega
    simp only [placeOf, h1, h2, if_false, if_true, and_self, List.mem_cons, true_or]

theorem placeOf_mem_all (a : Nat) : placeOf a ∈ [Place.page, .slips, .strip, .other] := by
  cases placeOf a <;> simp

@[simp] theorem keeps_withFront (x : FrontEnd) (h : Keeps ps s t) : Keeps ps s (t.withFront x) :=
  h.trans ((((withFront_touches t x).keeps (by decide) (by decide))).mono (by simp))

@[simp] theorem keeps_withConv (x : Converter) (h : Keeps ps s t) : Keeps ps s (t.withConv x) :=
  h.trans ((((withConv_touches t x).keeps (by decide) (by decide))).mono (by simp))

@[simp] theorem keeps_withEnergy (x : Energy) (h : Keeps ps s t) : Keeps ps s (t.withEnergy x) :=
  h.trans ((((withEnergy_touches t x).keeps (by decide) (by decide))).mono (by simp))

@[simp] theorem keeps_withClock (x : Clock) (h : Keeps ps s t) : Keeps ps s (t.withClock x) :=
  h.trans ((((withClock_touches t x).keeps (by decide) (by decide))).mono (by simp))

@[simp] theorem keeps_withTariff (x : TariffUnit) (h : Keeps ps s t) : Keeps ps s (t.withTariff x) :=
  h.trans ((((withTariff_touches t x).keeps (by decide) (by decide))).mono (by simp))

@[simp] theorem keeps_withCredit (x : Credit) (h : Keeps ps s t) : Keeps ps s (t.withCredit x) :=
  h.trans ((((withCredit_touches t x).keeps (by decide) (by decide))).mono (by simp))

@[simp] theorem keeps_withCode (x : CodeUnit) (h : Keeps ps s t) : Keeps ps s (t.withCode x) :=
  h.trans ((((withCode_touches t x).keeps (by decide) (by decide))).mono (by simp))

@[simp] theorem keeps_withSupply (x : Supply) (h : Keeps ps s t) : Keeps ps s (t.withSupply x) :=
  h.trans ((((withSupply_touches t x).keeps (by decide) (by decide))).mono (by simp))

@[simp] theorem keeps_withTamper (x : Tamper) (h : Keeps ps s t) : Keeps ps s (t.withTamper x) :=
  h.trans ((((withTamper_touches t x).keeps (by decide) (by decide))).mono (by simp))

@[simp] theorem keeps_withLink (x : Link) (h : Keeps ps s t) : Keeps ps s (t.withLink x) :=
  h.trans ((((withLink_touches t x).keeps (by decide) (by decide))).mono (by simp))

@[simp] theorem keeps_withProfile (x : Profile) (h : Keeps ps s t) : Keeps ps s (t.withProfile x) :=
  h.trans ((((withProfile_touches t x).keeps (by decide) (by decide))).mono (by simp))

@[simp] theorem keeps_withPower (x : Power) (h : Keeps ps s t) : Keeps ps s (t.withPower x) :=
  h.trans ((((withPower_touches t x).keeps (by decide) (by decide))).mono (by simp))

@[simp] theorem keeps_withSettings (x : Settings) (h : Keeps ps s t) : Keeps ps s (t.withSettings x) :=
  h.trans ((((withSettings_touches t x).keeps (by decide) (by decide))).mono (by simp))

@[simp] theorem keeps_withPins (x : Pins) (h : Keeps ps s t) : Keeps ps s (t.withPins x) :=
  h.trans ((((withPins_touches t x).keeps (by decide) (by decide))).mono (by simp))

@[simp] theorem keeps_withFreeCount (x : Nat) (h : Keeps ps s t) : Keeps ps s (t.withFreeCount x) :=
  h.trans ((((withFreeCount_touches t x).keeps (by decide) (by decide))).mono (by simp))

@[simp] theorem keeps_withPending (x : List Instr) (h : Keeps ps s t) : Keeps ps s (t.withPending x) :=
  h.trans ((((withPending_touches t x).keeps (by decide) (by decide))).mono (by simp))

theorem poke_keeps (a : Nat) (l : List Byte) : Keeps [.page, .slips, .strip, .other] t (poke a l t) := by
  exact poke_within t _ _ fun _ _ => placeOf_mem_all _
@[simp] theorem keeps_poke (a : Nat) (l : List Byte) (h0 : Place.page ∈ ps) (h1 : Place.slips ∈ ps) (h2 : Place.strip ∈ ps) (h3 : Place.other ∈ ps) (h : Keeps ps s t) : Keeps ps s (poke a l t) :=
  h.trans ((poke_keeps t a l).mono (by simp [h0, h1, h2, h3]))

theorem pageFrame_keeps : Keeps [.page] t (pageFrame t) := by
  unfold pageFrame
  exact poke_page t _ _ (by unfold frameBytes; split <;> simp (maxDischargeDepth := 30))
@[simp] theorem keeps_pageFrame (h0 : Place.page ∈ ps) (h : Keeps ps s t) : Keeps ps s (pageFrame t) :=
  h.trans ((pageFrame_keeps t).mono (by simp [h0]))

theorem pageBacklog_keeps : Keeps [.page] t (pageBacklog t) := by
  unfold pageBacklog
  exact poke_page t _ _ (by simp)
@[simp] theorem keeps_pageBacklog (h0 : Place.page ∈ ps) (h : Keeps ps s t) : Keeps ps s (pageBacklog t) :=
  h.trans ((pageBacklog_keeps t).mono (by simp [h0]))

theorem pageEnergy_keeps : Keeps [.page] t (pageEnergy t) := by
  unfold pageEnergy
  exact (poke_page t _ _ (by simp [energyBytes, accumulatorBytes])).trans (pageBacklog_keeps _)
@[simp] theorem keeps_pageEnergy (h0 : Place.page ∈ ps) (h : Keeps ps s t) : Keeps ps s (pageEnergy t) :=
  h.trans ((pageEnergy_keeps t).mono (by simp [h0]))

theorem pageClock_keeps : Keeps [.page] t (pageClock t) := by
  unfold pageClock
  exact poke_page t _ _ (by simp)
@[simp] theorem keeps_pageClock (h0 : Place.page ∈ ps) (h : Keeps ps s t) : Keeps ps s (pageClock t) :=
  h.trans ((pageClock_keeps t).mono (by simp [h0]))

theorem pageCalendar_keeps : Keeps [.page] t (pageCalendar t) := by
  unfold pageCalendar
  exact poke_page t _ _ (by unfold calendarBytes; split <;> simp (maxDischargeDepth := 30))
@[simp] theorem keeps_pageCalendar (h0 : Place.page ∈ ps) (h : Keeps ps s t) : Keeps ps s (pageCalendar t) :=
  h.trans ((pageCalendar_keeps t).mono (by simp [h0]))

theorem pageTariff_keeps : Keeps [.page] t (pageTariff t) := by
  unfold pageTariff
  exact (poke_page t _ _ (by simp)).trans (poke_page _ _ _ (by simp [tariffBytes]))
@[simp] theorem keeps_pageTariff (h0 : Place.page ∈ ps) (h : Keeps ps s t) : Keeps ps s (pageTariff t) :=
  h.trans ((pageTariff_keeps t).mono (by simp [h0]))

theorem pageBlockBand_keeps : Keeps [.page] t (pageBlockBand t) := by
  unfold pageBlockBand
  exact poke_page t _ _ (by simp)
@[simp] theorem keeps_pageBlockBand (h0 : Place.page ∈ ps) (h : Keeps ps s t) : Keeps ps s (pageBlockBand t) :=
  h.trans ((pageBlockBand_keeps t).mono (by simp [h0]))

theorem pageCredit_keeps : Keeps [.page] t (pageCredit t) := by
  unfold pageCredit
  exact poke_page t _ _ (by simp [creditBytes])
@[simp] theorem keeps_pageCredit (h0 : Place.page ∈ ps) (h : Keeps ps s t) : Keeps ps s (pageCredit t) :=
  h.trans ((pageCredit_keeps t).mono (by simp [h0]))

theorem pageEntry_keeps : Keeps [.page] t (pageEntry t) := by
  unfold pageEntry
  exact poke_page t _ _ (by simp [entryBytes])
@[simp] theorem keeps_pageEntry (h0 : Place.page ∈ ps) (h : Keeps ps s t) : Keeps ps s (pageEntry t) :=
  h.trans ((pageEntry_keeps t).mono (by simp [h0]))

theorem pageCode_keeps : Keeps [.page] t (pageCode t) := by
  unfold pageCode
  exact poke_page t _ _ (by simp [codeBytes])
@[simp] theorem keeps_pageCode (h0 : Place.page ∈ ps) (h : Keeps ps s t) : Keeps ps s (pageCode t) :=
  h.trans ((pageCode_keeps t).mono (by simp [h0]))

theorem pageSupply_keeps : Keeps [.page] t (pageSupply t) := by
  unfold pageSupply
  exact poke_page t _ _ (by simp [supplyBytes])
@[simp] theorem keeps_pageSupply (h0 : Place.page ∈ ps) (h : Keeps ps s t) : Keeps ps s (pageSupply t) :=
  h.trans ((pageSupply_keeps t).mono (by simp [h0]))

theorem pageRecord_keeps (k : TamperKind) : Keeps [.page] t (pageRecord k t) := by
  unfold pageRecord
  exact poke_page t _ _ (by cases k <;> simp [recordBytes, TamperKind.code])
@[simp] theorem keeps_pageRecord (k : TamperKind) (h0 : Place.page ∈ ps) (h : Keeps ps s t) : Keeps ps s (pageRecord k t) :=
  h.trans ((pageRecord_keeps t k).mono (by simp [h0]))

theorem pageWindows_keeps : Keeps [.page] t (pageWindows t) := by
  unfold pageWindows
  exact poke_page t _ _ (by simp [windowBytes])
@[simp] theorem keeps_pageWindows (h0 : Place.page ∈ ps) (h : Keeps ps s t) : Keeps ps s (pageWindows t) :=
  h.trans ((pageWindows_keeps t).mono (by simp [h0]))

theorem pageSwitches_keeps : Keeps [.page] t (pageSwitches t) := by
  unfold pageSwitches
  exact poke_page t _ _ (by simp)
@[simp] theorem keeps_pageSwitches (h0 : Place.page ∈ ps) (h : Keeps ps s t) : Keeps ps s (pageSwitches t) :=
  h.trans ((pageSwitches_keeps t).mono (by simp [h0]))

theorem pageLamp_keeps : Keeps [.page] t (pageLamp t) := by
  unfold pageLamp
  exact poke_page t _ _ (by simp)
@[simp] theorem keeps_pageLamp (h0 : Place.page ∈ ps) (h : Keeps ps s t) : Keeps ps s (pageLamp t) :=
  h.trans ((pageLamp_keeps t).mono (by simp [h0]))

theorem pageStrip_keeps : Keeps [.page] t (pageStrip t) := by
  unfold pageStrip
  exact poke_page t _ _ (by simp)
@[simp] theorem keeps_pageStrip (h0 : Place.page ∈ ps) (h : Keeps ps s t) : Keeps ps s (pageStrip t) :=
  h.trans ((pageStrip_keeps t).mono (by simp [h0]))

theorem pageProfile_keeps : Keeps [.page] t (pageProfile t) := by
  unfold pageProfile
  exact poke_page t _ _ (by simp [profileBytes])
@[simp] theorem keeps_pageProfile (h0 : Place.page ∈ ps) (h : Keeps ps s t) : Keeps ps s (pageProfile t) :=
  h.trans ((pageProfile_keeps t).mono (by simp [h0]))

theorem pageRecords_keeps : Keeps [.page] t (pageRecords t) := by
  unfold pageRecords TamperKind.all; simp (maxDischargeDepth := 30)
@[simp] theorem keeps_pageRecords (h0 : Place.page ∈ ps) (h : Keeps ps s t) : Keeps ps s (pageRecords t) :=
  h.trans ((pageRecords_keeps t).mono (by simp [h0]))

theorem pageAll_keeps : Keeps [.page] t (pageAll t) := by
  unfold pageAll
  simp (maxDischargeDepth := 30)
@[simp] theorem keeps_pageAll (h0 : Place.page ∈ ps) (h : Keeps ps s t) : Keeps ps s (pageAll t) :=
  h.trans ((pageAll_keeps t).mono (by simp [h0]))

theorem attnUpdate_keeps : Keeps [] t (attnUpdate t) :=
  (attnUpdate_touches t).keeps (by decide) (by decide)
@[simp] theorem keeps_attnUpdate (h : Keeps ps s t) : Keeps ps s (attnUpdate t) :=
  h.trans ((attnUpdate_keeps t).mono (by simp))

theorem raise_keeps (c : AttnCause) : Keeps [] t (raise c t) :=
  (raise_touches t c).keeps (by decide) (by decide)
@[simp] theorem keeps_raise (c : AttnCause) (h : Keeps ps s t) : Keeps ps s (raise c t) :=
  h.trans ((raise_keeps t c).mono (by simp))

theorem collide_keeps (a : Nat) : Keeps [] t (collide a t) :=
  (collide_touches t a).keeps (by decide) (by decide)
@[simp] theorem keeps_collide (a : Nat) (h : Keeps ps s t) : Keeps ps s (collide a t) :=
  h.trans ((collide_keeps t a).mono (by simp))

theorem clearCollisionFlag_keeps : Keeps [] t (clearCollisionFlag t) :=
  (clearCollisionFlag_touches t).keeps (by decide) (by decide)
@[simp] theorem keeps_clearCollisionFlag (h : Keeps ps s t) : Keeps ps s (clearCollisionFlag t) :=
  h.trans ((clearCollisionFlag_keeps t).mono (by simp))

theorem completeSlip_keeps (n : Fin 16) (v : Verdict) (r : List Byte) : Keeps [.slips] t (completeSlip n v r t) := by
  unfold completeSlip
  have h1 := poke_slip t n 28 (padTo 36 r) (by simp)
  have h2 := poke_slip (poke (slipBase n + 28) (padTo 36 r) t) n 2 [byteOf v.code] (by simp)
  have h3 := poke_slip (poke (slipBase n + 2) [byteOf v.code] (poke (slipBase n + 28) (padTo 36 r) t)) n 0
    [byteOf SlipState.done.code] (by simp)
  simp only [Nat.add_zero] at h3
  simp [(h1.trans h2).trans h3]
@[simp] theorem keeps_completeSlip (n : Fin 16) (v : Verdict) (r : List Byte) (h0 : Place.slips ∈ ps) (h : Keeps ps s t) : Keeps ps s (completeSlip n v r t) :=
  h.trans ((completeSlip_keeps t n v r).mono (by simp [h0]))

theorem markTaken_keeps (n : Fin 16) : Keeps [.slips] t (markTaken n t) := by
  unfold markTaken
  have h0 : Keeps [.slips] t (t.withLink { t.link with waiting := t.link.waiting.erase n }) := by simp
  have h1 := poke_slip (t.withLink { t.link with waiting := t.link.waiting.erase n }) n 2
    [byteOf Verdict.none.code] (by simp)
  have h2 := poke_slip (poke (slipBase n + 2) [byteOf Verdict.none.code]
    (t.withLink { t.link with waiting := t.link.waiting.erase n })) n 0 [byteOf SlipState.taken.code] (by simp)
  simp only [Nat.add_zero] at h2
  exact (h0.trans h1).trans h2
@[simp] theorem keeps_markTaken (n : Fin 16) (h0 : Place.slips ∈ ps) (h : Keeps ps s t) : Keeps ps s (markTaken n t) :=
  h.trans ((markTaken_keeps t n).mono (by simp [h0]))

theorem writeNotice_keeps (k : NoticeKind) (hd : Nat) (x : Stamp) (d : List Byte) : Keeps [.page, .strip] t (writeNotice k hd x d t) := by
  unfold writeNotice
  split
  · split
    · have h : Keeps [.page, .strip] t ((poke (0x600 + 16 * t.strip.writeIndex) (noticeBytes k hd x d) t).withStrip
          { t.strip with writeIndex := (t.strip.writeIndex + 1) % 32 }) := by
        have hl : (noticeBytes k hd x d).length = 16 := by simp [noticeBytes]
        constructor
        · intro w
          exact (poke_keeps t _ _).1 w
        · intro w
          refine ⟨by show (_ + 1) % 32 ≤ 31; omega, fun a ha => ?_⟩
          have g : Keeps [.page, .strip] t (poke (0x600 + 16 * t.strip.writeIndex) (noticeBytes k hd x d) t) := by
            apply poke_within
            intro i hi
            rw [hl] at hi
            have h1 : ¬ 0x600 + 16 * t.strip.writeIndex + i < 0x100 := by omega
            have h2 : ¬ (0x200 ≤ 0x600 + 16 * t.strip.writeIndex + i ∧
              0x600 + 16 * t.strip.writeIndex + i < 0x600) := by omega
            have h3 : 0x600 ≤ 0x600 + 16 * t.strip.writeIndex + i ∧
              0x600 + 16 * t.strip.writeIndex + i < 0x800 := by omega
            simp [placeOf, h1, h2, h3]
          exact (g.2 w).2 a ha
      simp [h]
    · have h : Keeps [.page, .strip] t (t.withStrip
          { t.strip with dropped := min (t.strip.dropped + 1) 65535 }) := ⟨id, fun w => ⟨w, fun _ _ => rfl⟩⟩
      simp [h]
  · exact Keeps.refl _ _
@[simp] theorem keeps_writeNotice (k : NoticeKind) (hd : Nat) (x : Stamp) (d : List Byte) (h0 : Place.page ∈ ps) (h1 : Place.strip ∈ ps) (h : Keeps ps s t) : Keeps ps s (writeNotice k hd x d t) :=
  h.trans ((writeNotice_keeps t k hd x d).mono (by simp [h0, h1]))

theorem notice_keeps (k : NoticeKind) (hd : Nat) (d : List Byte) : Keeps [.page, .strip] t (notice k hd d t) := by
  unfold notice
  simp (maxDischargeDepth := 30)
@[simp] theorem keeps_notice (k : NoticeKind) (hd : Nat) (d : List Byte) (h0 : Place.page ∈ ps) (h1 : Place.strip ∈ ps) (h : Keeps ps s t) : Keeps ps s (notice k hd d t) :=
  h.trans ((notice_keeps t k hd d).mono (by simp [h0, h1]))

theorem overPeriod_keeps (f : Period → Period) : Keeps [] t (overPeriod f t) :=
  (overPeriod_touches t f).keeps (by decide) (by decide)
@[simp] theorem keeps_overPeriod (f : Period → Period) (h : Keeps ps s t) : Keeps ps s (overPeriod f t) :=
  h.trans ((overPeriod_keeps t f).mono (by simp))

theorem openPeriod_keeps : Keeps [] t (openPeriod t) :=
  (openPeriod_touches t).keeps (by decide) (by decide)
@[simp] theorem keeps_openPeriod (h : Keeps ps s t) : Keeps ps s (openPeriod t) :=
  h.trans ((openPeriod_keeps t).mono (by simp))

theorem profileWattHour_keeps : Keeps [] t (profileWattHour t) :=
  (profileWattHour_touches t).keeps (by decide) (by decide)
@[simp] theorem keeps_profileWattHour (h : Keeps ps s t) : Keeps ps s (profileWattHour t) :=
  h.trans ((profileWattHour_keeps t).mono (by simp))

theorem profileTamper_keeps : Keeps [] t (profileTamper t) :=
  (profileTamper_touches t).keeps (by decide) (by decide)
@[simp] theorem keeps_profileTamper (h : Keeps ps s t) : Keeps ps s (profileTamper t) :=
  h.trans ((profileTamper_keeps t).mono (by simp))

theorem profileSupplyOpen_keeps : Keeps [] t (profileSupplyOpen t) :=
  (profileSupplyOpen_touches t).keeps (by decide) (by decide)
@[simp] theorem keeps_profileSupplyOpen (h : Keeps ps s t) : Keeps ps s (profileSupplyOpen t) :=
  h.trans ((profileSupplyOpen_keeps t).mono (by simp))

theorem profileFrame_keeps (v : Nat) : Keeps [] t (profileFrame v t) :=
  (profileFrame_touches t v).keeps (by decide) (by decide)
@[simp] theorem keeps_profileFrame (v : Nat) (h : Keeps ps s t) : Keeps ps s (profileFrame v t) :=
  h.trans ((profileFrame_keeps t v).mono (by simp))

theorem recordPeriod_keeps (p : Period) (e : Nat) (m : Bool) : Keeps [.page, .slips, .strip, .other] t (recordPeriod p e m t) := by
  unfold recordPeriod
  repeat' split
  all_goals simp (maxDischargeDepth := 30) [apply_ite (Keeps _ _)]
@[simp] theorem keeps_recordPeriod (p : Period) (e : Nat) (m : Bool) (h0 : Place.page ∈ ps) (h1 : Place.slips ∈ ps) (h2 : Place.strip ∈ ps) (h3 : Place.other ∈ ps) (h : Keeps ps s t) : Keeps ps s (recordPeriod p e m t) :=
  h.trans ((recordPeriod_keeps t p e m).mono (by simp [h0, h1, h2, h3]))

theorem closePeriod_keeps (m : Bool) : Keeps [.page, .slips, .strip, .other] t (closePeriod m t) := by
  unfold closePeriod
  repeat' split
  all_goals simp (maxDischargeDepth := 30)
@[simp] theorem keeps_closePeriod (m : Bool) (h0 : Place.page ∈ ps) (h1 : Place.slips ∈ ps) (h2 : Place.strip ∈ ps) (h3 : Place.other ∈ ps) (h : Keeps ps s t) : Keeps ps s (closePeriod m t) :=
  h.trans ((closePeriod_keeps t m).mono (by simp [h0, h1, h2, h3]))

theorem turnPeriod_keeps (m : Bool) : Keeps [.page, .slips, .strip, .other] t (turnPeriod m t) := by
  unfold turnPeriod
  simp (maxDischargeDepth := 30) [apply_ite (Keeps _ _)]
@[simp] theorem keeps_turnPeriod (m : Bool) (h0 : Place.page ∈ ps) (h1 : Place.slips ∈ ps) (h2 : Place.strip ∈ ps) (h3 : Place.other ∈ ps) (h : Keeps ps s t) : Keeps ps s (turnPeriod m t) :=
  h.trans ((turnPeriod_keeps t m).mono (by simp [h0, h1, h2, h3]))

theorem profileMinute_keeps : Keeps [.page, .slips, .strip, .other] t (profileMinute t) := by
  unfold profileMinute
  repeat' split
  all_goals simp (maxDischargeDepth := 30) [apply_ite (Keeps _ _)]
@[simp] theorem keeps_profileMinute (h0 : Place.page ∈ ps) (h1 : Place.slips ∈ ps) (h2 : Place.strip ∈ ps) (h3 : Place.other ∈ ps) (h : Keeps ps s t) : Keeps ps s (profileMinute t) :=
  h.trans ((profileMinute_keeps t).mono (by simp [h0, h1, h2, h3]))

theorem savePeriod_keeps : Keeps [] t (savePeriod t) :=
  (savePeriod_touches t).keeps (by decide) (by decide)
@[simp] theorem keeps_savePeriod (h : Keeps ps s t) : Keeps ps s (savePeriod t) :=
  h.trans ((savePeriod_keeps t).mono (by simp))

theorem resumePeriods_keeps : Keeps [.page, .slips, .strip, .other] t (resumePeriods t) := by
  unfold resumePeriods
  repeat' split
  all_goals simp (maxDischargeDepth := 30)
@[simp] theorem keeps_resumePeriods (h0 : Place.page ∈ ps) (h1 : Place.slips ∈ ps) (h2 : Place.strip ∈ ps) (h3 : Place.other ∈ ps) (h : Keeps ps s t) : Keeps ps s (resumePeriods t) :=
  h.trans ((resumePeriods_keeps t).mono (by simp [h0, h1, h2, h3]))

theorem overSupply_keeps (f : Supply → Supply) : Keeps [] t (overSupply f t) :=
  (overSupply_touches t f).keeps (by decide) (by decide)
@[simp] theorem keeps_overSupply (f : Supply → Supply) (h : Keeps ps s t) : Keeps ps s (overSupply f t) :=
  h.trans ((overSupply_keeps t f).mono (by simp))

theorem supplyNotice_keeps (o : MachineState) (x : SupplyTrigger) (u : Bool) : Keeps [.page, .strip] t (supplyNotice o x u t) := by
  unfold supplyNotice
  simp (maxDischargeDepth := 30)
@[simp] theorem keeps_supplyNotice (o : MachineState) (x : SupplyTrigger) (u : Bool) (h0 : Place.page ∈ ps) (h1 : Place.strip ∈ ps) (h : Keeps ps s t) : Keeps ps s (supplyNotice o x u t) :=
  h.trans ((supplyNotice_keeps t o x u).mono (by simp [h0, h1]))

theorem changeMachine_keeps (m : MachineState) (x : SupplyTrigger) (u : Bool) : Keeps [.page, .strip] t (changeMachine m x u t) := by
  unfold changeMachine
  simp (maxDischargeDepth := 30) [apply_ite (Keeps _ _)]
@[simp] theorem keeps_changeMachine (m : MachineState) (x : SupplyTrigger) (u : Bool) (h0 : Place.page ∈ ps) (h1 : Place.strip ∈ ps) (h : Keeps ps s t) : Keeps ps s (changeMachine m x u t) :=
  h.trans ((changeMachine_keeps t m x u).mono (by simp [h0, h1]))

theorem beginPulse_keeps (d : Direction) : Keeps [] t (beginPulse d t) :=
  (beginPulse_touches t d).keeps (by decide) (by decide)
@[simp] theorem keeps_beginPulse (d : Direction) (h : Keeps ps s t) : Keeps ps s (beginPulse d t) :=
  h.trans ((beginPulse_keeps t d).mono (by simp))

theorem beginAttempt_keeps (d : Direction) : Keeps [.page] t (beginAttempt d t) := by
  unfold beginAttempt
  simp (maxDischargeDepth := 30)
@[simp] theorem keeps_beginAttempt (d : Direction) (h0 : Place.page ∈ ps) (h : Keeps ps s t) : Keeps ps s (beginAttempt d t) :=
  h.trans ((beginAttempt_keeps t d).mono (by simp [h0]))

theorem enterOpening_keeps (x : SupplyTrigger) : Keeps [.page, .strip] t (enterOpening x t) := by
  unfold enterOpening
  simp (maxDischargeDepth := 30)
@[simp] theorem keeps_enterOpening (x : SupplyTrigger) (h0 : Place.page ∈ ps) (h1 : Place.strip ∈ ps) (h : Keeps ps s t) : Keeps ps s (enterOpening x t) :=
  h.trans ((enterOpening_keeps t x).mono (by simp [h0, h1]))

theorem enterClosing_keeps : Keeps [.page, .strip] t (enterClosing t) := by
  unfold enterClosing
  simp (maxDischargeDepth := 30)
@[simp] theorem keeps_enterClosing (h0 : Place.page ∈ ps) (h1 : Place.strip ∈ ps) (h : Keeps ps s t) : Keeps ps s (enterClosing t) :=
  h.trans ((enterClosing_keeps t).mono (by simp [h0, h1]))

theorem actOnCauses_keeps : Keeps [.page, .strip] t (actOnCauses t) := by
  unfold actOnCauses
  repeat' split
  all_goals simp (maxDischargeDepth := 30)
@[simp] theorem keeps_actOnCauses (h0 : Place.page ∈ ps) (h1 : Place.strip ∈ ps) (h : Keeps ps s t) : Keeps ps s (actOnCauses t) :=
  h.trans ((actOnCauses_keeps t).mono (by simp [h0, h1]))

theorem setCause_keeps (k : Cause) (b : Bool) : Keeps [.page, .strip] t (setCause k b t) := by
  unfold setCause
  simp (maxDischargeDepth := 30) [apply_ite (Keeps _ _)]
@[simp] theorem keeps_setCause (k : Cause) (b : Bool) (h0 : Place.page ∈ ps) (h1 : Place.strip ∈ ps) (h : Keeps ps s t) : Keeps ps s (setCause k b t) :=
  h.trans ((setCause_keeps t k b).mono (by simp [h0, h1]))

theorem takeConfirm_keeps : Keeps [.page, .strip] t (takeConfirm t) := by
  unfold takeConfirm
  simp (maxDischargeDepth := 30) [apply_ite (Keeps _ _)]
@[simp] theorem keeps_takeConfirm (h0 : Place.page ∈ ps) (h1 : Place.strip ∈ ps) (h : Keeps ps s t) : Keeps ps s (takeConfirm t) :=
  h.trans ((takeConfirm_keeps t).mono (by simp [h0, h1]))

theorem markUnverified_keeps : Keeps [] t (markUnverified t) :=
  (markUnverified_touches t).keeps (by decide) (by decide)
@[simp] theorem keeps_markUnverified (h : Keeps ps s t) : Keeps ps s (markUnverified t) :=
  h.trans ((markUnverified_keeps t).mono (by simp))

theorem endPulse_keeps : Keeps [.page, .strip] t (endPulse t) := by
  unfold endPulse
  dsimp only
  repeat' split
  all_goals simp (maxDischargeDepth := 30)
@[simp] theorem keeps_endPulse (h0 : Place.page ∈ ps) (h1 : Place.strip ∈ ps) (h : Keeps ps s t) : Keeps ps s (endPulse t) :=
  h.trans ((endPulse_keeps t).mono (by simp [h0, h1]))

theorem relayFaultNotice_keeps (a : Attempt) : Keeps [.page, .strip] t (relayFaultNotice a t) := by
  unfold relayFaultNotice
  simp (maxDischargeDepth := 30)
@[simp] theorem keeps_relayFaultNotice (a : Attempt) (h0 : Place.page ∈ ps) (h1 : Place.strip ∈ ps) (h : Keeps ps s t) : Keeps ps s (relayFaultNotice a t) :=
  h.trans ((relayFaultNotice_keeps t a).mono (by simp [h0, h1]))

theorem failAttempt_keeps (a : Attempt) : Keeps [.page, .strip] t (failAttempt a t) := by
  unfold failAttempt
  repeat' split
  all_goals simp (maxDischargeDepth := 30) [apply_ite (Keeps _ _)]
@[simp] theorem keeps_failAttempt (a : Attempt) (h0 : Place.page ∈ ps) (h1 : Place.strip ∈ ps) (h : Keeps ps s t) : Keeps ps s (failAttempt a t) :=
  h.trans ((failAttempt_keeps t a).mono (by simp [h0, h1]))

theorem windowExpires_keeps (a : Attempt) : Keeps [.page, .strip] t (windowExpires a t) := by
  unfold windowExpires
  simp (maxDischargeDepth := 30) [apply_ite (Keeps _ _)]
@[simp] theorem keeps_windowExpires (a : Attempt) (h0 : Place.page ∈ ps) (h1 : Place.strip ∈ ps) (h : Keeps ps s t) : Keeps ps s (windowExpires a t) :=
  h.trans ((windowExpires_keeps t a).mono (by simp [h0, h1]))

theorem noteLoadV_keeps (f : Frame) : Keeps [] t (noteLoadV f t) :=
  (noteLoadV_touches t f).keeps (by decide) (by decide)
@[simp] theorem keeps_noteLoadV (f : Frame) (h : Keeps ps s t) : Keeps ps s (noteLoadV f t) :=
  h.trans ((noteLoadV_keeps t f).mono (by simp))

theorem overloadTrip_keeps (p : Nat) : Keeps [.page, .strip] t (overloadTrip p t) := by
  unfold overloadTrip
  simp (maxDischargeDepth := 30)
@[simp] theorem keeps_overloadTrip (p : Nat) (h0 : Place.page ∈ ps) (h1 : Place.strip ∈ ps) (h : Keeps ps s t) : Keeps ps s (overloadTrip p t) :=
  h.trans ((overloadTrip_keeps t p).mono (by simp [h0, h1]))

theorem overloadFrame_keeps (f : Frame) (p : Nat) : Keeps [.page, .strip] t (overloadFrame f p t) := by
  unfold overloadFrame
  simp (maxDischargeDepth := 30) [apply_ite (Keeps _ _)]
@[simp] theorem keeps_overloadFrame (f : Frame) (p : Nat) (h0 : Place.page ∈ ps) (h1 : Place.strip ∈ ps) (h : Keeps ps s t) : Keeps ps s (overloadFrame f p t) :=
  h.trans ((overloadFrame_keeps t f p).mono (by simp [h0, h1]))

theorem supplyFrame_keeps (f : Frame) (p : Nat) : Keeps [.page, .strip] t (supplyFrame f p t) := by
  unfold supplyFrame
  repeat' split
  all_goals simp (maxDischargeDepth := 30) [apply_ite (Keeps _ _)]
@[simp] theorem keeps_supplyFrame (f : Frame) (p : Nat) (h0 : Place.page ∈ ps) (h1 : Place.strip ∈ ps) (h : Keeps ps s t) : Keeps ps s (supplyFrame f p t) :=
  h.trans ((supplyFrame_keeps t f p).mono (by simp [h0, h1]))

theorem endOverload_keeps : Keeps [.page, .strip] t (endOverload t) := by
  unfold endOverload
  simp (maxDischargeDepth := 30)
@[simp] theorem keeps_endOverload (h0 : Place.page ∈ ps) (h1 : Place.strip ∈ ps) (h : Keeps ps s t) : Keeps ps s (endOverload t) :=
  h.trans ((endOverload_keeps t).mono (by simp [h0, h1]))

theorem retryExpires_keeps : Keeps [.page, .strip] t (retryExpires t) := by
  unfold retryExpires
  simp (maxDischargeDepth := 30)
@[simp] theorem keeps_retryExpires (h0 : Place.page ∈ ps) (h1 : Place.strip ∈ ps) (h : Keeps ps s t) : Keeps ps s (retryExpires t) :=
  h.trans ((retryExpires_keeps t).mono (by simp [h0, h1]))

theorem applyPowerLimit_keeps (w : Nat) : Keeps [.page, .strip] t (applyPowerLimit w t) := by
  unfold applyPowerLimit
  simp (maxDischargeDepth := 30) [apply_ite (Keeps _ _)]
@[simp] theorem keeps_applyPowerLimit (w : Nat) (h0 : Place.page ∈ ps) (h1 : Place.strip ∈ ps) (h : Keeps ps s t) : Keeps ps s (applyPowerLimit w t) :=
  h.trans ((applyPowerLimit_keeps t w).mono (by simp [h0, h1]))

theorem pruneTrips_keeps : Keeps [.page] t (pruneTrips t) := by
  unfold pruneTrips
  simp (maxDischargeDepth := 30)
@[simp] theorem keeps_pruneTrips (h0 : Place.page ∈ ps) (h : Keeps ps s t) : Keeps ps s (pruneTrips t) :=
  h.trans ((pruneTrips_keeps t).mono (by simp [h0]))

theorem resolveSupply_keeps (v : Nat) : Keeps [.page, .strip] t (resolveSupply v t) := by
  unfold resolveSupply
  simp (maxDischargeDepth := 30) [apply_ite (Keeps _ _)]
@[simp] theorem keeps_resolveSupply (v : Nat) (h0 : Place.page ∈ ps) (h1 : Place.strip ∈ ps) (h : Keeps ps s t) : Keeps ps s (resolveSupply v t) :=
  h.trans ((resolveSupply_keeps t v).mono (by simp [h0, h1]))

theorem creditStateNotice_keeps (o : CreditState) (x : CreditTrigger) : Keeps [.page, .strip] t (creditStateNotice o x t) := by
  unfold creditStateNotice
  simp (maxDischargeDepth := 30)
@[simp] theorem keeps_creditStateNotice (o : CreditState) (x : CreditTrigger) (h0 : Place.page ∈ ps) (h1 : Place.strip ∈ ps) (h : Keeps ps s t) : Keeps ps s (creditStateNotice o x t) :=
  h.trans ((creditStateNotice_keeps t o x).mono (by simp [h0, h1]))

theorem evaluateCredit_keeps (x : CreditTrigger) : Keeps [.page, .strip] t (evaluateCredit x t) := by
  unfold evaluateCredit
  simp (maxDischargeDepth := 30) [apply_ite (Keeps _ _)]
@[simp] theorem keeps_evaluateCredit (x : CreditTrigger) (h0 : Place.page ∈ ps) (h1 : Place.strip ∈ ps) (h : Keeps ps s t) : Keeps ps s (evaluateCredit x t) :=
  h.trans ((evaluateCredit_keeps t x).mono (by simp [h0, h1]))

theorem energyDebit_keeps (r : Nat) : Keeps [.page, .strip] t (energyDebit r t) := by
  unfold energyDebit
  simp (maxDischargeDepth := 30)
@[simp] theorem keeps_energyDebit (r : Nat) (h0 : Place.page ∈ ps) (h1 : Place.strip ∈ ps) (h : Keeps ps s t) : Keeps ps s (energyDebit r t) :=
  h.trans ((energyDebit_keeps t r).mono (by simp [h0, h1]))

theorem dailyDebit_keeps (a : Nat) : Keeps [.page, .strip] t (dailyDebit a t) := by
  unfold dailyDebit
  simp (maxDischargeDepth := 30)
@[simp] theorem keeps_dailyDebit (a : Nat) (h0 : Place.page ∈ ps) (h1 : Place.strip ∈ ps) (h : Keeps ps s t) : Keeps ps s (dailyDebit a t) :=
  h.trans ((dailyDebit_keeps t a).mono (by simp [h0, h1]))

theorem addCredit_keeps (v : Nat) : Keeps [.page, .strip] t (addCredit v t) := by
  unfold addCredit
  simp (maxDischargeDepth := 30)
@[simp] theorem keeps_addCredit (v : Nat) (h0 : Place.page ∈ ps) (h1 : Place.strip ∈ ps) (h : Keeps ps s t) : Keeps ps s (addCredit v t) :=
  h.trans ((addCredit_keeps t v).mono (by simp [h0, h1]))

theorem setEmergencyAmount_keeps (a : Nat) : Keeps [.page, .strip] t (setEmergencyAmount a t) := by
  unfold setEmergencyAmount
  simp (maxDischargeDepth := 30)
@[simp] theorem keeps_setEmergencyAmount (a : Nat) (h0 : Place.page ∈ ps) (h1 : Place.strip ∈ ps) (h : Keeps ps s t) : Keeps ps s (setEmergencyAmount a t) :=
  h.trans ((setEmergencyAmount_keeps t a).mono (by simp [h0, h1]))

theorem resetCredit_keeps : Keeps [.page, .strip] t (resetCredit t) := by
  unfold resetCredit
  simp (maxDischargeDepth := 30)
@[simp] theorem keeps_resetCredit (h0 : Place.page ∈ ps) (h1 : Place.strip ∈ ps) (h : Keeps ps s t) : Keeps ps s (resetCredit t) :=
  h.trans ((resetCredit_keeps t).mono (by simp [h0, h1]))

theorem emergencyNotice_keeps (c : Credit) : Keeps [.page, .strip] t (emergencyNotice c t) := by
  unfold emergencyNotice
  simp (maxDischargeDepth := 30)
@[simp] theorem keeps_emergencyNotice (c : Credit) (h0 : Place.page ∈ ps) (h1 : Place.strip ∈ ps) (h : Keeps ps s t) : Keeps ps s (emergencyNotice c t) :=
  h.trans ((emergencyNotice_keeps t c).mono (by simp [h0, h1]))

theorem startCredit_keeps : Keeps [.page, .strip] t (startCredit t) := by
  unfold startCredit
  simp (maxDischargeDepth := 30)
@[simp] theorem keeps_startCredit (h0 : Place.page ∈ ps) (h1 : Place.strip ∈ ps) (h : Keeps ps s t) : Keeps ps s (startCredit t) :=
  h.trans ((startCredit_keeps t).mono (by simp [h0, h1]))

theorem putRecord_keeps (k : TamperKind) (r : TamperRecord) : Keeps [.page] t (putRecord k r t) := by
  unfold putRecord
  simp (maxDischargeDepth := 30)
@[simp] theorem keeps_putRecord (k : TamperKind) (r : TamperRecord) (h0 : Place.page ∈ ps) (h : Keeps ps s t) : Keeps ps s (putRecord k r t) :=
  h.trans ((putRecord_keeps t k r).mono (by simp [h0]))

theorem tamperOn_keeps (k : TamperKind) (o : Bool) (x : Stamp) (b : TamperStatus) (c : TamperStatus) (n : Nat) (m : List Byte) : Keeps [.page, .strip] t (tamperOn k o x b c n m t) := by
  unfold tamperOn
  simp (maxDischargeDepth := 30)
@[simp] theorem keeps_tamperOn (k : TamperKind) (o : Bool) (x : Stamp) (b : TamperStatus) (c : TamperStatus) (n : Nat) (m : List Byte) (h0 : Place.page ∈ ps) (h1 : Place.strip ∈ ps) (h : Keeps ps s t) : Keeps ps s (tamperOn k o x b c n m t) :=
  h.trans ((tamperOn_keeps t k o x b c n m).mono (by simp [h0, h1]))

theorem tamperOff_keeps (k : TamperKind) (o : Bool) (x : Stamp) (n : Nat) (f : Option Stamp) (l : Option Stamp) : Keeps [.page, .strip] t (tamperOff k o x n f l t) := by
  unfold tamperOff
  simp (maxDischargeDepth := 30)
@[simp] theorem keeps_tamperOff (k : TamperKind) (o : Bool) (x : Stamp) (n : Nat) (f : Option Stamp) (l : Option Stamp) (h0 : Place.page ∈ ps) (h1 : Place.strip ∈ ps) (h : Keeps ps s t) : Keeps ps s (tamperOff k o x n f l t) :=
  h.trans ((tamperOff_keeps t k o x n f l).mono (by simp [h0, h1]))

theorem kindOn_keeps (k : TamperKind) (m : List Byte) : Keeps [.page, .strip] t (kindOn k m t) := by
  unfold kindOn
  simp (maxDischargeDepth := 30) [apply_ite (Keeps _ _)]
@[simp] theorem keeps_kindOn (k : TamperKind) (m : List Byte) (h0 : Place.page ∈ ps) (h1 : Place.strip ∈ ps) (h : Keeps ps s t) : Keeps ps s (kindOn k m t) :=
  h.trans ((kindOn_keeps t k m).mono (by simp [h0, h1]))

theorem kindOff_keeps (k : TamperKind) : Keeps [.page, .strip] t (kindOff k t) := by
  unfold kindOff
  simp (maxDischargeDepth := 30)
@[simp] theorem keeps_kindOff (k : TamperKind) (h0 : Place.page ∈ ps) (h1 : Place.strip ∈ ps) (h : Keeps ps s t) : Keeps ps s (kindOff k t) :=
  h.trans ((kindOff_keeps t k).mono (by simp [h0, h1]))

theorem appendEvent_keeps (e : BatteryEvent) : Keeps [] t (appendEvent e t) :=
  (appendEvent_touches t e).keeps (by decide) (by decide)
@[simp] theorem keeps_appendEvent (e : BatteryEvent) (h : Keeps ps s t) : Keeps ps s (appendEvent e t) :=
  h.trans ((appendEvent_keeps t e).mono (by simp))

theorem switchOnBattery_keeps (w : SwitchId) (p : Position) : Keeps [.page] t (switchOnBattery w p t) := by
  unfold switchOnBattery
  simp (maxDischargeDepth := 30)
@[simp] theorem keeps_switchOnBattery (w : SwitchId) (p : Position) (h0 : Place.page ∈ ps) (h : Keeps ps s t) : Keeps ps s (switchOnBattery w p t) :=
  h.trans ((switchOnBattery_keeps t w p).mono (by simp [h0]))

theorem switchOnMains_keeps (w : SwitchId) (p : Position) : Keeps [.page, .strip] t (switchOnMains w p t) := by
  unfold switchOnMains
  dsimp only
  apply keeps_pageSwitches
  · simp
  · split <;> simp (maxDischargeDepth := 30)
@[simp] theorem keeps_switchOnMains (w : SwitchId) (p : Position) (h0 : Place.page ∈ ps) (h1 : Place.strip ∈ ps) (h : Keeps ps s t) : Keeps ps s (switchOnMains w p t) :=
  h.trans ((switchOnMains_keeps t w p).mono (by simp [h0, h1]))

theorem switchSettles_keeps (w : SwitchId) (p : Position) : Keeps [.page, .strip] t (switchSettles w p t) := by
  unfold switchSettles
  repeat' split
  all_goals simp (maxDischargeDepth := 30)
@[simp] theorem keeps_switchSettles (w : SwitchId) (p : Position) (h0 : Place.page ∈ ps) (h1 : Place.strip ∈ ps) (h : Keeps ps s t) : Keeps ps s (switchSettles w p t) :=
  h.trans ((switchSettles_keeps t w p).mono (by simp [h0, h1]))

theorem judgeKind_keeps (f : Frame) (k : FrameKind) : Keeps [.page, .strip] t (judgeKind f k t) := by
  unfold judgeKind
  simp (maxDischargeDepth := 30) [apply_ite (Keeps _ _)]
@[simp] theorem keeps_judgeKind (f : Frame) (k : FrameKind) (h0 : Place.page ∈ ps) (h1 : Place.strip ∈ ps) (h : Keeps ps s t) : Keeps ps s (judgeKind f k t) :=
  h.trans ((judgeKind_keeps t f k).mono (by simp [h0, h1]))

theorem tamperFrame_keeps (f : Frame) : Keeps [.page, .strip] t (tamperFrame f t) := by
  unfold tamperFrame FrameKind.all; simp (maxDischargeDepth := 30)
@[simp] theorem keeps_tamperFrame (f : Frame) (h0 : Place.page ∈ ps) (h1 : Place.strip ∈ ps) (h : Keeps ps s t) : Keeps ps s (tamperFrame f t) :=
  h.trans ((tamperFrame_keeps t f).mono (by simp [h0, h1]))

theorem clockBack_keeps (m : Nat) : Keeps [.page, .strip] t (clockBack m t) := by
  unfold clockBack
  simp (maxDischargeDepth := 30)
@[simp] theorem keeps_clockBack (m : Nat) (h0 : Place.page ∈ ps) (h1 : Place.strip ∈ ps) (h : Keeps ps s t) : Keeps ps s (clockBack m t) :=
  h.trans ((clockBack_keeps t m).mono (by simp [h0, h1]))

theorem clearTamper_keeps (ks : List TamperKind) (q : Nat) : Keeps [.page, .strip] t (clearTamper ks q t) := by
  have h : ∀ (l : List TamperKind) (u : State), Keeps [.page] u
      (l.foldl (fun s k => putRecord k (s.tamper.records.get k).cleared s) u) := by
    intro l
    induction l with
    | nil => intro u; exact Keeps.refl _ _
    | cons k l ih => intro u; exact (putRecord_keeps _ _ _).trans (ih _)
  have h1 : Keeps [.page, .strip] t _ := (h (clearedKinds t.tamper.records ks) t).mono (by decide)
  unfold clearTamper; simp (maxDischargeDepth := 30) [apply_ite (Keeps _ _), h1]
@[simp] theorem keeps_clearTamper (ks : List TamperKind) (q : Nat) (h0 : Place.page ∈ ps) (h1 : Place.strip ∈ ps) (h : Keeps ps s t) : Keeps ps s (clearTamper ks q t) :=
  h.trans ((clearTamper_keeps t ks q).mono (by simp [h0, h1]))

theorem beginTestPulse_keeps : Keeps [.page] t (beginTestPulse t) := by
  unfold beginTestPulse
  simp (maxDischargeDepth := 30)
@[simp] theorem keeps_beginTestPulse (h0 : Place.page ∈ ps) (h : Keeps ps s t) : Keeps ps s (beginTestPulse t) :=
  h.trans ((beginTestPulse_keeps t).mono (by simp [h0]))

theorem owePulse_keeps : Keeps [.page] t (owePulse t) := by
  unfold owePulse
  simp (maxDischargeDepth := 30) [apply_ite (Keeps _ _)]
@[simp] theorem keeps_owePulse (h0 : Place.page ∈ ps) (h : Keeps ps s t) : Keeps ps s (owePulse t) :=
  h.trans ((owePulse_keeps t).mono (by simp [h0]))

theorem countWattHour_keeps : Keeps [] t (countWattHour t) :=
  (countWattHour_touches t).keeps (by decide) (by decide)
@[simp] theorem keeps_countWattHour (h : Keeps ps s t) : Keeps ps s (countWattHour t) :=
  h.trans ((countWattHour_keeps t).mono (by simp))

theorem carry_keeps : Keeps [.page, .strip] t (carry t) := by
  unfold carry
  simp (maxDischargeDepth := 30)
@[simp] theorem keeps_carry (h0 : Place.page ∈ ps) (h1 : Place.strip ∈ ps) (h : Keeps ps s t) : Keeps ps s (carry t) :=
  h.trans ((carry_keeps t).mono (by simp [h0, h1]))

theorem carries_keeps (n : Nat) : Keeps [.page, .strip] t (carries n t) := by
  induction n generalizing t with
  | zero => exact Keeps.refl _ _
  | succ n ih => exact (carry_keeps t).trans (ih _)
@[simp] theorem keeps_carries (n : Nat) (h0 : Place.page ∈ ps) (h1 : Place.strip ∈ ps) (h : Keeps ps s t) : Keeps ps s (carries n t) :=
  h.trans ((carries_keeps t n).mono (by simp [h0, h1]))

theorem energyFrame_keeps (f : Frame) : Keeps [.page, .strip] t (energyFrame f t) := by
  unfold energyFrame
  simp (maxDischargeDepth := 30)
@[simp] theorem keeps_energyFrame (f : Frame) (h0 : Place.page ∈ ps) (h1 : Place.strip ∈ ps) (h : Keeps ps s t) : Keeps ps s (energyFrame f t) :=
  h.trans ((energyFrame_keeps t f).mono (by simp [h0, h1]))

theorem pulseHighEnds_keeps : Keeps [] t (pulseHighEnds t) :=
  (pulseHighEnds_touches t).keeps (by decide) (by decide)
@[simp] theorem keeps_pulseHighEnds (h : Keeps ps s t) : Keeps ps s (pulseHighEnds t) :=
  h.trans ((pulseHighEnds_keeps t).mono (by simp))

theorem pulseGapEnds_keeps : Keeps [.page] t (pulseGapEnds t) := by
  unfold pulseGapEnds
  simp (maxDischargeDepth := 30) [apply_ite (Keeps _ _)]
@[simp] theorem keeps_pulseGapEnds (h0 : Place.page ∈ ps) (h : Keeps ps s t) : Keeps ps s (pulseGapEnds t) :=
  h.trans ((pulseGapEnds_keeps t).mono (by simp [h0]))

theorem discardBacklog_keeps : Keeps [] t (discardBacklog t) :=
  (discardBacklog_touches t).keeps (by decide) (by decide)
@[simp] theorem keeps_discardBacklog (h : Keeps ps s t) : Keeps ps s (discardBacklog t) :=
  h.trans ((discardBacklog_keeps t).mono (by simp))

theorem activateTariff_keeps (r : Tariff) (x : TariffSource) : Keeps [.page, .strip] t (activateTariff r x t) := by
  unfold activateTariff
  simp (maxDischargeDepth := 30)
@[simp] theorem keeps_activateTariff (r : Tariff) (x : TariffSource) (h0 : Place.page ∈ ps) (h1 : Place.strip ∈ ps) (h : Keeps ps s t) : Keeps ps s (activateTariff r x t) :=
  h.trans ((activateTariff_keeps t r x).mono (by simp [h0, h1]))

theorem tariffSecond_keeps : Keeps [.page, .strip] t (tariffSecond t) := by
  unfold tariffSecond
  repeat' split
  all_goals simp (maxDischargeDepth := 30)
@[simp] theorem keeps_tariffSecond (h0 : Place.page ∈ ps) (h1 : Place.strip ∈ ps) (h : Keeps ps s t) : Keeps ps s (tariffSecond t) :=
  h.trans ((tariffSecond_keeps t).mono (by simp [h0, h1]))

theorem rollover_keeps (r : Tariff) : Keeps [.page] t (rollover r t) := by
  unfold rollover
  repeat' split
  all_goals simp (maxDischargeDepth := 30) [apply_ite (Keeps _ _)]
@[simp] theorem keeps_rollover (r : Tariff) (h0 : Place.page ∈ ps) (h : Keeps ps s t) : Keeps ps s (rollover r t) :=
  h.trans ((rollover_keeps t r).mono (by simp [h0]))

theorem chargeDays_keeps (r : Tariff) : Keeps [.page, .strip] t (chargeDays r t) := by
  unfold chargeDays
  repeat' split
  all_goals simp (maxDischargeDepth := 30) [apply_ite (Keeps _ _)]
@[simp] theorem keeps_chargeDays (r : Tariff) (h0 : Place.page ∈ ps) (h1 : Place.strip ∈ ps) (h : Keeps ps s t) : Keeps ps s (chargeDays r t) :=
  h.trans ((chargeDays_keeps t r).mono (by simp [h0, h1]))

theorem tariffMinute_keeps : Keeps [.page, .strip] t (tariffMinute t) := by
  unfold tariffMinute
  repeat' split
  all_goals simp (maxDischargeDepth := 30)
@[simp] theorem keeps_tariffMinute (h0 : Place.page ∈ ps) (h1 : Place.strip ∈ ps) (h : Keeps ps s t) : Keeps ps s (tariffMinute t) :=
  h.trans ((tariffMinute_keeps t).mono (by simp [h0, h1]))

theorem takeTariffLoad_keeps (n : Fin 16) : Keeps [.slips] t (takeTariffLoad n t) := by
  unfold takeTariffLoad
  simp (maxDischargeDepth := 30) [apply_ite (Keeps _ _)]
@[simp] theorem keeps_takeTariffLoad (n : Fin 16) (h0 : Place.slips ∈ ps) (h : Keeps ps s t) : Keeps ps s (takeTariffLoad n t) :=
  h.trans ((takeTariffLoad_keeps t n).mono (by simp [h0]))

theorem installTariff_keeps (r : Tariff) : Keeps [.page, .strip] t (installTariff r t) := by
  unfold installTariff
  simp (maxDischargeDepth := 30) [apply_ite (Keeps _ _)]
@[simp] theorem keeps_installTariff (r : Tariff) (h0 : Place.page ∈ ps) (h1 : Place.strip ∈ ps) (h : Keeps ps s t) : Keeps ps s (installTariff r t) :=
  h.trans ((installTariff_keeps t r).mono (by simp [h0, h1]))

theorem finishLoad_keeps (l : Load) : Keeps [.page, .slips, .strip] t (finishLoad l t) := by
  unfold finishLoad
  repeat' split
  all_goals simp (maxDischargeDepth := 30)
@[simp] theorem keeps_finishLoad (l : Load) (h0 : Place.page ∈ ps) (h1 : Place.slips ∈ ps) (h2 : Place.strip ∈ ps) (h : Keeps ps s t) : Keeps ps s (finishLoad l t) :=
  h.trans ((finishLoad_keeps t l).mono (by simp [h0, h1, h2]))

theorem clockStepNotice_keeps (o : Clock) (n : Nat) : Keeps [.page, .strip] t (clockStepNotice o n t) := by
  unfold clockStepNotice
  simp (maxDischargeDepth := 30)
@[simp] theorem keeps_clockStepNotice (o : Clock) (n : Nat) (h0 : Place.page ∈ ps) (h1 : Place.strip ∈ ps) (h : Keeps ps s t) : Keeps ps s (clockStepNotice o n t) :=
  h.trans ((clockStepNotice_keeps t o n).mono (by simp [h0, h1]))

theorem setClock_keeps (n : Nat) : Keeps [.page, .slips, .strip, .other] t (setClock n t) := by
  unfold setClock
  simp (maxDischargeDepth := 30) [apply_ite (Keeps _ _)]
@[simp] theorem keeps_setClock (n : Nat) (h0 : Place.page ∈ ps) (h1 : Place.slips ∈ ps) (h2 : Place.strip ∈ ps) (h3 : Place.other ∈ ps) (h : Keeps ps s t) : Keeps ps s (setClock n t) :=
  h.trans ((setClock_keeps t n).mono (by simp [h0, h1, h2, h3]))

theorem takeClockSet_keeps (n : Fin 16) : Keeps [.page, .slips, .strip, .other] t (takeClockSet n t) := by
  unfold takeClockSet
  simp (maxDischargeDepth := 30) [apply_ite (Keeps _ _)]
@[simp] theorem keeps_takeClockSet (n : Fin 16) (h0 : Place.page ∈ ps) (h1 : Place.slips ∈ ps) (h2 : Place.strip ∈ ps) (h3 : Place.other ∈ ps) (h : Keeps ps s t) : Keeps ps s (takeClockSet n t) :=
  h.trans ((takeClockSet_keeps t n).mono (by simp [h0, h1, h2, h3]))

theorem overCode_keeps (f : CodeUnit → CodeUnit) : Keeps [] t (overCode f t) :=
  (overCode_touches t f).keeps (by decide) (by decide)
@[simp] theorem keeps_overCode (f : CodeUnit → CodeUnit) (h : Keeps ps s t) : Keeps ps s (overCode f t) :=
  h.trans ((overCode_keeps t f).mono (by simp))

theorem applyCode_keeps (c : Code) : Keeps [.page, .strip] t (applyCode c t) := by
  unfold applyCode
  repeat' split
  all_goals simp (maxDischargeDepth := 30)
@[simp] theorem keeps_applyCode (c : Code) (h0 : Place.page ∈ ps) (h1 : Place.strip ∈ ps) (h : Keeps ps s t) : Keeps ps s (applyCode c t) :=
  h.trans ((applyCode_keeps t c).mono (by simp [h0, h1]))

theorem acceptCode_keeps (c : Code) : Keeps [.page, .strip] t (acceptCode c t) := by
  unfold acceptCode
  simp (maxDischargeDepth := 30)
@[simp] theorem keeps_acceptCode (c : Code) (h0 : Place.page ∈ ps) (h1 : Place.strip ∈ ps) (h : Keeps ps s t) : Keeps ps s (acceptCode c t) :=
  h.trans ((acceptCode_keeps t c).mono (by simp [h0, h1]))

theorem settleCode_keeps (v : Verdict) (c : Option Code) : Keeps [.page, .strip] t (settleCode v c t) := by
  unfold settleCode
  repeat' split
  all_goals simp (maxDischargeDepth := 30)
@[simp] theorem keeps_settleCode (v : Verdict) (c : Option Code) (h0 : Place.page ∈ ps) (h1 : Place.strip ∈ ps) (h : Keeps ps s t) : Keeps ps s (settleCode v c t) :=
  h.trans ((settleCode_keeps t v c).mono (by simp [h0, h1]))

theorem keypadOutcome_keeps (e : Entry) (v : Verdict) (d : List Byte) : Keeps [.page, .strip] t (keypadOutcome e v d t) := by
  unfold keypadOutcome
  simp (maxDischargeDepth := 30)
@[simp] theorem keeps_keypadOutcome (e : Entry) (v : Verdict) (d : List Byte) (h0 : Place.page ∈ ps) (h1 : Place.strip ∈ ps) (h : Keeps ps s t) : Keeps ps s (keypadOutcome e v d t) :=
  h.trans ((keypadOutcome_keeps t e v d).mono (by simp [h0, h1]))

theorem takeCodeSlip_keeps (n : Fin 16) : Keeps [.page, .slips] t (takeCodeSlip n t) := by
  unfold takeCodeSlip
  simp (maxDischargeDepth := 30) [apply_ite (Keeps _ _)]
@[simp] theorem keeps_takeCodeSlip (n : Fin 16) (h0 : Place.page ∈ ps) (h1 : Place.slips ∈ ps) (h : Keeps ps s t) : Keeps ps s (takeCodeSlip n t) :=
  h.trans ((takeCodeSlip_keeps t n).mono (by simp [h0, h1]))

theorem takeSubmission_keeps : Keeps [.page] t (takeSubmission t) := by
  unfold takeSubmission
  simp (maxDischargeDepth := 30)
@[simp] theorem keeps_takeSubmission (h0 : Place.page ∈ ps) (h : Keeps ps s t) : Keeps ps s (takeSubmission t) :=
  h.trans ((takeSubmission_keeps t).mono (by simp [h0]))

theorem arbitrate_keeps : Keeps [.page, .slips] t (arbitrate t) := by
  unfold arbitrate
  dsimp only
  repeat' split
  all_goals simp (maxDischargeDepth := 30)
@[simp] theorem keeps_arbitrate (h0 : Place.page ∈ ps) (h1 : Place.slips ∈ ps) (h : Keeps ps s t) : Keeps ps s (arbitrate t) :=
  h.trans ((arbitrate_keeps t).mono (by simp [h0, h1]))

theorem endHold_keeps : Keeps [.page] t (endHold t) := by
  unfold endHold
  simp (maxDischargeDepth := 30)
@[simp] theorem keeps_endHold (h0 : Place.page ∈ ps) (h : Keeps ps s t) : Keeps ps s (endHold t) :=
  h.trans ((endHold_keeps t).mono (by simp [h0]))

theorem reportDecode_keeps (x : Source) (v : Verdict) (c : Option Code) (r : TamperRecords) : Keeps [.page, .slips, .strip] t (reportDecode x v c r t) := by
  unfold reportDecode
  repeat' split
  all_goals simp (maxDischargeDepth := 30)
@[simp] theorem keeps_reportDecode (x : Source) (v : Verdict) (c : Option Code) (r : TamperRecords) (h0 : Place.page ∈ ps) (h1 : Place.slips ∈ ps) (h2 : Place.strip ∈ ps) (h : Keeps ps s t) : Keeps ps s (reportDecode x v c r t) :=
  h.trans ((reportDecode_keeps t x v c r).mono (by simp [h0, h1, h2]))

theorem finishDecode_keeps (x : Source) (l : List Byte) : Keeps [.page, .slips, .strip] t (finishDecode x l t) := by
  unfold finishDecode
  simp (maxDischargeDepth := 30)
@[simp] theorem keeps_finishDecode (x : Source) (l : List Byte) (h0 : Place.page ∈ ps) (h1 : Place.slips ∈ ps) (h2 : Place.strip ∈ ps) (h : Keeps ps s t) : Keeps ps s (finishDecode x l t) :=
  h.trans ((finishDecode_keeps t x l).mono (by simp [h0, h1, h2]))

theorem finishKeySet_keeps (n : Fin 16) (a : Bool) (b : Bool) : Keeps [.page, .slips] t (finishKeySet n a b t) := by
  unfold finishKeySet
  simp (maxDischargeDepth := 30) [apply_ite (Keeps _ _)]
@[simp] theorem keeps_finishKeySet (n : Fin 16) (a : Bool) (b : Bool) (h0 : Place.page ∈ ps) (h1 : Place.slips ∈ ps) (h : Keeps ps s t) : Keeps ps s (finishKeySet n a b t) :=
  h.trans ((finishKeySet_keeps t n a b).mono (by simp [h0, h1]))

theorem clearLine_keeps : Keeps [] t (clearLine t) :=
  (clearLine_touches t).keeps (by decide) (by decide)
@[simp] theorem keeps_clearLine (h : Keeps ps s t) : Keeps ps s (clearLine t) :=
  h.trans ((clearLine_keeps t).mono (by simp))

theorem submitLine_keeps : Keeps [.page] t (submitLine t) := by
  unfold submitLine
  simp (maxDischargeDepth := 30) [apply_ite (Keeps _ _)]
@[simp] theorem keeps_submitLine (h0 : Place.page ∈ ps) (h : Keeps ps s t) : Keeps ps s (submitLine t) :=
  h.trans ((submitLine_keeps t).mono (by simp [h0]))

theorem idleExpires_keeps : Keeps [.page] t (idleExpires t) := by
  unfold idleExpires
  simp (maxDischargeDepth := 30) [apply_ite (Keeps _ _)]
@[simp] theorem keeps_idleExpires (h0 : Place.page ∈ ps) (h : Keeps ps s t) : Keeps ps s (idleExpires t) :=
  h.trans ((idleExpires_keeps t).mono (by simp [h0]))

theorem idleSecond_keeps : Keeps [.page] t (idleSecond t) := by
  unfold idleSecond
  simp (maxDischargeDepth := 30) [apply_ite (Keeps _ _)]
@[simp] theorem keeps_idleSecond (h0 : Place.page ∈ ps) (h : Keeps ps s t) : Keeps ps s (idleSecond t) :=
  h.trans ((idleSecond_keeps t).mono (by simp [h0]))

theorem endLock_keeps : Keeps [.page] t (endLock t) := by
  unfold endLock
  simp (maxDischargeDepth := 30)
@[simp] theorem keeps_endLock (h0 : Place.page ∈ ps) (h : Keeps ps s t) : Keeps ps s (endLock t) :=
  h.trans ((endLock_keeps t).mono (by simp [h0]))

theorem lockSecond_keeps : Keeps [.page] t (lockSecond t) := by
  unfold lockSecond
  simp (maxDischargeDepth := 30) [apply_ite (Keeps _ _)]
@[simp] theorem keeps_lockSecond (h0 : Place.page ∈ ps) (h : Keeps ps s t) : Keeps ps s (lockSecond t) :=
  h.trans ((lockSecond_keeps t).mono (by simp [h0]))

theorem scanRelease_keeps (k : Key) : Keeps [] t (scanRelease k t) :=
  (scanRelease_touches t k).keeps (by decide) (by decide)
@[simp] theorem keeps_scanRelease (k : Key) (h : Keeps ps s t) : Keeps ps s (scanRelease k t) :=
  h.trans ((scanRelease_keeps t k).mono (by simp))

theorem takeSupplyOrder_keeps (n : Fin 16) : Keeps [.page, .slips, .strip] t (takeSupplyOrder n t) := by
  unfold takeSupplyOrder
  simp (maxDischargeDepth := 30) [apply_ite (Keeps _ _)]
@[simp] theorem keeps_takeSupplyOrder (n : Fin 16) (h0 : Place.page ∈ ps) (h1 : Place.slips ∈ ps) (h2 : Place.strip ∈ ps) (h : Keeps ps s t) : Keeps ps s (takeSupplyOrder n t) :=
  h.trans ((takeSupplyOrder_keeps t n).mono (by simp [h0, h1, h2]))

theorem clearWindows_keeps (o : Settings) (g : Settings) : Keeps [] t (clearWindows o g t) :=
  (clearWindows_touches t o g).keeps (by decide) (by decide)
@[simp] theorem keeps_clearWindows (o : Settings) (g : Settings) (h : Keeps ps s t) : Keeps ps s (clearWindows o g t) :=
  h.trans ((clearWindows_keeps t o g).mono (by simp))

theorem judgeIdle_keeps : Keeps [.page] t (judgeIdle t) := by
  unfold judgeIdle
  split
  · split
    · simp
    · split
      · exact freePick_keeps _ (Keeps.refl _ _) (by simp)
      · exact Keeps.refl _ _
  · exact Keeps.refl _ _
@[simp] theorem keeps_judgeIdle (h0 : Place.page ∈ ps) (h : Keeps ps s t) : Keeps ps s (judgeIdle t) :=
  h.trans ((judgeIdle_keeps t).mono (by simp [h0]))

theorem installSettings_keeps (g : Settings) : Keeps [.page, .strip] t (installSettings g t) := by
  unfold installSettings
  simp (maxDischargeDepth := 30)
@[simp] theorem keeps_installSettings (g : Settings) (h0 : Place.page ∈ ps) (h1 : Place.strip ∈ ps) (h : Keeps ps s t) : Keeps ps s (installSettings g t) :=
  h.trans ((installSettings_keeps t g).mono (by simp [h0, h1]))

theorem settingsWrite_keeps (n : Fin 16) (o : Nat) : Keeps [.page, .slips, .strip] t (settingsWrite n o t) := by
  unfold settingsWrite
  dsimp only
  repeat' split
  all_goals simp (maxDischargeDepth := 30)
@[simp] theorem keeps_settingsWrite (n : Fin 16) (o : Nat) (h0 : Place.page ∈ ps) (h1 : Place.slips ∈ ps) (h2 : Place.strip ∈ ps) (h : Keeps ps s t) : Keeps ps s (settingsWrite n o t) :=
  h.trans ((settingsWrite_keeps t n o).mono (by simp [h0, h1, h2]))

theorem settingsFetch_keeps (n : Fin 16) (o : Nat) : Keeps [.page, .slips, .strip, .other] t (settingsFetch n o t) := by
  unfold settingsFetch
  simp (maxDischargeDepth := 30) [apply_ite (Keeps _ _)]
@[simp] theorem keeps_settingsFetch (n : Fin 16) (o : Nat) (h0 : Place.page ∈ ps) (h1 : Place.slips ∈ ps) (h2 : Place.strip ∈ ps) (h3 : Place.other ∈ ps) (h : Keeps ps s t) : Keeps ps s (settingsFetch n o t) :=
  h.trans ((settingsFetch_keeps t n o).mono (by simp [h0, h1, h2, h3]))

theorem takeSettings_keeps (n : Fin 16) : Keeps [.page, .slips, .strip, .other] t (takeSettings n t) := by
  unfold takeSettings
  simp (maxDischargeDepth := 30) [apply_ite (Keeps _ _)]
@[simp] theorem keeps_takeSettings (n : Fin 16) (h0 : Place.page ∈ ps) (h1 : Place.slips ∈ ps) (h2 : Place.strip ∈ ps) (h3 : Place.other ∈ ps) (h : Keeps ps s t) : Keeps ps s (takeSettings n t) :=
  h.trans ((takeSettings_keeps t n).mono (by simp [h0, h1, h2, h3]))

theorem takeProfileSetup_keeps (n : Fin 16) : Keeps [.page, .slips, .strip, .other] t (takeProfileSetup n t) := by
  unfold takeProfileSetup
  simp (maxDischargeDepth := 30) [apply_ite (Keeps _ _)]
@[simp] theorem keeps_takeProfileSetup (n : Fin 16) (h0 : Place.page ∈ ps) (h1 : Place.slips ∈ ps) (h2 : Place.strip ∈ ps) (h3 : Place.other ∈ ps) (h : Keeps ps s t) : Keeps ps s (takeProfileSetup n t) :=
  h.trans ((takeProfileSetup_keeps t n).mono (by simp [h0, h1, h2, h3]))

theorem takeCapture_keeps (n : Fin 16) : Keeps [.slips] t (takeCapture n t) := by
  unfold takeCapture
  simp (maxDischargeDepth := 30)
@[simp] theorem keeps_takeCapture (n : Fin 16) (h0 : Place.slips ∈ ps) (h : Keeps ps s t) : Keeps ps s (takeCapture n t) :=
  h.trans ((takeCapture_keeps t n).mono (by simp [h0]))

theorem takeUnknown_keeps (n : Fin 16) : Keeps [.slips] t (takeUnknown n t) := by
  unfold takeUnknown
  simp (maxDischargeDepth := 30)
@[simp] theorem keeps_takeUnknown (n : Fin 16) (h0 : Place.slips ∈ ps) (h : Keeps ps s t) : Keeps ps s (takeUnknown n t) :=
  h.trans ((takeUnknown_keeps t n).mono (by simp [h0]))

theorem takeSlip_keeps (n : Fin 16) : Keeps [.page, .slips, .strip, .other] t (takeSlip n t) := by
  unfold takeSlip
  repeat' split
  all_goals simp (maxDischargeDepth := 30)
@[simp] theorem keeps_takeSlip (n : Fin 16) (h0 : Place.page ∈ ps) (h1 : Place.slips ∈ ps) (h2 : Place.strip ∈ ps) (h3 : Place.other ∈ ps) (h : Keeps ps s t) : Keeps ps s (takeSlip n t) :=
  h.trans ((takeSlip_keeps t n).mono (by simp [h0, h1, h2, h3]))

theorem putSlipState_keeps (n : Fin 16) (x : SlipState) : Keeps [.slips] t (putSlipState n x t) := by
  unfold putSlipState
  have h := poke_slip t n 0 [byteOf x.code] (by simp)
  simpa using h
@[simp] theorem keeps_putSlipState (n : Fin 16) (x : SlipState) (h0 : Place.slips ∈ ps) (h : Keeps ps s t) : Keeps ps s (putSlipState n x t) :=
  h.trans ((putSlipState_keeps t n x).mono (by simp [h0]))

theorem postSlip_keeps (n : Fin 16) : Keeps [.page, .slips, .strip, .other] t (postSlip n t) := by
  unfold postSlip
  simp (maxDischargeDepth := 30) [apply_ite (Keeps _ _)]
@[simp] theorem keeps_postSlip (n : Fin 16) (h0 : Place.page ∈ ps) (h1 : Place.slips ∈ ps) (h2 : Place.strip ∈ ps) (h3 : Place.other ∈ ps) (h : Keeps ps s t) : Keeps ps s (postSlip n t) :=
  h.trans ((postSlip_keeps t n).mono (by simp [h0, h1, h2, h3]))

theorem drainLoads_keeps (n : Nat) : Keeps [.slips] t (drainLoads n t) := by
  induction n generalizing t with
  | zero => exact Keeps.refl _ _
  | succ n ih =>
    unfold drainLoads
    split
    · exact Keeps.refl _ _
    · split
      · exact (takeTariffLoad_keeps _ _).trans (ih _)
      · exact Keeps.refl _ _
@[simp] theorem keeps_drainLoads (n : Nat) (h0 : Place.slips ∈ ps) (h : Keeps ps s t) : Keeps ps s (drainLoads n t) :=
  h.trans ((drainLoads_keeps t n).mono (by simp [h0]))

theorem putByte_keeps (a : Nat) (b : Byte) : Keeps [.page, .slips, .strip, .other] t (putByte a b t) := by
  unfold putByte
  simp (maxDischargeDepth := 30)
@[simp] theorem keeps_putByte (a : Nat) (b : Byte) (h0 : Place.page ∈ ps) (h1 : Place.slips ∈ ps) (h2 : Place.strip ∈ ps) (h3 : Place.other ∈ ps) (h : Keeps ps s t) : Keeps ps s (putByte a b t) :=
  h.trans ((putByte_keeps t a b).mono (by simp [h0, h1, h2, h3]))

theorem hostState_keeps (n : Fin 16) (b : Byte) : Keeps [.page, .slips, .strip, .other] t (hostState n b t) := by
  unfold hostState
  repeat' split
  all_goals simp (maxDischargeDepth := 30)
@[simp] theorem keeps_hostState (n : Fin 16) (b : Byte) (h0 : Place.page ∈ ps) (h1 : Place.slips ∈ ps) (h2 : Place.strip ∈ ps) (h3 : Place.other ∈ ps) (h : Keeps ps s t) : Keeps ps s (hostState n b t) :=
  h.trans ((hostState_keeps t n b).mono (by simp [h0, h1, h2, h3]))

theorem hostByte_keeps (a : Nat) (b : Byte) : Keeps [.page, .slips, .strip, .other] t (hostByte a b t) := by
  unfold hostByte
  simp (maxDischargeDepth := 30) [apply_ite (Keeps _ _)]
@[simp] theorem keeps_hostByte (a : Nat) (b : Byte) (h0 : Place.page ∈ ps) (h1 : Place.slips ∈ ps) (h2 : Place.strip ∈ ps) (h3 : Place.other ∈ ps) (h : Keeps ps s t) : Keeps ps s (hostByte a b t) :=
  h.trans ((hostByte_keeps t a b).mono (by simp [h0, h1, h2, h3]))

theorem hostBytes_keeps (a : Nat) (l : List Byte) : Keeps [.page, .slips, .strip, .other] t (hostBytes a l t) := by
  induction l generalizing a t with
  | nil => exact Keeps.refl _ _
  | cons b l ih => exact (hostByte_keeps _ _ _).trans (ih _ _)
@[simp] theorem keeps_hostBytes (a : Nat) (l : List Byte) (h0 : Place.page ∈ ps) (h1 : Place.slips ∈ ps) (h2 : Place.strip ∈ ps) (h3 : Place.other ∈ ps) (h : Keeps ps s t) : Keeps ps s (hostBytes a l t) :=
  h.trans ((hostBytes_keeps t a l).mono (by simp [h0, h1, h2, h3]))

theorem withDataOut_keeps (l : List Byte) : Keeps [] t (withDataOut l t) :=
  (withDataOut_touches t l).keeps (by decide) (by decide)
@[simp] theorem keeps_withDataOut (l : List Byte) (h : Keeps ps s t) : Keeps ps s (withDataOut l t) :=
  h.trans ((withDataOut_keeps t l).mono (by simp))

theorem storeWrite_keeps (a : Nat) (l : List Byte) : Keeps [.page, .slips, .strip, .other] t (storeWrite a l t) := by
  unfold storeWrite
  simp (maxDischargeDepth := 30) [apply_ite (Keeps _ _)]
@[simp] theorem keeps_storeWrite (a : Nat) (l : List Byte) (h0 : Place.page ∈ ps) (h1 : Place.slips ∈ ps) (h2 : Place.strip ∈ ps) (h3 : Place.other ∈ ps) (h : Keeps ps s t) : Keeps ps s (storeWrite a l t) :=
  h.trans ((storeWrite_keeps t a l).mono (by simp [h0, h1, h2, h3]))

theorem postFilled_keeps (n : Fin 16) (k : Byte) (l : List Byte) : Keeps [.page, .slips, .strip, .other] t (postFilled n k l t) := by
  unfold postFilled
  simp (maxDischargeDepth := 30) [apply_ite (Keeps _ _)]
@[simp] theorem keeps_postFilled (n : Fin 16) (k : Byte) (l : List Byte) (h0 : Place.page ∈ ps) (h1 : Place.slips ∈ ps) (h2 : Place.strip ∈ ps) (h3 : Place.other ∈ ps) (h : Keeps ps s t) : Keeps ps s (postFilled n k l t) :=
  h.trans ((postFilled_keeps t n k l).mono (by simp [h0, h1, h2, h3]))

theorem acknowledge_keeps (m : BitVec 9) : Keeps [] t (acknowledge m t) :=
  (acknowledge_touches t m).keeps (by decide) (by decide)
@[simp] theorem keeps_acknowledge (m : BitVec 9) (h : Keeps ps s t) : Keeps ps s (acknowledge m t) :=
  h.trans ((acknowledge_keeps t m).mono (by simp))

theorem writeAconf_keeps (v : Nat) : Keeps [] t (writeAconf v t) :=
  (writeAconf_touches t v).keeps (by decide) (by decide)
@[simp] theorem keeps_writeAconf (v : Nat) (h : Keeps ps s t) : Keeps ps s (writeAconf v t) :=
  h.trans ((writeAconf_keeps t v).mono (by simp))

theorem regRead_keeps (a : Nat) (n : Nat) : Keeps [] t (regRead a n t) :=
  (regRead_touches t a n).keeps (by decide) (by decide)
@[simp] theorem keeps_regRead (a : Nat) (n : Nat) (h : Keeps ps s t) : Keeps ps s (regRead a n t) :=
  h.trans ((regRead_keeps t a n).mono (by simp))

theorem overPower_keeps (f : Power → Power) : Keeps [] t (overPower f t) :=
  (overPower_touches t f).keeps (by decide) (by decide)
@[simp] theorem keeps_overPower (f : Power → Power) (h : Keeps ps s t) : Keeps ps s (overPower f t) :=
  h.trans ((overPower_keeps t f).mono (by simp))

theorem gather_keeps (e : Nat) (m : Means) : Keeps [] t (gather e m t) :=
  (gather_touches t e m).keeps (by decide) (by decide)
@[simp] theorem keeps_gather (e : Nat) (m : Means) (h : Keeps ps s t) : Keeps ps s (gather e m t) :=
  h.trans ((gather_keeps t e m).mono (by simp))

theorem putFrame_keeps (f : Frame) : Keeps [] t (putFrame f t) :=
  (putFrame_touches t f).keeps (by decide) (by decide)
@[simp] theorem keeps_putFrame (f : Frame) (h : Keeps ps s t) : Keeps ps s (putFrame f t) :=
  h.trans ((putFrame_keeps t f).mono (by simp))

theorem batteryFrame_keeps (f : Frame) : Keeps [.page, .strip] t (batteryFrame f t) := by
  unfold batteryFrame
  repeat' split
  all_goals simp (maxDischargeDepth := 30)
@[simp] theorem keeps_batteryFrame (f : Frame) (h0 : Place.page ∈ ps) (h1 : Place.strip ∈ ps) (h : Keeps ps s t) : Keeps ps s (batteryFrame f t) :=
  h.trans ((batteryFrame_keeps t f).mono (by simp [h0, h1]))

theorem closeFinalFrame_keeps (e : Nat) (m : Means) : Keeps [.page, .strip] t (closeFinalFrame e m t) := by
  unfold closeFinalFrame
  simp (maxDischargeDepth := 30)
@[simp] theorem keeps_closeFinalFrame (e : Nat) (m : Means) (h0 : Place.page ∈ ps) (h1 : Place.strip ∈ ps) (h : Keeps ps s t) : Keeps ps s (closeFinalFrame e m t) :=
  h.trans ((closeFinalFrame_keeps t e m).mono (by simp [h0, h1]))

theorem supplyHoldup_keeps : Keeps [] t (supplyHoldup t) :=
  (supplyHoldup_touches t).keeps (by decide) (by decide)
@[simp] theorem keeps_supplyHoldup (h : Keeps ps s t) : Keeps ps s (supplyHoldup t) :=
  h.trans ((supplyHoldup_keeps t).mono (by simp))

theorem cutKeySet_keeps : Keeps [] t (cutKeySet t) :=
  (cutKeySet_touches t).keeps (by decide) (by decide)
@[simp] theorem keeps_cutKeySet (h : Keeps ps s t) : Keeps ps s (cutKeySet t) :=
  h.trans ((cutKeySet_keeps t).mono (by simp))

theorem holdupWork_keeps : Keeps [] t (holdupWork t) :=
  (holdupWork_touches t).keeps (by decide) (by decide)
@[simp] theorem keeps_holdupWork (h : Keeps ps s t) : Keeps ps s (holdupWork t) :=
  h.trans ((holdupWork_keeps t).mono (by simp))

theorem powerClock_keeps : Keeps [] t (powerClock t) :=
  (powerClock_touches t).keeps (by decide) (by decide)
@[simp] theorem keeps_powerClock (h : Keeps ps s t) : Keeps ps s (powerClock t) :=
  h.trans ((powerClock_keeps t).mono (by simp))

theorem enterWatch_keeps : Keeps [] t (enterWatch t) :=
  (enterWatch_touches t).keeps (by decide) (by decide)
@[simp] theorem keeps_enterWatch (h : Keeps ps s t) : Keeps ps s (enterWatch t) :=
  h.trans ((enterWatch_keeps t).mono (by simp))

theorem loseDomain_keeps : Keeps [] t (loseDomain t) :=
  (loseDomain_touches t).keeps (by decide) (by decide)
@[simp] theorem keeps_loseDomain (h : Keeps ps s t) : Keeps ps s (loseDomain t) :=
  h.trans ((loseDomain_keeps t).mono (by simp))

theorem enterDark_keeps (b : Nat) : Keeps [] t (enterDark b t) :=
  (enterDark_touches t b).keeps (by decide) (by decide)
@[simp] theorem keeps_enterDark (b : Nat) (h : Keeps ps s t) : Keeps ps s (enterDark b t) :=
  h.trans ((enterDark_keeps t b).mono (by simp))

theorem watchConversion_keeps (v : Nat) : Keeps [] t (watchConversion v t) :=
  (watchConversion_touches t v).keeps (by decide) (by decide)
@[simp] theorem keeps_watchConversion (v : Nat) (h : Keeps ps s t) : Keeps ps s (watchConversion v t) :=
  h.trans ((watchConversion_keeps t v).mono (by simp))

theorem watchChange_keeps : Keeps [] t (watchChange t) :=
  (watchChange_touches t).keeps (by decide) (by decide)
@[simp] theorem keeps_watchChange (h : Keeps ps s t) : Keeps ps s (watchChange t) :=
  h.trans ((watchChange_keeps t).mono (by simp))

theorem factoryState_keeps : Keeps [] t (factoryState t) :=
  (factoryState_touches t).keeps (by decide) (by decide)
@[simp] theorem keeps_factoryState (h : Keeps ps s t) : Keeps ps s (factoryState t) :=
  h.trans ((factoryState_keeps t).mono (by simp))

theorem settleFromRecords_keeps : Keeps [] t (settleFromRecords t) :=
  (settleFromRecords_touches t).keeps (by decide) (by decide)
@[simp] theorem keeps_settleFromRecords (h : Keeps ps s t) : Keeps ps s (settleFromRecords t) :=
  h.trans ((settleFromRecords_keeps t).mono (by simp))

theorem startStep1_keeps : Keeps [] t (startStep1 t) :=
  (startStep1_touches t).keeps (by decide) (by decide)
@[simp] theorem keeps_startStep1 (h : Keeps ps s t) : Keeps ps s (startStep1 t) :=
  h.trans ((startStep1_keeps t).mono (by simp))

theorem replayEvent_keeps (e : BatteryEvent) : Keeps [.page, .strip] t (replayEvent e t) := by
  unfold replayEvent
  repeat' split
  all_goals simp (maxDischargeDepth := 30)
@[simp] theorem keeps_replayEvent (e : BatteryEvent) (h0 : Place.page ∈ ps) (h1 : Place.strip ∈ ps) (h : Keeps ps s t) : Keeps ps s (replayEvent e t) :=
  h.trans ((replayEvent_keeps t e).mono (by simp [h0, h1]))

theorem powerBackNotice_keeps (n : Nat) : Keeps [.page, .strip] t (powerBackNotice n t) := by
  unfold powerBackNotice
  simp (maxDischargeDepth := 30)
@[simp] theorem keeps_powerBackNotice (n : Nat) (h0 : Place.page ∈ ps) (h1 : Place.strip ∈ ps) (h : Keeps ps s t) : Keeps ps s (powerBackNotice n t) :=
  h.trans ((powerBackNotice_keeps t n).mono (by simp [h0, h1]))

theorem watchLostNotice_keeps : Keeps [.page, .strip] t (watchLostNotice t) := by
  unfold watchLostNotice
  repeat' split
  all_goals simp (maxDischargeDepth := 30)
@[simp] theorem keeps_watchLostNotice (h0 : Place.page ∈ ps) (h1 : Place.strip ∈ ps) (h : Keeps ps s t) : Keeps ps s (watchLostNotice t) :=
  h.trans ((watchLostNotice_keeps t).mono (by simp [h0, h1]))

theorem startStep3_keeps : Keeps [.page, .slips, .strip, .other] t (startStep3 t) := by
  have h : ∀ (l : List BatteryEvent) (u : State), Keeps [.page, .strip] u
      (l.foldl (fun s e => replayEvent e s) u) := by
    intro l
    induction l with
    | nil => intro u; exact Keeps.refl _ _
    | cons e l ih => intro u; exact (replayEvent_keeps _ _).trans (ih _)
  have h1 : Keeps [.page, .slips, .strip, .other] t _ := (h t.power.events t).mono (by decide)
  unfold startStep3; simp (maxDischargeDepth := 30) [apply_ite (Keeps _ _), h1]
@[simp] theorem keeps_startStep3 (h0 : Place.page ∈ ps) (h1 : Place.slips ∈ ps) (h2 : Place.strip ∈ ps) (h3 : Place.other ∈ ps) (h : Keeps ps s t) : Keeps ps s (startStep3 t) :=
  h.trans ((startStep3_keeps t).mono (by simp [h0, h1, h2, h3]))

theorem startStep4_keeps : Keeps [.page, .strip] t (startStep4 t) := by
  unfold startStep4
  simp (maxDischargeDepth := 30)
@[simp] theorem keeps_startStep4 (h0 : Place.page ∈ ps) (h1 : Place.strip ∈ ps) (h : Keeps ps s t) : Keeps ps s (startStep4 t) :=
  h.trans ((startStep4_keeps t).mono (by simp [h0, h1]))

theorem startStep6_keeps : Keeps [] t (startStep6 t) :=
  (startStep6_touches t).keeps (by decide) (by decide)
@[simp] theorem keeps_startStep6 (h : Keeps ps s t) : Keeps ps s (startStep6 t) :=
  h.trans ((startStep6_keeps t).mono (by simp))

theorem startStep56_keeps (v : Nat) : Keeps [.page, .strip] t (startStep56 v t) := by
  unfold startStep56
  simp (maxDischargeDepth := 30)
@[simp] theorem keeps_startStep56 (v : Nat) (h0 : Place.page ∈ ps) (h1 : Place.strip ∈ ps) (h : Keeps ps s t) : Keeps ps s (startStep56 v t) :=
  h.trans ((startStep56_keeps t v).mono (by simp [h0, h1]))

theorem tryReverify_keeps : Keeps [.page, .strip] t (tryReverify t) := by
  unfold tryReverify
  repeat' split
  all_goals simp (maxDischargeDepth := 30)
@[simp] theorem keeps_tryReverify (h0 : Place.page ∈ ps) (h1 : Place.strip ∈ ps) (h : Keeps ps s t) : Keeps ps s (tryReverify t) :=
  h.trans ((tryReverify_keeps t).mono (by simp [h0, h1]))

theorem holdInReset_keeps : Keeps [] t (holdInReset t) :=
  (holdInReset_touches t).keeps (by decide) (by decide)
@[simp] theorem keeps_holdInReset (h : Keeps ps s t) : Keeps ps s (holdInReset t) :=
  h.trans ((holdInReset_keeps t).mono (by simp))

theorem supplySecond_keeps : Keeps [.page] t (supplySecond t) := by
  unfold supplySecond
  simp (maxDischargeDepth := 30)
@[simp] theorem keeps_supplySecond (h0 : Place.page ∈ ps) (h : Keeps ps s t) : Keeps ps s (supplySecond t) :=
  h.trans ((supplySecond_keeps t).mono (by simp [h0]))

theorem clockPage_keeps : Keeps [.page] t (clockPage t) := by
  unfold clockPage
  simp (maxDischargeDepth := 30) [apply_ite (Keeps _ _)]
@[simp] theorem keeps_clockPage (h0 : Place.page ∈ ps) (h : Keeps ps s t) : Keeps ps s (clockPage t) :=
  h.trans ((clockPage_keeps t).mono (by simp [h0]))

theorem tariffTick_keeps (m : Bool) : Keeps [.page, .strip] t (tariffTick m t) := by
  unfold tariffTick
  simp (maxDischargeDepth := 30) [apply_ite (Keeps _ _)]
@[simp] theorem keeps_tariffTick (m : Bool) (h0 : Place.page ∈ ps) (h1 : Place.strip ∈ ps) (h : Keeps ps s t) : Keeps ps s (tariffTick m t) :=
  h.trans ((tariffTick_keeps t m).mono (by simp [h0, h1]))

theorem recloseWork_keeps : Keeps [.page, .strip] t (recloseWork t) := by
  unfold recloseWork
  simp (maxDischargeDepth := 30) [apply_ite (Keeps _ _)]
@[simp] theorem keeps_recloseWork (h0 : Place.page ∈ ps) (h1 : Place.strip ∈ ps) (h : Keeps ps s t) : Keeps ps s (recloseWork t) :=
  h.trans ((recloseWork_keeps t).mono (by simp [h0, h1]))

theorem retryWork_keeps : Keeps [.page, .strip] t (retryWork t) := by
  unfold retryWork
  simp (maxDischargeDepth := 30) [apply_ite (Keeps _ _)]
@[simp] theorem keeps_retryWork (h0 : Place.page ∈ ps) (h1 : Place.strip ∈ ps) (h : Keeps ps s t) : Keeps ps s (retryWork t) :=
  h.trans ((retryWork_keeps t).mono (by simp [h0, h1]))

theorem latchWork_keeps : Keeps [.page, .strip] t (latchWork t) := by
  unfold latchWork
  simp (maxDischargeDepth := 30) [apply_ite (Keeps _ _)]
@[simp] theorem keeps_latchWork (h0 : Place.page ∈ ps) (h1 : Place.strip ∈ ps) (h : Keeps ps s t) : Keeps ps s (latchWork t) :=
  h.trans ((latchWork_keeps t).mono (by simp [h0, h1]))

theorem calendarEndNotice_keeps : Keeps [.page, .strip] t (calendarEndNotice t) := by
  unfold calendarEndNotice
  simp (maxDischargeDepth := 30)
@[simp] theorem keeps_calendarEndNotice (h0 : Place.page ∈ ps) (h1 : Place.strip ∈ ps) (h : Keeps ps s t) : Keeps ps s (calendarEndNotice t) :=
  h.trans ((calendarEndNotice_keeps t).mono (by simp [h0, h1]))

theorem tickCounts_keeps : Keeps [.page] t (tickCounts t) := by
  unfold tickCounts
  simp (maxDischargeDepth := 30) [apply_ite (Keeps _ _)]
@[simp] theorem keeps_tickCounts (h0 : Place.page ∈ ps) (h : Keeps ps s t) : Keeps ps s (tickCounts t) :=
  h.trans ((tickCounts_keeps t).mono (by simp [h0]))

theorem mainsConversion_keeps (c : Channel) (v : Nat) : Keeps [.page, .strip] t (mainsConversion c v t) := by
  unfold mainsConversion
  simp (maxDischargeDepth := 30)
@[simp] theorem keeps_mainsConversion (c : Channel) (v : Nat) (h0 : Place.page ∈ ps) (h1 : Place.strip ∈ ps) (h : Keeps ps s t) : Keeps ps s (mainsConversion c v t) :=
  h.trans ((mainsConversion_keeps t c v).mono (by simp [h0, h1]))

/-- Works that each store only in the listed places do so together, in any order. -/
theorem inAnyOrder_keeps {works : List (State → State)} (each : ∀ w ∈ works, ∀ u, Keeps ps u (w u)) :
    Keeps ps t (inAnyOrder works t) :=
  inAnyOrder_of (P := Keeps ps t) (fun _ _ h => h) (fun w hw u h => h.trans (each w hw u)) (Keeps.refl _ _)

theorem takeEmergency_keeps : Keeps [.page, .strip] t (takeEmergency t) := by
  unfold takeEmergency
  split
  · exact freePick_keeps _ (Keeps.refl _ _) (by simp (maxDischargeDepth := 30))
  · exact Keeps.refl _ _

theorem offerFrame_keeps (f : Frame) : Keeps [.page, .strip] t (offerFrame f t) := by
  have h : Keeps [.page, .strip] t (freePick ((takingOrders f t).map fun o => runAll o t) t) := by
    refine freePick_keeps _ (Keeps.refl _ _) fun r hr => ?_
    obtain ⟨o, ho, rfl⟩ := List.mem_map.mp hr
    refine runAll_of (P := Keeps _ t) (fun w hw u g => g.trans ?_) (Keeps.refl _ _)
    rcases mem_takingOrders ho hw with e | e | e | e <;> rw [e] <;> simp
  unfold offerFrame
  simp [h]

theorem closeFrame_keeps (m : Means) : Keeps [.page, .strip] t (closeFrame m t) := by
  unfold closeFrame
  exact (Keeps.mono (qs := []) (by simp) (by simp)).trans (offerFrame_keeps _ _)

theorem offerTick_keeps (ended : Bool) : Keeps [.page, .slips, .strip, .other] t (offerTick ended t) := by
  unfold offerTick
  dsimp only
  refine Keeps.trans (t := if ended then calendarEndNotice (tickCounts t) else tickCounts t) ?_
    (inAnyOrder_keeps _ fun w hw u => ?_)
  · split <;> simp
  · rcases mem_tickWorks t hw with e | e | e | e | e | e <;> rw [e] <;> simp

end Sys2Proof.Machine
end

