-- ==== Sys2Proof/Laws/PerInstr.lean ====
section
/-! SUPPORT. A family of facts about every command as syntax: the two frame tables of Safety.lean agree. -/

namespace Sys2Proof.Laws.FrameTables

open Sys2Proof.Machine

set_option Elab.async false

/-- No command is said to touch the queue, no part is listed twice, and a command that is not said to touch the store is
given no place to store to. -/
def Statement (i : Instr) : Prop :=
  Block.pending ∉ touchedBy i ∧ (touchedBy i).Nodup ∧
  (Block.store ∉ touchedBy i → ∀ s a, ¬ mayStore i s a)

/-- A command whose parts include the store. -/
theorem of_store {i : Instr} (h : Block.pending ∉ touchedBy i) (n : (touchedBy i).Nodup)
    (m : Block.store ∈ touchedBy i) : Statement i := ⟨h, n, fun g => absurd m g⟩

/-- A command that is given no place to store to. -/
theorem of_none {i : Instr} (h : Block.pending ∉ touchedBy i) (n : (touchedBy i).Nodup)
    (m : ∀ s a, ¬ mayStore i s a) : Statement i := ⟨h, n, fun _ => m⟩

theorem frameClose (m : Means) : Statement (.frameClose m) :=
  of_store (by simp [touchedBy]) (by simp [touchedBy]) (by simp [touchedBy])

theorem conversionComplete (value : Nat) : Statement (.conversionComplete value) :=
  of_store (by simp [touchedBy]) (by simp [touchedBy]) (by simp [touchedBy])

theorem coilPulseEnd : Statement .coilPulseEnd :=
  of_store (by simp [touchedBy]) (by simp [touchedBy]) (by simp [touchedBy])

theorem verifyWindowExpiry : Statement .verifyWindowExpiry :=
  of_store (by simp [touchedBy]) (by simp [touchedBy]) (by simp [touchedBy])

theorem retryTimerExpiry : Statement .retryTimerExpiry :=
  of_store (by simp [touchedBy]) (by simp [touchedBy]) (by simp [touchedBy])

theorem secondTick : Statement .secondTick :=
  of_store (by simp [touchedBy]) (by simp [touchedBy]) (by simp [touchedBy])

theorem lockExpiry : Statement .lockExpiry :=
  of_store (by simp [touchedBy]) (by simp [touchedBy]) (by simp [touchedBy])

theorem recloseWaitExpiry : Statement .recloseWaitExpiry :=
  of_store (by simp [touchedBy]) (by simp [touchedBy]) (by simp [touchedBy])

theorem idleTimeout : Statement .idleTimeout :=
  of_store (by simp [touchedBy]) (by simp [touchedBy]) (by simp [touchedBy])

theorem testPulseHighExpiry : Statement .testPulseHighExpiry :=
  of_none (by simp [touchedBy]) (by simp [touchedBy]) fun _ _ h => h

theorem testPulseLowGapExpiry : Statement .testPulseLowGapExpiry :=
  of_store (by simp [touchedBy]) (by simp [touchedBy]) (by simp [touchedBy])

theorem keyPress (k : Key) : Statement (.keyPress k) :=
  of_store (by simp [touchedBy]) (by simp [touchedBy]) (by simp [touchedBy])

theorem keyRelease (k : Key) : Statement (.keyRelease k) :=
  of_none (by simp [touchedBy]) (by simp [touchedBy]) fun _ _ h => h

theorem decodeCompletion : Statement .decodeCompletion :=
  of_store (by simp [touchedBy]) (by simp [touchedBy]) (by simp [touchedBy])

theorem keySetCompletion : Statement .keySetCompletion :=
  of_store (by simp [touchedBy]) (by simp [touchedBy]) (by simp [touchedBy])

theorem tariffLoadCompletion : Statement .tariffLoadCompletion :=
  of_store (by simp [touchedBy]) (by simp [touchedBy]) (by simp [touchedBy])

theorem switchChange (w : SwitchId) (p : Position) : Statement (.switchChange w p) :=
  of_none (by simp [touchedBy]) (by simp [touchedBy]) fun _ _ h => h

theorem switchEvent (w : SwitchId) : Statement (.switchEvent w) :=
  of_store (by simp [touchedBy]) (by simp [touchedBy]) (by simp [touchedBy])

theorem holdTimerExpiry : Statement .holdTimerExpiry :=
  of_none (by simp [touchedBy]) (by simp [touchedBy]) fun _ _ h => h

theorem timedWake : Statement .timedWake :=
  of_none (by simp [touchedBy]) (by simp [touchedBy]) fun _ _ h => h

theorem mainsLoss (elapsed : Nat) (m : Means) : Statement (.mainsLoss elapsed m) :=
  of_store (by simp [touchedBy]) (by simp [touchedBy]) (by simp [touchedBy])

theorem resetnLow : Statement .resetnLow :=
  of_store (by simp [touchedBy]) (by simp [touchedBy]) (by simp [touchedBy])

theorem holdupCompletion (upTo : Fin 5) : Statement (.holdupCompletion upTo) :=
  of_store (by simp [touchedBy]) (by simp [touchedBy]) (by simp [touchedBy])

theorem resetnRelease (upTo : Fin 5) : Statement (.resetnRelease upTo) :=
  of_store (by simp [touchedBy]) (by simp [touchedBy]) (by simp [touchedBy])

theorem mainsReturn (upTo : Fin 5) : Statement (.mainsReturn upTo) :=
  of_store (by simp [touchedBy]) (by simp [touchedBy]) (by simp [touchedBy])

theorem reVerification : Statement .reVerification :=
  of_store (by simp [touchedBy]) (by simp [touchedBy]) (by simp [touchedBy])

theorem storeRead (addr : BitVec 16) (run : ReadRun) : Statement (.storeRead addr run) :=
  of_none (by simp [touchedBy]) (by simp [touchedBy]) fun _ _ h => h

theorem storeWrite (addr : BitVec 16) (data : List Byte) : Statement (.storeWrite addr data) :=
  of_store (by simp [touchedBy]) (by simp [touchedBy]) (by simp [touchedBy])

theorem topup (slip : Fin 16) (chars : List Byte) : Statement (.topup slip chars) :=
  of_store (by simp [touchedBy]) (by simp [touchedBy]) (by simp [touchedBy])

theorem keySet (slip : Fin 16) (key : BitVec 64) : Statement (.keySet slip key) :=
  of_store (by simp [touchedBy]) (by simp [touchedBy]) (by simp [touchedBy])

theorem tariffLoad (slip : Fin 16) (offset : BitVec 16) : Statement (.tariffLoad slip offset) :=
  of_store (by simp [touchedBy]) (by simp [touchedBy]) (by simp [touchedBy])

theorem clockSet (slip : Fin 16) (time : BitVec 32) : Statement (.clockSet slip time) :=
  of_store (by simp [touchedBy]) (by simp [touchedBy]) (by simp [touchedBy])

theorem supplyOrderOpen (slip : Fin 16) : Statement (.supplyOrderOpen slip) :=
  of_store (by simp [touchedBy]) (by simp [touchedBy]) (by simp [touchedBy])

theorem supplyOrderRelease (slip : Fin 16) : Statement (.supplyOrderRelease slip) :=
  of_store (by simp [touchedBy]) (by simp [touchedBy]) (by simp [touchedBy])

theorem settingsWrite (slip : Fin 16) (offset : BitVec 16) : Statement (.settingsWrite slip offset) :=
  of_store (by simp [touchedBy]) (by simp [touchedBy]) (by simp [touchedBy])

theorem settingsFetch (slip : Fin 16) (offset : BitVec 16) : Statement (.settingsFetch slip offset) :=
  of_store (by simp [touchedBy]) (by simp [touchedBy]) (by simp [touchedBy])

theorem profileSetup (slip : Fin 16) (offset : BitVec 16) (capacity d remaining : Byte) : Statement (.profileSetup slip offset capacity d remaining) :=
  of_store (by simp [touchedBy]) (by simp [touchedBy]) (by simp [touchedBy])

theorem capture (slip : Fin 16) : Statement (.capture slip) :=
  of_store (by simp [touchedBy]) (by simp [touchedBy]) (by simp [touchedBy])

theorem slipKindUnknown (slip : Fin 16) (kind : Byte) : Statement (.slipKindUnknown slip kind) :=
  of_store (by simp [touchedBy]) (by simp [touchedBy]) (by simp [touchedBy])

theorem apendRead (read : RegisterRead) : Statement (.apendRead read) :=
  of_none (by simp [touchedBy]) (by simp [touchedBy]) fun _ _ h => h

theorem aackWrite (data : List Byte) : Statement (.aackWrite data) :=
  of_none (by simp [touchedBy]) (by simp [touchedBy]) fun _ _ h => h

theorem aconfWrite (data : List Byte) : Statement (.aconfWrite data) :=
  of_none (by simp [touchedBy]) (by simp [touchedBy]) fun _ _ h => h

theorem clearCollision : Statement .clearCollision :=
  of_none (by simp [touchedBy]) (by simp [touchedBy]) fun _ _ h => h

theorem linkReset (clearToo : Bool) : Statement (.linkReset clearToo) :=
  of_store (by simp [touchedBy]) (by simp [touchedBy]) (by simp [touchedBy])

theorem regWriteIgnored (addr : BitVec 16) (data : List Byte) : Statement (.regWriteIgnored addr data) :=
  of_none (by simp [touchedBy]) (by simp [touchedBy]) fun _ _ h => h

theorem operationIgnored (op : Byte) (n : Nat) : Statement (.operationIgnored op n) :=
  of_none (by simp [touchedBy]) (by simp [touchedBy]) fun _ _ h => h

theorem attnPulseEnd : Statement .attnPulseEnd :=
  of_none (by simp [touchedBy]) (by simp [touchedBy]) fun _ _ h => h

theorem batteryRemoved : Statement .batteryRemoved :=
  of_none (by simp [touchedBy]) (by simp [touchedBy]) fun _ _ h => h

theorem batteryFitted : Statement .batteryFitted :=
  of_none (by simp [touchedBy]) (by simp [touchedBy]) fun _ _ h => h

end Sys2Proof.Laws.FrameTables
end

