-- ==== Sys2Proof/Laws/Transfer.lean ====
section
/-! SUPPORT. What an SPI transfer's bytes pick (R175): the operation of a first byte, and what a transfer does to the
queue. -/

namespace Sys2Proof

theorem Operation.ofByte_code (op : Operation) : Operation.ofByte op.code = some op := by cases op <;> decide

theorem Operation.ofByte_eq_none_iff (b : Byte) :
    Operation.ofByte b = none ↔ b.toNat ≠ 0x31 ∧ b.toNat ≠ 0x32 ∧ b.toNat ≠ 0x35 ∧ b.toNat ≠ 0x36 := by
  simp [Operation.ofByte, Operation.all, List.find?_eq_none, Operation.code, ← BitVec.toNat_inj, eq_comm (b := b.toNat)]

@[simp] theorem transferAddress_toNat (hi lo : Byte) : (transferAddress hi lo).toNat = 256 * hi.toNat + lo.toNat := by
  have := hi.isLt
  have := lo.isLt
  simp only [transferAddress, BitVec.toNat_ofNat]
  omega

namespace Machine

theorem State.withTransfer_some {bytes : List Byte} {c : Instr} (s : State) (h : readTransfer bytes = some c) :
    s.withTransfer bytes = s.withPending (s.pending ++ [c]) := by simp [State.withTransfer, h]

theorem State.withTransfer_none {bytes : List Byte} (s : State) (h : readTransfer bytes = none) :
    s.withTransfer bytes = s := by simp [State.withTransfer, h]

end Machine

end Sys2Proof
end

