-- ==== Sys2Proof/Tests/Slice0.lean ====
section
/-! SUPPORT. Small tests: what WellFormed refuses, worked values of the manual, one step of each command, and for each
statement with hypotheses a state and operands that meet them. -/

namespace Sys2Proof.Tests

open Sys2Proof Sys2Proof.Machine

-- The tests are checked one after another: their kernel evaluations would otherwise pile up in threads.
set_option Elab.async false

/-! ### WellFormed -/

theorem test_wf_mainsLoss : (Instr.mainsLoss 999 ⟨0, 0, 0, 0, 0⟩).wellFormed = true ∧
    (Instr.mainsLoss 1000 ⟨0, 0, 0, 0, 0⟩).wellFormed = false := by decide
theorem test_wf_topup : (Instr.topup 0 (List.replicate 20 0x30)).wellFormed = true ∧
    (Instr.topup 0 (List.replicate 19 0x30)).wellFormed = false ∧
    (Instr.topup 0 (List.replicate 21 0x30)).wellFormed = false := by decide
theorem test_wf_slipKindUnknown : (Instr.slipKindUnknown 0 0).wellFormed = true ∧
    (Instr.slipKindUnknown 0 9).wellFormed = true ∧ (Instr.slipKindUnknown 0 1).wellFormed = false ∧
    (Instr.slipKindUnknown 0 8).wellFormed = false := by decide
theorem test_wf_apendRead : (Instr.apendRead ⟨1, 1⟩).wellFormed = true ∧
    (Instr.apendRead ⟨1, 0⟩).wellFormed = false := by decide
theorem test_wf_regWriteIgnored : (Instr.regWriteIgnored 0 [1]).wellFormed = true ∧
    (Instr.regWriteIgnored 2 [1]).wellFormed = false ∧ (Instr.regWriteIgnored 3 [1]).wellFormed = false ∧
    (Instr.regWriteIgnored 4 [1]).wellFormed = false := by decide
theorem test_wf_operationIgnored : (Instr.operationIgnored 0 1).wellFormed = true ∧
    (Instr.operationIgnored 0x31 1).wellFormed = false ∧ (Instr.operationIgnored 0x32 1).wellFormed = false ∧
    (Instr.operationIgnored 0x35 1).wellFormed = false ∧ (Instr.operationIgnored 0x36 1).wellFormed = false := by decide

/-! ### States the tests start from -/

/-- A running part with a VALID clock, an empty store, and the supply OPEN for want of credit. -/
def running : State :=
  { State.reset with
    front := ⟨true, 0, none, Progress.empty⟩
    conv := { Converter.empty with inFlight := some .loadV }
    clock := ⟨100, true, true, some 0⟩
    code := { CodeUnit.factory with scanning := true }
    tamper := ⟨TamperRecords.factory, Windows.empty, some .closed, some .closed⟩
    pins := ⟨true, true, true, .closed, .closed, []⟩
    power := { State.reset.power with
      state := .mains, stage := .running, continuity := true, formatMark := true, checkOk := true } }

/-- The running part with its contactor machine in a state, over no cause, credit in hand. -/
def inMachine (m : MachineState) : State :=
  { running with
    credit := { Credit.factory with balance := 5000, state := .normal }
    supply := { Supply.factory with machine := m, causes := ⟨false, false, false, false⟩ } }

/-- The part in a power state, as after a run. -/
def inPower (p : PowerState) : State :=
  { running with
    front := FrontEnd.startUp
    power := { running.power with state := p, stage := .begun, fitted := true } }

/-- The same with mains absent. -/
def onBattery (p : PowerState) : State := { inPower p with pins := { running.pins with mains := false } }

/-- A running part whose profile has a period of d + 1 minutes in progress. -/
def profiled (n : Nat) (valid : Bool) (d remaining : Nat) : State :=
  { running with
    clock := ⟨n, valid, true, none⟩
    profile := { Profile.factory with
      desc := some ⟨0x800, 2, d, remaining, 1⟩
      period := some ⟨7, some 5, some 6, false, false, false, false, some 0, 0⟩ } }

/-- What a command leaves. -/
def after (c : Instr) (s : State) : State :=
  match exec c s with
  | .next t => t
  | _ => s

/-- The commands one after another. -/
def afterAll (cs : List Instr) (s : State) : State := cs.foldl (fun s c => after c s) s

/-- A frame's means of an intact installation. -/
def steady : Means := ⟨2300, 4000, 4000, 1000000, 1000000⟩

/-- The tariff of worked example 3.7.1. -/
def worked371 : Tariff where
  id := 1042
  activation := 0
  startDay := 1
  blocks := 2
  thresholds := [100]
  bands := 2
  rates := [150, 210, 190, 250]
  weekday := [⟨0, 0⟩, ⟨420, 1⟩, ⟨1320, 0⟩]
  weekend := [⟨0, 0⟩]
  daily := 150

/-! ### Worked values of the manual -/

/-- The CRC of R98: the published check value of this generator over "123456789". -/
theorem test_crc_check_value :
    crc16 [0x31, 0x32, 0x33, 0x34, 0x35, 0x36, 0x37, 0x38, 0x39] = 0x29B1#16 := by decide +kernel
/-- Worked example 5.8.1. -/
theorem test_unmasking_5_8_1 :
    clearFields (clearPart (0x8E07A1D266CC * 2 ^ 16) 0x3C5A9E17B4D26F08#64) = ⟨1, 4117, 2500⟩ := by decide +kernel
/-- Worked example 3.2.1. -/
theorem test_calendar_3_2_1 : dayIndex 726056100 = 8403 ∧ minuteOfDay 726056100 = 615 ∧ weekday 726056100 = 1 ∧
    dateOf 726056100 = ⟨23, 1, 3⟩ := by decide +kernel
/-- R59's example: 2023-01-05, 2023-02-04 and 2023-02-05 under R = 5. -/
theorem test_period_index : periodIndexOf 5 (8405 * 86400) = 276 ∧ periodIndexOf 5 (8435 * 86400) = 276 ∧
    periodIndexOf 5 (8436 * 86400) = 277 := by decide +kernel
/-- R56's example. -/
theorem test_block : blockOf { worked371 with thresholds := [50, 150] } 49999 = 1 ∧
    blockOf { worked371 with thresholds := [50, 150] } 150000 = 3 := by decide +kernel
/-- Worked example 3.7.1: three watt-hours cost 670 thousandths on the Tuesday. -/
theorem test_charge_3_7_1 :
    let s := { running with clock := ⟨8403 * 86400 + 36937, true, true, some 8403⟩
                            tariff := { TariffUnit.factory with active := some worked371, periodEnergy := 99998 } }
    (carries 3 s).credit.standing = -670 ∧ (carries 3 s).tariff.periodEnergy = 100001 := by decide +kernel
/-- R150's example, and R151's. -/
theorem test_imbalance_and_reverse :
    let f : Frame := ⟨1, 2300, 4800, 5500, -20001, 0, 1000, false, ⟨none, false⟩, ⟨none, false⟩, ⟨none, false⟩⟩
    frameResult .imbalance f Settings.default .closed = true ∧
    frameResult .imbalance { f with iL := 4900 } Settings.default .closed = false ∧
    frameResult .reverse f { Settings.default with reverse := 20 } .closed = true ∧
    frameResult .reverse { f with pL := -20000 } Settings.default .closed = false := by decide +kernel
/-- R202's layout of a slip's state bytes, and of a signed number. -/
theorem test_layouts : slipBase 4 = 0x300 ∧ leInt 4 (-1) = [0xFF, 0xFF, 0xFF, 0xFF] ∧
    leBytes 2 0x7110 = [0x10, 0x71] := by decide +kernel

/-! ### One step of each command -/

theorem test_frameClose_bills : (after (.frameClose steady) running).energy.billed = ⟨0, 1000000⟩ := by decide +kernel
theorem test_frameClose_saturates :
    ((after (.frameClose ⟨3001, 5, 5, -30000001, 7⟩) running).front.last.map fun f => (f.v, f.pL, f.overRange)) =
      some (3000, -30000000, true) := by decide +kernel
theorem test_conversionComplete_settles :
    let s := { running with conv := { running.conv with loadV := ⟨some 7, false, true⟩ } }
    (after (.conversionComplete 2300) s).conv.loadV = ⟨some 7, false, false⟩ := by decide +kernel
theorem test_conversionComplete_dark :
    let s := { inPower .watch with conv := { Converter.empty with inFlight := some .battery } }
    (after (.conversionComplete 2199) s).power.state = .dark ∧
    (after (.conversionComplete 2200) s).power.state = .watch := by decide +kernel
theorem test_coilPulseEnd :
    let s := afterAll [.supplyOrderOpen 0] (inMachine .closed)
    s.supply.machine = .opening ∧ inVerify (after .coilPulseEnd s).supply = true := by decide +kernel
theorem test_verifyWindowExpiry_pulses :
    let s := afterAll [.frameClose steady, .supplyOrderOpen 0, .coilPulseEnd] (inMachine .closed)
    ((after .verifyWindowExpiry s).supply.attempt.map Attempt.pulse) = some 2 := by decide +kernel
theorem test_retryTimerExpiry :
    let s := inMachine .stuckClosed
    (after .retryTimerExpiry { s with supply := { s.supply with retry := 1 } }).supply.machine = .opening := by decide +kernel
theorem test_secondTick_calendarEnd :
    let s := { running with clock := ⟨3155759999, true, true, some 36524⟩ }
    (after .secondTick s).clock.valid = false ∧ (after .secondTick s).clock.count = 3155760000 := by decide +kernel
theorem test_lockExpiry :
    (after .lockExpiry { running with code := { running.code with lock := 1, failCount := 5 } }).code.failCount = 0 := by
  decide +kernel
theorem test_recloseWaitExpiry :
    let s := inMachine .opened
    let u := { s with supply := { s.supply with causes := ⟨false, false, false, true⟩, overload := .waiting 1 } }
    (after .recloseWaitExpiry u).supply.machine = .awaitConfirm := by decide +kernel
theorem test_idleTimeout :
    (after .idleTimeout { running with code := { running.code with line := [1], idle := 30 } }).code.line = [] := by
  decide +kernel
theorem test_testPulse_timers :
    let s := { running with energy := { Energy.factory with pulse := .high, backlog := 2 } }
    (after .testPulseHighExpiry s).energy.pulse = .lowGap ∧
    (afterAll [.testPulseHighExpiry, .testPulseLowGapExpiry] s).energy.backlog = 1 := by decide +kernel
theorem test_keyPress_line :
    (afterAll [.keyPress (.digit 4), .keyRelease (.digit 4), .keyPress (.digit 2)] running).code.line = [4, 2] := by decide +kernel
theorem test_keyPress_lockout :
    (afterAll [.keyPress (.digit 4), .keyPress (.digit 2)] running).code.lockout = true := by decide +kernel
theorem test_keyRelease_clears_lockout :
    (afterAll [.keyPress .erase, .keyPress .enter, .keyRelease .erase, .keyRelease .enter] running).code.lockout =
      false := by decide +kernel
theorem test_decodeCompletion_noKey :
    let s := after (.topup 1 (List.replicate 20 0x30)) running
    peek (after .decodeCompletion s) 0x242 = byteOf Verdict.noKey.code := by decide +kernel
theorem test_keySetCompletion :
    let s := afterAll [.keySet 0 7, .keySetCompletion] running
    s.code.key = 7 ∧ s.code.decoder = .idle ∧ slipState s 0 = .done := by decide +kernel
theorem test_tariffLoadCompletion_refuses :
    let s := afterAll [.tariffLoad 0 0x800, .tariffLoadCompletion] running
    s.tariff.active = none ∧ peekBytes s 0x21C 2 = [3, 0] := by decide +kernel
theorem test_switchChange_wakes :
    (after (.switchChange .coverSw .opened)
      { inPower .watch with power := { (inPower .watch).power with watch := .asleep } }).power.watch = .awake := by decide +kernel
theorem test_switchEvent_places_tamper :
    let s := afterAll [.switchChange .caseSw .opened, .switchEvent .caseSw] (inMachine .closed)
    s.tamper.records.caseOpen.status = .active ∧ s.supply.machine = .opening := by decide +kernel
theorem test_holdTimer_and_timedWake :
    (after .holdTimerExpiry (inPower .watch)).power.watch = .asleep ∧
    (afterAll [.holdTimerExpiry, .timedWake] (inPower .watch)).power.watch = .timedWake := by decide +kernel
theorem test_mainsLoss_final_frame :
    (after (.mainsLoss 500 steady) running).energy.billed = ⟨0, 500000⟩ ∧
    (after (.mainsLoss 500 steady) running).power.state = .holdup := by decide +kernel
theorem test_resetnLow_no_frame : (after .resetnLow running).energy.billed = ⟨0, 0⟩ := by decide +kernel
theorem test_holdupCompletion_watch :
    (afterAll [.mainsLoss 0 steady, .holdupCompletion 0] running).power.state = .watch := by decide +kernel
theorem test_resetn_cycle :
    (afterAll [.resetnLow, .holdupCompletion 0, .resetnRelease 4] running).power.stage = .recomputed := by decide +kernel
theorem test_mainsReturn_first_start :
    let s := after (.mainsReturn 4) State.reset
    s.power.formatMark = true ∧ s.supply.machine = .opened ∧ s.strip.writeIndex = 2 := by decide +kernel
theorem test_reVerification :
    let s := after (.mainsReturn 4) State.reset
    isRunning (after .reVerification s) = false ∧ isRunning (after (.conversionComplete 3) s) = true := by decide +kernel
theorem test_storeRead_wraps :
    (afterAll [.storeWrite 0xFFF [7], .storeRead 0xFFF ⟨2, false⟩] running).link.dataOut = [7, 0] ∧
    (afterAll [.storeWrite 0xFFF [7], .storeRead 0xFFF ⟨1, false⟩, .storeRead 0 ⟨1, true⟩] running).link.dataOut =
      [7, 0] := by decide +kernel
theorem test_storeWrite_collides :
    (after (.storeWrite 0x1FF [5, 0, 9]) running).link.collision = some 0x200 := by decide +kernel
theorem test_topup_taken :
    (after (.topup 3 (List.replicate 20 0x31)) running).code.decoder =
      .decoding (.slip 3 true) (List.replicate 20 0x31) := by decide +kernel
theorem test_keySet_stores : (after (.keySet 0 0x0102030405060708) running).code.key = 0x0102030405060708 := by decide +kernel
theorem test_tariffLoad_offset :
    slipState (after (.tariffLoad 0 0xFA1) running) 0 = .done ∧
    slipState (after (.tariffLoad 0 0xFA0) running) 0 = .taken := by decide +kernel
theorem test_clockSet_back :
    (after (.clockSet 0 5000) { running with clock := ⟨8601, true, true, some 0⟩ }).tamper.records.clockBack.status =
      .latched := by decide +kernel
theorem test_supplyOrder_release :
    let s := inMachine .opened
    (after (.supplyOrderRelease 0)
      { s with supply := { s.supply with causes := ⟨false, true, false, false⟩ } }).supply.machine = .awaitConfirm := by
  decide +kernel
theorem test_settingsWrite_clamps :
    let s := afterAll [.storeWrite 0x800 ({ Settings.default with windowW := 0, windowK := 9 } : Settings).image,
      .settingsWrite 0 0x800] running
    s.settings.windowW = 1 ∧ s.settings.windowK = 1 ∧ peekBytes s 0x21D 3 = [0x80, 0x01, 0] := by decide +kernel
theorem test_settingsFetch :
    peekBytes (after (.settingsFetch 0 0x900) running) 0x900 5 = [20, 0, 12, 200, 0] := by decide +kernel
theorem test_profileSetup :
    (after (.profileSetup 0 0x800 2 0 255) running).profile.desc = some ⟨0x800, 2, 0, 255, 0⟩ := by decide +kernel
theorem test_capture : peekBytes (after (.capture 0) running) 0x21C 5 = [100, 0, 0, 0, 1] := by decide +kernel
theorem test_slipKindUnknown :
    peek (after (.slipKindUnknown 0 9) running) 0x202 = byteOf Verdict.badKind.code := by decide +kernel
theorem test_apend_and_aack :
    let s := afterAll [.keyPress .erase, .apendRead ⟨1, 2⟩, .aackWrite [0x80, 0]] running
    s.link.latched = 0 ∧ (afterAll [.keyPress .erase, .aackWrite [0x80, 0]] running).link.latched = 0x80 := by decide +kernel
theorem test_aconfWrite_pulse :
    (afterAll [.aconfWrite [0x55, 0x55, 0x11], .keyPress .erase] running).link.attnPulse = true := by decide +kernel
theorem test_clearCollision :
    (afterAll [.storeWrite 0 [1], .clearCollision] running).link.collision = none := by decide +kernel
theorem test_linkReset :
    let s := afterAll [.topup 0 (List.replicate 20 0x30), .linkReset false] running
    s.code.decoder = .decoding (.slip 0 false) (List.replicate 20 0x30) ∧ slipState s 0 = .free := by decide +kernel
theorem test_ignored_transfers :
    (after (.regWriteIgnored 0 [3]) running).link.collision = none ∧
    (after (.operationIgnored 0x40 2) running).link.dataOut = [0, 0] := by decide +kernel
theorem test_attnPulseEnd :
    attnAsserted (after .attnPulseEnd { running with link := { Link.empty with aconf := 0x115555, attnPulse := true } }) =
      false := by decide +kernel
theorem test_registerRead :
    (after (.apendRead ⟨5, 4⟩) running).link.dataOut = [0x10, 0x71, 0x01, 0] ∧
    (after (.apendRead ⟨0, 1⟩) running).link.dataOut = [1] ∧
    (after (.apendRead ⟨6, 2⟩) running).link.dataOut = [0, 0] := by decide +kernel
/-- The battery domain lost in WATCH, where a fitting begins the clock again, and in DARK, where it does not. -/
theorem test_battery :
    (after .batteryRemoved (onBattery .watch)).clock.running = false ∧
    (after .batteryRemoved (onBattery .watch)).power.state = .watch ∧
    (afterAll [.batteryRemoved, .batteryFitted] (onBattery .watch)).clock = ⟨0, false, true, some 0⟩ ∧
    (afterAll [.batteryRemoved, .batteryFitted] (onBattery .dark)).clock.running = false ∧
    (after .batteryFitted State.reset).clock.running = true := by decide +kernel
/-- R167: a part without a battery enters DARK at its first WATCH conversion. -/
theorem test_no_battery_dark :
    let s := { inPower .watch with conv := { Converter.empty with inFlight := some .battery }
                                   pins := { running.pins with battery := false } }
    (after (.conversionComplete 4095) s).power.state = .dark := by decide +kernel
/-- R45: the derived fields read 0 once the clock is INVALID, also while the link status reads STARTING. -/
theorem test_calendarEnd_starting :
    let s := after (.mainsReturn 4) { inPower .watch with clock := ⟨3155759999, true, true, some 36524⟩ }
    linkUp s = true ∧ isRunning s = false ∧ peekBytes s 0x44 3 = [99, 12, 31] ∧
    peekBytes (after .secondTick s) 0x43 6 = [0, 0, 0, 0, 0, 0] := by decide +kernel

/-! ### Witnesses: for each statement with hypotheses, states and operands that meet them, clause by clause -/

/-- A slip of the running part can be posted. -/
theorem witness_postable (n : Fin 16) : Postable running n := ⟨by decide, by revert n; decide, by revert n; decide⟩

/-- The running part with a command in front. -/
def queued (c : Instr) : State := running.withPending [c]

theorem witness_step : (queued .secondTick).pending = .secondTick :: [] ∧ running.pending = [] ∧
    4 ≤ running.power.stage.num ∧ (inPower .mains).power.stage.num < 4 := by decide

/-- Bytes of transfers as spec/11 section 11.2 lays them out: each operation, its neighbours, the address's high byte
first, each register, both controls of LCTL and none, and transfers that end early. -/
theorem test_transfer_bytes :
    readTransfer [0x31, 0x0F, 0xFE, 0, 0, 0] = some (.storeRead 0x0FFE ⟨3, false⟩) ∧
    readTransfer [0x32, 0x01, 0x23, 0xAB] = some (.storeWrite 0x0123 [0xAB]) ∧
    readTransfer [0x35, 0x00, 0x01, 0, 0] = some (.apendRead ⟨1, 2⟩) ∧
    readTransfer [0x36, 0x00, 0x02, 0xF8, 0x01] = some (.aackWrite [0xF8, 0x01]) ∧
    readTransfer [0x36, 0x00, 0x03, 0x55] = some (.aconfWrite [0x55]) ∧
    readTransfer [0x36, 0x00, 0x04, 0x01] = some .clearCollision ∧
    readTransfer [0x36, 0x00, 0x04, 0x02] = some (.linkReset false) ∧
    readTransfer [0x36, 0x00, 0x04, 0x03, 0x00] = some (.linkReset true) ∧ readTransfer [0x36, 0x00, 0x04, 0xFC] = none ∧
    readTransfer [0x36, 0x02, 0x00, 0x07] = some (.regWriteIgnored 0x0200 [0x07]) ∧
    readTransfer [0x33, 0x01, 0x23] = some (.operationIgnored 0x33 2) ∧
    readTransfer [0x30] = some (.operationIgnored 0x30 0) ∧ readTransfer [0x31, 0x01] = none ∧
    readTransfer [0x35, 0x00, 0x01] = none ∧ readTransfer [] = none := by decide

/-- A STORE_WRITE sent as bytes reaches the byte its address names. -/
theorem test_transfer_step :
    (match step (running.withTransfer [0x32, 0x01, 0x23, 0xAB]) with
      | .next t => (peek t 0x123, t.pending)
      | _ => (0, [.secondTick])) = (0xAB, []) := by decide +kernel

theorem witness_wellFormed_commands : (Instr.frameClose steady).wellFormed = true ∧
    (∃ t, exec (.frameClose steady) running = .next t) ∧ running.strip.writeIndex ≤ 31 :=
  ⟨rfl, ⟨_, rfl⟩, by decide⟩

/-- The running part meets every invariant, and takes a step. -/
theorem witness_invariants :
    (∃ t, step (queued .secondTick) = .next t) ∧ memoryWell (queued .secondTick) ∧
    (queued .secondTick).energy.inRange ∧ pulseWell (queued .secondTick) ∧ (queued .secondTick).clock.inRange ∧
    (queued .secondTick).credit.inRange ∧ (queued .secondTick).code.inRange ∧
    (queued .secondTick).settings.inRange ∧ countsInRange (queued .secondTick) ∧
    layoutWell (queued .secondTick) ∧ causesTell (queued .secondTick) ∧ machineSafe (queued .secondTick) := by
  refine ⟨⟨_, rfl⟩, rfl, ?_, ?_, ?_, ?_, ?_, ?_, ?_, ?_, ?_, ?_⟩
  · unfold Energy.inRange Accumulator.inRange; decide
  · unfold pulseWell; decide
  · unfold Clock.inRange; decide
  · unfold Credit.inRange; decide
  · unfold CodeUnit.inRange acceptedWell
    exact ⟨⟨trivial, by decide, by decide⟩, by decide, by decide, by decide⟩
  · unfold Settings.inRange; decide
  · unfold countsInRange; decide
  · exact ⟨by decide, by intro d h; cases h⟩
  · unfold causesTell; decide
  · unfold machineSafe; decide

theorem witness_slipsWell : slipsWell (queued .secondTick) := by
  refine ⟨by decide, by decide, ?_, ?_, fun h => absurd h (by decide)⟩
  · intro n
    have h : slipState (queued .secondTick) n ≠ .taken := by revert n; decide
    refine ⟨fun g => absurd g h, ?_⟩
    rintro ((⟨c, hc⟩ | ⟨l, hl⟩) | ⟨l, hl, -⟩)
    · cases hc
    · cases hl
    · cases hl
  · rintro n ⟨-, l, hl, -⟩
    cases hl

theorem witness_frame : isRunning running = true ∧ running.front.running = true ∧ running.energy.inRange ∧
    running.credit.inRange ∧ running.tariff.periodEnergy ≤ 4294967000 ∧ running.credit.writtenOff ≤ 4294960000 ∧
    (∀ a, running.tariff.active = some a → ∀ r ∈ a.rates, r ≤ 65535) := by
  refine ⟨by decide, by decide, ?_, ?_, by decide, by decide, fun a h => by cases h⟩
  · unfold Energy.inRange Accumulator.inRange; decide
  · unfold Credit.inRange; decide

/-- Worked example 3.7.1's schedules: the last minute of a band and the first of the next, on a Tuesday and on a Saturday. -/
theorem witness_band :
    let at_ := fun (day minute : Nat) => (⟨day * 86400 + minute * 60, true, true, none⟩ : Clock)
    worked371.weekday = [⟨0, 0⟩] ++ ⟨420, 1⟩ :: [⟨1320, 0⟩] ∧ (at_ 8403 420).count % 86400 / 60 = 420 ∧
    ((at_ 8403 420).count / 86400 + 5) % 7 = 1 ∧ ((at_ 8407 0).count / 86400 + 5) % 7 = 5 ∧
    bandOf worked371 (at_ 8403 419) = 0 ∧ bandOf worked371 (at_ 8403 420) = 1 ∧ bandOf worked371 (at_ 8403 1319) = 1 ∧
    bandOf worked371 (at_ 8403 1320) = 0 ∧ bandOf worked371 (at_ 8407 720) = 0 ∧
    bandOf worked371 { at_ 8403 420 with valid := false } = 0 ∧ worked371.rates[(2 - 1) * worked371.bands + 1]? = some 250 ∧
    rateAt worked371 2 1 = 250 := by decide

/-- The base of a frame at its edges: |P_L| at the creep threshold, the clamp, and a billed NO_VOLTAGE penalty. -/
theorem witness_billing :
    let s := { inMachine .closed with settings := { Settings.default with windowW := 1, windowK := 1 } }
    (after (.frameClose ⟨2300, 0, 0, 2000, 0⟩) s).energy.power = 2000 ∧
    (after (.frameClose ⟨2300, 0, 0, 1999, 0⟩) s).energy.basis = .none ∧
    (after (.frameClose ⟨0, 120000, 120000, 0, 0⟩) s).energy.power = 27600000 ∧
    (after (.frameClose ⟨0, 120000, 120000, 0, 0⟩)
      { s with settings := { s.settings with nominal := 260 } }).energy.clamp = true ∧
    (after (.frameClose ⟨0, 500, 500, 0, 0⟩) s).energy.basis = .noVoltage ∧
    (after (.frameClose ⟨0, 500, 500, 0, 0⟩) (inMachine .opened)).energy.power = 0 := by decide +kernel

/-- A running part with a fresh LOAD_V, an attempt in verification, a power limit and an overload count. -/
def loaded (m : MachineState) (v limit n : Nat) : State :=
  { inMachine m with
    conv := { running.conv with loadV := ⟨some v, true, false⟩ }
    supply := { (inMachine m).supply with
      attempt := some ⟨.toOpen, 1, .verify, 0, 0, none⟩, limit := limit, overCount := n } }

/-- The supply controller's part of a frame, at each edge: 200 and 80 % of V, the limit, the trip delay. -/
theorem witness_frame_supply :
    let go := fun m v limit n => (after (.frameClose steady) (loaded m v limit n)).supply
    isRunning (loaded .opening 199 0 0) = true ∧ (loaded .opening 199 0 0).front.running = true ∧
    inVerify (loaded .opening 199 0 0).supply = true ∧
    (go .opening 199 0 0).machine = .awaitConfirm ∧ (go .opening 200 0 0).machine = .opening ∧
    (go .closing 1840 0 0).machine = .closed ∧ (go .closing 1839 0 0).machine = .closing ∧
    (go .stuckClosed 199 0 0).machine = .opened ∧ (go .stuckClosed 200 0 0).machine = .stuckClosed ∧
    go .awaitConfirm 0 0 0 = (loaded .awaitConfirm 0 0 0).supply ∧
    go .closed 2300 0 5 = (loaded .closed 2300 0 5).supply ∧
    (go .closed 2300 1000 5).overCount = 0 ∧ (go .closed 2300 999 58).overCount = 59 ∧
    (go .closed 2300 999 59).overload = .waiting 300 ∧ (go .closed 2300 999 59).machine = .opening := by decide +kernel

/-- The low-battery judgement at its edges, the period in progress, and a strip with room for the notice. -/
theorem witness_frame_battery :
    let s := fun (spent : Bool) (v : Nat) => { inMachine .opened with
      conv := { running.conv with battery := ⟨some v, true, false⟩ }
      power := { running.power with spent := spent }
      profile := { Profile.factory with
        period := some ⟨0, none, none, false, false, false, false, none, 0⟩ } }
    let go := fun spent v => (after (.frameClose steady) (s spent v)).power.spent
    go false 2599 = true ∧ go false 2600 = false ∧ go true 2800 = true ∧ go true 2801 = false ∧
    (s false 2599).profile.period ≠ none ∧ linkUp running = true ∧ running.strip.writeIndex ≤ 31 ∧
    unread running < 31 ∧ running.power.spent = false := by decide +kernel

/-- A frame that judges: in OPEN a live load, with one TRUE result of BYPASS wanted, and one of NO_VOLTAGE's. -/
theorem witness_frame_windows :
    let s := { running with settings := { Settings.default with windowW := 1, windowK := 1 } }
    isRunning s = true ∧ s.front.running = true ∧
    (after (.frameClose ⟨0, 500, 0, 0, 0⟩) s).tamper.records.noVoltage.status = .active ∧
    (after (.frameClose ⟨0, 499, 0, 0, 0⟩) s).tamper.records.noVoltage.status = .clear ∧
    (afterAll [.frameClose ⟨0, 500, 0, 0, 0⟩, .frameClose steady] s).tamper.records.noVoltage.status = .latched ∧
    (after (.frameClose ⟨0, 500, 0, 0, 0⟩) s).link.latched.getLsbD 4 = true ∧
    (after (.frameClose ⟨0, 500, 0, 0, 0⟩) { s with tamper := { s.tamper with
      records := TamperRecords.factory.set .noVoltage ⟨.latched, some ⟨5, true⟩, none, 65535, false⟩ }
      }).tamper.records.noVoltage = ⟨.active, some ⟨5, true⟩, some ⟨100, true⟩, 65535, false⟩ := by
  decide +kernel

theorem witness_testPulse :
    let s := fun (p : PulseState) (n : Nat) => { running with energy := { Energy.factory with pulse := p, backlog := n } }
    (s .high 0).energy.pulse = .high ∧ (s .lowGap 1).energy.pulse = .lowGap ∧ 0 < (s .lowGap 1).energy.backlog ∧
    (s .lowGap 0).energy.backlog = 0 := by decide

/-- A conversion that ends in MAINS, with settling owed and not, with a battery and without, and while re-verification
waits, a dead load and a live one; and one that ends in WATCH. -/
theorem witness_conversion :
    let bare := { running with conv := { Converter.empty with inFlight := some .battery }
                               pins := { running.pins with battery := false } }
    let waiting := { inPower .mains with
      power := { (inPower .mains).power with stage := .recomputed }
      conv := { Converter.empty with inFlight := some .loadV } }
    let watch := { inPower .watch with conv := { Converter.empty with inFlight := some .battery } }
    running.power.state = .mains ∧ running.power.stage ≠ .recomputed ∧ running.conv.inFlight = some .loadV ∧
    (after (.conversionComplete 3000) bare).conv.battery.value = some 2199 ∧
    (after (.conversionComplete 3000) running).conv.loadV.value = some 3000 ∧
    waiting.power.stage = .recomputed ∧ waiting.conv.loadV.settle = false ∧
    (after (.conversionComplete 199) waiting).supply.machine = .opened ∧
    (after (.conversionComplete 200) waiting).supply.machine = .opening ∧
    watch.conv.inFlight = some .battery ∧ watch.power.state = .watch ∧
    (after (.conversionComplete 2200) { watch with power := { watch.power with watch := .timedWake } }).power.watch =
      .asleep := by decide +kernel

/-- CLOCK_SET's two clauses at their boundary, and the class table at each edge. -/
theorem witness_clockSet : (3155759999#32).toNat < calendarEnd ∧ calendarEnd ≤ (3155760000#32).toNat ∧
    (let c : Clock := ⟨10000, true, true, none⟩
     setClass c 10060 = .trim ∧ setClass c 10061 = .forward ∧ setClass c 9940 = .trim ∧
     setClass c 9939 = .backward ∧ setsBack c 6400 = false ∧ setsBack c 6399 = true) := by decide

/-- A part with a period in progress, one place left in the strip, little credit and a CLOCK_BACK record at its count's
end, its clock at 10,000. -/
def setting (valid : Bool) (left : Nat) : State :=
  { profiled 10000 valid 0 left with
    strip := ⟨30, 0⟩
    credit := { Credit.factory with balance := 5, state := .low }
    tamper := { running.tamper with
      records := TamperRecords.factory.set .clockBack ⟨.latched, some ⟨5, true⟩, none, 65535, false⟩ } }

/-- The setting part after a CLOCK_SET. -/
def setTo (valid : Bool) (left : Nat) (time : BitVec 32) : State := after (.clockSet 0 time) (setting valid left)

theorem witness_clockSet_postable : Postable (setting true 1) 0 := ⟨by decide, by decide, by decide⟩

theorem witness_clockSet_layout : layoutWell (setting true 1) := ⟨by decide, fun d h => by cases h; decide⟩

/-- The period after a TRIM of 60 s, which leaves it and the strip, and after steps with remaining counts 1, 0 and 255. -/
theorem witness_clockSet_period :
    (setting true 1).profile.period.map Period.wh = some 7 ∧ unread (setting true 1) < 31 ∧
    (setTo true 1 10060).profile = (setting true 1).profile ∧ (setTo true 1 10060).strip = ⟨30, 0⟩ ∧
    (setTo true 1 6399).profile.desc.map Descriptor.remaining = some 0 ∧
    (setTo true 0 10061).profile.unrecorded = 1 ∧ peek (setTo true 255 10061) 0x81A = 8 := by decide +kernel

/-- CLOCK_BACK after steps back by 3,600 s and by 3,601 s, the record full and first at its old stamp. -/
theorem witness_clockSet_back :
    (setTo true 1 6400).tamper.records.clockBack.last = none ∧
    (setTo true 1 6399).tamper.records.clockBack = ⟨.latched, some ⟨5, true⟩, some ⟨6399, true⟩, 65535, false⟩ ∧
    (setTo true 1 6399).link.latched.getLsbD 4 = true ∧ (setting true 1).credit.state ≠ .exhausted := by decide +kernel

/-- The notice in the strip's last place and the result after a first set. -/
theorem witness_clockSet_notice :
    peekBytes (setTo false 1 7) 0x7E0 2 = [byteOf NoticeKind.clockStep.code, 128] ∧
    peek (setTo false 1 7) 0x220 = 0 := by decide +kernel

/-- The part on the tariff of worked example 3.7.1, in block 1. -/
def banded (n : Nat) (valid : Bool) : State :=
  { running with
    clock := ⟨n, valid, true, some 0⟩
    tariff := { TariffUnit.factory with active := some worked371, periodIndex := some 0, chargedDay := some 0 } }

/-- R62's block and band follow the clock. Day 2 is a Monday, with the switch point 07:00 to band 1: its minute tick and
no second before it, a CLOCK_SET across it, and the end of the calendar, where the band reads 0. -/
theorem test_band_follows_the_clock :
    let day := 2 * 86400
    peek (after .secondTick (banded (day + 25198) true)) 0x4A = 0 ∧
    peek (after .secondTick (banded (day + 25199) true)) 0x4A = 0x11 ∧
    peek (after (.clockSet 0 (BitVec.ofNat 32 (day + 25200))) (banded 100 true)) 0x4A = 0x11 ∧
    peek (after .secondTick (banded 3155759999 true)) 0x4A = 1 := by decide +kernel

/-- A tick while RUNNING, the idle timer on both sides of its timeout; and one outside it, at the calendar's end too. -/
theorem witness_secondTick :
    let typed := fun n => { running with code := { running.code with line := [1], idle := n } }
    let ends := { inPower .mains with clock := ⟨3155759999, true, true, none⟩ }
    running.clock.running = true ∧ running.clock.count < 4294967295 ∧
    isRunning running = true ∧ running.code.scanning = true ∧ running.code.held = false ∧
    (after .secondTick (typed 29)).code.line = [1] ∧ (after .secondTick (typed 30)).code.line = [] ∧
    (inPower .watch).clock.running = true ∧ isRunning (inPower .watch) = false ∧
    isRunning ends = false ∧ ends.clock.valid = true ∧ ends.clock.count + 1 = 3155760000 := by decide +kernel

/-- A part OPEN over an overload alone, with two trips an hour before the day's end, one a second outside the window. -/
def overloaded (n : Nat) (o : Overload) : State :=
  { inMachine .opened with
    clock := ⟨n, true, true, some 0⟩
    supply := { (inMachine .opened).supply with
      causes := ⟨false, false, false, true⟩, overload := o, trips := [86400 - 3601, 86400 - 3600] } }

theorem witness_dayChange_layout : layoutWell (overloaded 86399 .latched) := ⟨by decide, fun d h => by cases h⟩

/-- Day change, reclose wait and trip history at their edges. -/
theorem witness_dayChange :
    let go := fun n o => after .secondTick (overloaded n o)
    isRunning (overloaded 86399 .latched) = true ∧
    (go 86399 .latched).supply.overload = .none ∧ (go 86398 .latched).supply.overload = .latched ∧
    (go 86399 .latched).clock.announced = some 1 ∧ (go 5 (.waiting 2)).supply.overload = .waiting 1 ∧
    (go 5 (.waiting 1)).supply.overload = .none ∧ (go 86399 .latched).supply.trips = [86400 - 3600] ∧
    (go 86398 .latched).supply.trips.length = 2 := by decide +kernel

/-- A period that closes at the minute tick, and is recorded. -/
theorem test_secondTick_period :
    (after .secondTick (profiled 59 true 0 1)).profile.desc = some ⟨0x800, 2, 0, 0, 0⟩ := by decide +kernel

/-- A minute tick over a period: due with the clock VALID by its slot and INVALID by its minutes, at the last minute and
one before it, with remaining counts 0, 1 and 255. -/
theorem witness_period :
    let slot := fun n d => n / (60 * (d + 1))
    isRunning (profiled 59 true 0 1) = true ∧ (profiled 59 true 0 1).clock.running = true ∧
    (profiled 59 true 0 0).profile.desc = some ⟨0x800, 2, 0, 0, 1⟩ ∧
    (profiled 59 false 0 255).profile.desc = some ⟨0x800, 2, 0, 255, 1⟩ ∧
    (profiled 59 true 0 1).profile.period.map Period.minutes = some 0 ∧ (59 + 1) % 60 = 0 ∧
    0 < slot 60 0 ∧ ¬ 0 < slot 60 1 ∧ ¬ 0 < slot 240 4 ∧ 0 < slot 300 4 := by decide

theorem witness_period_layout : layoutWell (profiled 59 true 0 1) := ⟨by decide, fun d h => by cases h; decide⟩

/-- The banded part one second before a minute of day 40, its index and charged day of day 0, with a pending tariff of
another daily charge whose time is a second. -/
def minuteDue (at_ : Nat) (valid : Bool) : State :=
  let s := banded (40 * 86400 + 119) valid
  { s with tariff := { s.tariff with
      pending := some { worked371 with daily := 7, activation := at_ }, periodEnergy := 9 } }

theorem witness_minuteTick :
    let s := minuteDue (40 * 86400 + 121) true
    isRunning s = true ∧ s.clock.running = true ∧ s.clock.valid = true ∧ s.clock.count + 1 < calendarEnd ∧
    (s.clock.count + 1) % 60 = 0 ∧ s.tariff.active = some worked371 ∧
    s.tariff.pending = some { worked371 with daily := 7, activation := s.clock.count + 2 } ∧
    worked371.daily ≤ 100000 ∧ s.credit.writtenOff ≤ 4290000000 ∧ (minuteDue 0 false).clock.valid = false ∧
    (running.tariff.active = none ∧ running.tariff.pending = none) := by decide

theorem witness_minuteTick_inRange : (minuteDue 0 true).credit.inRange ∧ layoutWell (minuteDue 0 true) :=
  ⟨by unfold Credit.inRange; decide, by decide, fun d h => by cases h⟩

/-- A pending tariff a second away: the period turns under the old tariff, and 31 days are charged at its rate. -/
theorem witness_minuteTick_before :
    let t := after .secondTick (minuteDue (40 * 86400 + 121) true)
    t.tariff.active = some worked371 ∧ t.tariff.periodIndex = some 1 ∧ t.tariff.periodEnergy = 0 ∧
    t.tariff.chargedDay = some 40 ∧ t.credit.standing = -1000 * (31 * 150) ∧ peek t 0x4A = 1 := by decide +kernel

/-- Due at that tick: the activation moves the index on, period energy kept, and the new rate is charged. -/
theorem witness_minuteTick_due :
    let t := after .secondTick (minuteDue (40 * 86400 + 120) true)
    t.tariff.active = some { worked371 with daily := 7, activation := 40 * 86400 + 120 } ∧ t.tariff.pending = none ∧
    t.tariff.periodIndex = some 1 ∧ t.tariff.periodEnergy = 9 ∧ t.credit.standing = -1000 * (31 * 7) := by decide +kernel

/-- A pending tariff at its time and one second before it, with a stored period index to move on and with none. -/
theorem witness_pendingTariff :
    let s := fun (i : Option Int) (at_ : Nat) => { running with tariff := { TariffUnit.factory with
      pending := some { worked371 with activation := at_ }, periodIndex := i, periodEnergy := 9 } }
    let go := fun i a => (after .secondTick (s i a)).tariff
    isRunning (s none 101) = true ∧ (s none 101).clock.running = true ∧ (s none 101).clock.valid = true ∧
    (s none 101).clock.count + 1 < calendarEnd ∧ (s none 101).tariff.pending = some { worked371 with activation := 101 } ∧
    (100 + 1) % 60 ≠ 0 ∧ (go (some (-1)) 101).periodIndex = some 0 ∧ (go (some (-1)) 101).periodEnergy = 9 ∧
    (go (some 7) 101).periodIndex = some 7 ∧ (go none 101).periodIndex = none ∧
    (go (some 7) 102) = (s (some 7) 102).tariff := by decide +kernel

/-- TARIFF_LOAD: taken at the open area's last place, refused one byte on and on a profile area, waiting behind a load. -/
theorem witness_tariffLoad : running.tariff.load = none ∧ inOpenArea 0xFA0 96 = true ∧
    meets 0xFA0 96 (profileArea running) = false ∧ inOpenArea 0xFA1 96 = false ∧
    meets 0x800 96 (profileArea (after (.profileSetup 0 0x800 2 0 255) running)) = true ∧
    (after (.tariffLoad 0 0x800) running).tariff.load ≠ none := by decide +kernel

/-- An image of 96 bytes that passes every check: one block, one band, one point each. -/
def flatImage : List Byte :=
  leBytes 2 7 ++ leBytes 4 0 ++ [1, 1] ++ leBytes 6 0 ++ [1] ++ leBytes 2 300 ++ leBytes 22 0 ++ [1] ++ leBytes 24 0 ++
    [1] ++ leBytes 24 0 ++ leBytes 4 5 ++ leBytes 3 0

theorem witness_tariffLoadCompletion :
    let s := { running with tariff := { TariffUnit.factory with load := some ⟨flatImage, some 0x800, some 0⟩ } }
    isRunning s = true ∧ (0 : Fin 16) ∉ s.link.waiting ∧
    judgeTariff flatImage = .good ⟨7, 0, 1, 1, [], 1, [300], [⟨0, 0⟩], [⟨0, 0⟩], 5⟩ ∧
    judgeTariff (flatImage.set 6 29) = .bad 3 0 false ∧
    (after .tariffLoadCompletion { s with tariff := { s.tariff with periodIndex := some (-1), periodEnergy := 9 } }).tariff =
      ⟨some ⟨7, 0, 1, 1, [], 1, [300], [⟨0, 0⟩], [⟨0, 0⟩], 5⟩, none, some 0, 9, none, none⟩ := by decide +kernel

/-- A load whose slip a link reset has freed: a record still becomes active with its notice, a failing image leaves the
store, and no slip is written. -/
theorem witness_tariffLoad_freed :
    let s := fun image => { running with tariff := { TariffUnit.factory with load := some ⟨image, some 0x800, none⟩ } }
    let t := after .tariffLoadCompletion (s flatImage)
    (s flatImage).link.waiting = [] ∧ t.tariff.load = none ∧ t.tariff.active.map Tariff.id = some 7 ∧
    peekBytes t 0x600 8 = [byteOf NoticeKind.tariffActive.code, 129, 100, 0, 0, 0, 7, 0] ∧
    slipState t 0 = .free ∧ peekBytes t 0x21C 4 = [0, 0, 0, 0] ∧
    (after .tariffLoadCompletion (s (flatImage.set 6 29))).store = (s flatImage).store ∧
    (after .tariffLoadCompletion (s (flatImage.set 6 29))).tariff = TariffUnit.factory := by decide +kernel

theorem witness_friendly :
    (⟨1320 * 60, true, true, none⟩ : Clock).count % 86400 / 60 = 1320 ∧
    friendlyApplies ⟨360 * 60, true, true, none⟩
      { Settings.default with friendlyStart := 1320, friendlyEnd := 360 } = false ∧
    friendlyApplies ⟨1320 * 60, true, true, none⟩
      { Settings.default with friendlyStart := 1320, friendlyEnd := 360 } = true := by decide

/-- The credit rows at their boundaries. -/
theorem witness_evaluation :
    let s := fun (b : Int) => { running with credit := { Credit.factory with balance := b } }
    (evaluateCredit .minute (s 1001)).credit.state = .normal ∧ (evaluateCredit .minute (s 1000)).credit.state = .low ∧
    (evaluateCredit .minute (s 0)).credit.state = .exhausted ∧ linkUp (s 1000) = true ∧
    (s 1000).credit.state = .exhausted ∧ (evaluateCredit .minute (s 1000)).link.latched.getLsbD 6 = true := by
  decide +kernel

theorem witness_keys : isRunning running = true ∧ running.code.scanning = true ∧ running.code.keysDown = [] ∧
    running.code.held = false ∧ running.code.lockout = false ∧
    Key.enter ∉ (after (.keyPress .erase) running).code.keysDown ∧
    (after (.keyPress .erase) running).code.keysDown ≠ [] := by decide +kernel

theorem witness_enter :
    let s := fun (l : List (Fin 10)) => { running with code := { running.code with line := l } }
    (inMachine .awaitConfirm).code.line = [] ∧ (inMachine .stuckOpen).supply.machine = .stuckOpen ∧
    (s [0]).code.line = [0] ∧ (s (List.replicate 20 0)).code.line.length = 20 ∧
    (s [0, 0]).code.line ≠ [0] ∧ (s (List.replicate 19 0)).code.line.length < 20 := by decide

/-- The notice of each ENTER outcome that has one, and none of a submission: a confirmation,
no offer, a short line. (With an offer the evaluation's events come in a free order, which no test can run.) -/
theorem witness_enter_notices :
    let typed := fun (l : List (Fin 10)) => { running with code := { running.code with line := l } }
    let new := fun n s =>
      let t := after (.keyPress .enter) s
      peekBytes t (0x600 + 16 * ((t.strip.writeIndex + 31) % 32)) n
    let code := fun (entry : Nat) (outcome : Verdict) =>
      [byteOf NoticeKind.codeKeypad.code, byteOf (entry + 4 * outcome.code + 128), 100, 0, 0, 0]
    running.strip.writeIndex ≤ 31 ∧ running.strip.dropped < 65535 ∧
    new 7 (inMachine .awaitConfirm) = code 0 .confirmed ++ [byteOf MachineState.closing.code] ∧
    new 7 (inMachine .closed) = code 0 .nothingToConfirm ++ [byteOf MachineState.closed.code] ∧
    new 11 (typed [0]) = code 1 .notOffered ++ [byteOf Emergency.off.code, 0, 0, 0, 0] ∧
    new 7 (typed [0, 0]) = code 2 .badLength ++ [2] ∧
    (after (.keyPress .enter) (typed (List.replicate 20 0))).link.latched.getLsbD 7 = true ∧
    (after (.keyPress .enter) (typed (List.replicate 20 0))).strip = running.strip := by decide +kernel

theorem witness_secondCounted :
    let s := fun (r : Nat) (o : Overload) => { inMachine .stuckClosed with
      supply := { (inMachine .stuckClosed).supply with retry := r, overload := o } }
    isRunning (s 1 .none) = true ∧ (s 1 .none).supply.machine = .stuckClosed ∧ (s 1 .none).supply.retry = 1 ∧
    (s 0 (.waiting 1)).supply.overload = .waiting 1 ∧
    ({ running with code := { running.code with lock := 1, idle := 30 } } : State).code.lock = 1 ∧
    running.settings.idleTimeout = 30 ∧ running.code.scanning = true ∧ running.code.held = false := by decide

theorem witness_codeSlips : running.code.decoder = .idle ∧ running.code.waitingSub = false ∧
    (after (.keySet 0 7) running).code.decoder = .keying 0 true false ∧
    Postable (after (.keySet 0 7) running) 1 :=
  ⟨by decide, by decide, by decide +kernel, by decide +kernel, by decide +kernel, by decide +kernel⟩

/-- A KEY_SET whose slip a link reset has freed completes on the status page alone. -/
theorem witness_keySet_freed :
    let s := after (.linkReset false) (after (.keySet 3 7) running)
    let t := after .keySetCompletion s
    isRunning s = true ∧ s.code.decoder = .keying 3 false false ∧ s.code.waitingSub = false ∧ s.link.waiting = [] ∧
    t.code = { s.code with decoder := .idle } ∧ slipState t 3 = .free ∧ t.strip = s.strip ∧
    peekBytes t 0x77 12 = codeBytes t.code ∧ peekBytes s 0x77 12 ≠ codeBytes t.code := by decide +kernel

/-- A number's 20 decimal characters. -/
def codeChars (n : Nat) : List Byte := (List.range 20).map fun i => byteOf (0x30 + n / 10 ^ (19 - i) % 10)

/-- The characters of a code for the key 0, with its check. -/
def codeFor (cls seq value : Nat) : List Byte :=
  let p := cls * 2 ^ 44 + seq * 2 ^ 24 + value
  codeChars (p * 2 ^ 16 + checkOf 0 p)

/-- The running part decoding characters under the key 0. -/
def decoding (src : Source) (chars : List Byte) : State :=
  { running with code := { running.code with keySet := true, decoder := .decoding src chars } }

/-- A CREDIT code of 2,500 as a number, its sequence 4,117. -/
def creditNumber : Nat := 0x1010150009C4 * 2 ^ 16 + checkOf 0 0x1010150009C4

/-- The running part decoding it for slip 0. -/
def decodingState : State := decoding (.slip 0 true) (codeChars creditNumber)

theorem witness_creditCode : isRunning decodingState = true ∧ (0 : Fin 16) ∉ decodingState.link.waiting ∧
    (digitsOf (codeChars creditNumber)).map decimal = some creditNumber ∧ creditNumber < 2 ^ 64 ∧
    checkOf 0 (clearPart creditNumber 0) = creditNumber % 2 ^ 16 ∧
    clearFields (clearPart creditNumber 0) = ⟨1, 4117, 2500⟩ ∧ decodingState.strip.writeIndex ≤ 31 ∧
    decodingState.strip.dropped < 65535 ∧ decodingState.credit.balance + 2500 ≤ 99999999 ∧
    (after .decodeCompletion decodingState).credit.balance = 2500 := by decide +kernel

/-- Classes 2 to 5, accepted: a LATCHED kind cleared, a limit and an emergency amount clamped, an account reset. -/
theorem witness_otherCodes :
    let s := fun c => { inMachine .opened with
      credit := { Credit.factory with balance := 5000, state := .normal, emergencyAmount := 7 }
      tamper := { running.tamper with
        records := TamperRecords.factory.set .cover ⟨.latched, none, none, 1, false⟩ }
      code := (decoding .keypad c).code }
    let go := fun c => after .decodeCompletion (s c)
    (go (codeFor 2 1 (2 ^ TamperKind.cover.code))).tamper.records.cover.status = .clear ∧
    (go (codeFor 3 1 60001)).supply.limit = 60000 ∧ (go (codeFor 3 1 99)).supply.limit = 100 ∧
    (go (codeFor 3 1 0)).supply.limit = 0 ∧ (go (codeFor 4 1 100001)).credit.emergencyAmount = 100000 ∧
    (go (codeFor 5 1 0)).credit.balance = 0 ∧ (go (codeFor 5 1 0)).credit.emergency = .offered := by decide +kernel

/-- The list of 40 with a sequence at its smallest entry is taken; the keypad's hold ends; a freed slip's code notifies. -/
theorem witness_codeSources :
    let full := (List.range 40).map (2 * · + 3)
    let s := decoding .keypad (codeFor 1 4 0)
    let u := { s with code := { s.code with accepted := full, line := List.replicate 20 0, held := true } }
    let r := decoding (.slip 2 false) (codeFor 1 4 0)
    full.length = 40 ∧ full.head? = some 3 ∧ (after .decodeCompletion u).code.accepted.length = 40 ∧
    (after .decodeCompletion u).code.held = false ∧
    peek (after .decodeCompletion u) 0x600 = byteOf NoticeKind.codeKeypad.code ∧
    peek (after .decodeCompletion r) 0x600 = byteOf NoticeKind.codeRemote.code := by decide +kernel

/-- Each refusal of steps 1 to 9, with the edge of each. -/
theorem witness_refusedCode :
    let s := decoding .keypad []
    let v := fun (c : List Byte) (s : State) => (judgeCode c s).1
    let listed := { s with code := { s.code with accepted := (List.range 40).map (2 * · + 3) } }
    v [0x20] running = .badDigits ∧ v (codeChars (2 ^ 64)) running = .badFormat ∧
    v (codeChars (2 ^ 64 - 1)) running = .noKey ∧
    v (codeChars 5) { s with code := { s.code with lock := 1 } } = .locked ∧ v (codeChars 5) s = .badCheck ∧
    v (codeFor 0 1 0) s = .badClass ∧ v (codeFor 6 1 0) s = .badClass ∧
    v (codeFor 1 3 0) listed = .used ∧ v (codeFor 1 2 0) listed = .stale ∧ v (codeFor 1 4 0) listed = .ok ∧
    v (codeFor 1 1 1) { s with credit := { s.credit with balance := 99999999 } } = .overCap ∧
    v (codeFor 2 1 256) s = .badValue ∧ v (codeFor 5 1 1) s = .badValue ∧
    (after .decodeCompletion { s with code := { s.code with
      decoder := .decoding .keypad (codeChars 5), failCount := 4 } }).code.lock = 600 := by decide +kernel

theorem witness_spent : acceptedWell [5, 9] ∧ Spent 5 [5, 9] ∧ retainedValid running.power = true ∧
    (judgeCode (codeFor 1 4117 2500) (decoding .keypad [])).1 = .ok :=
  ⟨⟨⟨by decide, by decide, trivial⟩, by decide, by decide⟩, Or.inl (by decide), by decide, by decide +kernel⟩

/-- A part with a pulse running, in MAINS with and without a cause, and in HOLDUP. -/
theorem witness_coilPulse :
    let s := after (.keyPress .enter) (inMachine .awaitConfirm)
    let u := { s with supply := { s.supply with causes := ⟨false, true, false, false⟩ } }
    s.supply.coil = some .toClose ∧ s.supply.attempt = some ⟨.toClose, 1, .pulse, 0, 0, none⟩ ∧
    s.supply.causes.isEmpty = true ∧ u.supply.machine = .closing ∧ u.supply.causes.isEmpty = false ∧
    (after .resetnLow s).supply.coil = some .toClose ∧ (after .resetnLow s).supply.attempt ≠ none ∧
    (after .resetnLow s).power.state ≠ .mains := by decide +kernel

theorem witness_verifyWindow :
    let s := fun (d : Direction) (n e : Nat) => { inMachine .opening with
      supply := { (inMachine .opening).supply with attempt := some ⟨d, n, .verify, e, 0, none⟩ } }
    isRunning (s .toOpen 1 9) = true ∧ (after .verifyWindowExpiry (s .toOpen 1 9)).supply.attempt.map Attempt.extensions =
      some 10 ∧ (after .verifyWindowExpiry (s .toOpen 2 10)).supply.attempt.map Attempt.pulse = some 3 ∧
    (after .verifyWindowExpiry (s .toOpen 3 10)).supply.machine = .closed ∧
    (after .verifyWindowExpiry (s .toClose 3 10)).supply.machine = .stuckOpen ∧
    (after .verifyWindowExpiry (s .toClose 3 10)).link.latched.getLsbD 5 = true := by decide +kernel

theorem witness_closing :
    let s := (inMachine .awaitConfirm).withPending [.keyPress .enter]
    (∃ t, step s = .next t ∧ t.supply.machine = .closing) ∧ s.supply.machine ≠ .closing :=
  ⟨⟨_, rfl, by decide +kernel⟩, by decide⟩

theorem witness_reVerification :
    let s := { inPower .mains with
      power := { (inPower .mains).power with stage := .recomputed }
      conv := { Converter.empty with loadV := ⟨some 200, true, false⟩ } }
    s.power.state = .mains ∧ s.power.stage = .recomputed ∧ s.conv.loadV.value = some 200 ∧
    s.conv.loadV.fresh = true ∧ (inPower .mains).conv.loadV.value = none ∧
    (after .reVerification s).supply.machine = .opening := by decide +kernel

/-- A switch event is due in mains operation, and in WATCH, awake and asleep. -/
theorem witness_switchEvent :
    let due := fun (s : State) => { s with pins := { s.pins with caseSw := .opened } }
    let sleeping := { inPower .watch with power := { (inPower .watch).power with watch := .asleep } }
    (due running).tamper.settled .caseSw = some .closed ∧ (due running).pins.switch .caseSw ≠ .closed ∧
    mainsOperation (due running) = true ∧ mainsOperation (due (inPower .watch)) = false ∧
    (due (inPower .watch)).power.state ≠ .dark ∧ (due (inPower .watch)).power.watch = .awake ∧
    (due (inPower .watch)).power.events.length < 8 ∧
    (after (.switchEvent .caseSw) (due (inPower .watch))).tamper.settled .caseSw = some .opened ∧
    (after (.switchEvent .caseSw) (due sleeping)).tamper.settled .caseSw = some .closed := by decide +kernel

/-- The record's transitions by a switch: from CLEAR and LATCHED at the count's top, and from ACTIVE, in mains operation
and on battery. -/
theorem witness_switchRecord :
    let r := fun (st : TamperStatus) (n : Nat) => (⟨st, some ⟨5, true⟩, some ⟨6, true⟩, n, false⟩ : TamperRecord)
    let s := fun (p : PowerState) (st : TamperStatus) (n : Nat) =>
      let u := if p = .mains then running else inPower p
      { u with
        pins := { u.pins with coverSw := if st = .active then .closed else .opened }
        tamper := { u.tamper with
          coverSettled := some (if st = .active then .opened else .closed)
          records := TamperRecords.factory.set .cover (r st n) } }
    let go := fun p st n => (after (.switchEvent .coverSw) (s p st n)).tamper.records.cover
    mainsOperation (s .mains .clear 0) = true ∧ (s .mains .active 0).tamper.settled .coverSw = some .opened ∧
    go .mains .clear 65535 = ⟨.active, some ⟨100, true⟩, some ⟨100, true⟩, 65535, false⟩ ∧
    go .mains .latched 65534 = ⟨.active, some ⟨5, true⟩, some ⟨100, true⟩, 65535, false⟩ ∧
    go .mains .active 3 = ⟨.latched, some ⟨5, true⟩, some ⟨100, true⟩, 3, false⟩ ∧
    go .watch .active 3 = ⟨.latched, some ⟨5, true⟩, some ⟨100, true⟩, 3, true⟩ ∧
    (after (.switchEvent .coverSw) (s .mains .latched 0)).link.latched.getLsbD 4 = true := by decide +kernel

theorem witness_watch : (inPower .watch).power.state = .watch ∧ (inPower .watch).power.watch = .awake ∧
    (inPower .watch).pins.switch .coverSw ≠ .opened ∧ (inPower .watch).pins.switch .coverSw = .closed ∧ running.pins.switch .coverSw ≠ .opened ∧
    (after .holdTimerExpiry (inPower .watch)).power.watch = .asleep := by decide

theorem witness_holdup : running.power.state = .mains ∧ running.front.running = true ∧
    (inPower .mains).front.running = false ∧
    (after (.mainsLoss 1 steady) running).front.last.map Frame.duration = some 1 ∧
    (after (.mainsLoss 999 steady) running).front.last.map Frame.duration = some 999 ∧
    (after (.keySet 0 7) running).code.decoder = .keying 0 true false ∧
    running.profile.period = none ∧
    (after .resetnLow (profiled 100 true 0 1)).profile.saved.map SavedPeriod.endTime = some ⟨100, true⟩ ∧
    (after (.mainsLoss 1 steady) (profiled 100 true 0 1)).profile.saved.map (fun v => v.period.maxV) =
      some (some 2300) := by decide +kernel

/-- Each row of the power table: hold-up with mains absent, in reset, after completion, and a return in reset. -/
theorem witness_powerTable :
    let lost := after (.mainsLoss 0 steady) running
    let reset := after .resetnLow running
    let held := after (.holdupCompletion 0) reset
    let dark := { inPower .dark with pins := { running.pins with resetnHigh := false } }
    lost.power.state = .holdup ∧ lost.power.holdupDone = false ∧ lost.pins.mains = false ∧
    reset.pins.mains = true ∧ reset.pins.resetnHigh = false ∧ held.power.holdupDone = true ∧
    held.power.state = .holdup ∧ held.pins.mains = true ∧ dark.power.state = .dark ∧
    dark.pins.resetnHigh = false := by decide +kernel

/-- Each way into start-up, over valid retained memory and over none. -/
theorem witness_startUp :
    let held := after (.holdupCompletion 0) (after .resetnLow running)
    let back := { after .resetnLow running with pins := running.pins }
    State.reset.power.state = .dark ∧ State.reset.pins.resetnHigh = true ∧ retainedValid State.reset.power = false ∧
    (inPower .watch).pins.resetnHigh = true ∧ retainedValid (inPower .watch).power = true ∧
    held.power.holdupDone = true ∧ held.pins.mains = true ∧ held.pins.resetnHigh = false ∧
    back.power.state = .holdup ∧ back.power.holdupDone = false ∧ back.pins.resetnHigh = true ∧
    back.supply.coil = none := by decide +kernel

/-- What step 3 finds: two battery events, a loss record of RESETN, an absent mark, a dark record, a saved period. -/
def returning (absent dark : Bool) : State :=
  { onBattery .watch with
    clock := ⟨100, true, true, none⟩
    profile := { Profile.factory with
      desc := some ⟨0x800, 2, 0, 255, 1⟩
      saved := some ⟨⟨9, some 5, none, true, false, true, false, none, 3⟩, ⟨77, true⟩⟩ }
    power := { (inPower .watch).power with
      continuity := !absent, darkSinceMark := dark
      dark := some ⟨⟨60, true⟩, 2100⟩
      loss := some ⟨⟨40, true⟩, .resetn⟩
      events := [⟨.caseSw, .opened, ⟨50, true⟩, .clear, 1, none⟩,
        ⟨.coverSw, .closed, ⟨51, true⟩, .active, 2, some ⟨45, true⟩⟩] } }

/-- The start-up to steps 3 and 4: the notices in their order, the outage of 60 s, the record of the saved period. -/
theorem witness_startUpNotices :
    let t := after (.mainsReturn 3) (returning false false)
    let u := after (.mainsReturn 4) (returning true true)
    (returning false false).power.events.length ≤ 8 ∧
    t.power.events = [] ∧ peek t 0x620 = byteOf NoticeKind.powerBack.code ∧ peekBytes t 0x627 4 = [60, 0, 0, 0] ∧
    peekBytes t 0x810 4 = [77, 0, 0, 0] ∧ peekBytes u 0x627 4 = [0, 0, 0, 0] ∧
    peek u 0x630 = byteOf NoticeKind.watchLost.code ∧ peekBytes u 0x636 5 = [60, 0, 0, 0, 1] ∧
    peekBytes (after (.mainsReturn 4) (returning true false)) 0x636 7 = [0, 0, 0, 0, 2, 0, 0] := by
  decide +kernel

theorem witness_startUp_layout : layoutWell (returning false false) := ⟨by decide, fun d h => by cases h; decide⟩

/-- The other ways in, no loss record, and a saved period that is counted. -/
theorem witness_startUpWays :
    let held := { returning false false with
      pins := { running.pins with resetnHigh := false }
      power := { (returning false false).power with state := .holdup, holdupDone := true, loss := none } }
    let back := { held with pins := running.pins, power := { held.power with holdupDone := false } }
    let full := { back with profile := { back.profile with desc := some ⟨0x800, 2, 0, 0, 1⟩ } }
    peek (after (.resetnRelease 3) held) 0x620 = byteOf NoticeKind.powerBack.code ∧ back.supply.coil = none ∧
    peek (after (.holdupCompletion 3) back) 0x620 = byteOf NoticeKind.powerBack.code ∧
    (after (.holdupCompletion 4) full).profile.unrecorded = 1 := by decide +kernel

/-- BATTERY_REMOVED with and without mains; BATTERY_FITTED first in DARK, again in DARK, in WATCH, and over a running
clock. -/
theorem witness_battery :
    let bare := fun (p : PowerState) => after .batteryRemoved (onBattery p)
    (onBattery .watch).pins.battery = true ∧ (onBattery .watch).pins.mains = false ∧ running.pins.mains = true ∧
    (bare .watch).pins.battery = false ∧ (bare .watch).clock.running = false ∧ (bare .watch).power.state ≠ .dark ∧
    (bare .dark).power.state = .dark ∧ (bare .dark).power.fitted = true ∧ State.reset.pins.battery = false ∧
    State.reset.clock.running = false ∧ State.reset.power.state = .dark ∧ State.reset.power.fitted = false := by
  decide +kernel

theorem witness_transfers : linkUp running = true ∧ linkUp State.reset = false ∧
    (Instr.regWriteIgnored 5 [1]).wellFormed = true ∧ (0#16).toNat ≠ 1 ∧ (0x1001#16).toNat ≠ 1 := by decide

/-- STORE_WRITE: the scratch region's ends, a slip's body in each state of the slip, the open area free, under a profile
and under an image, at their last bytes, and a part that is STARTING. -/
theorem witness_storeWrite :
    let s := afterAll [.profileSetup 0 0x800 2 0 255, .tariffLoad 1 0x820, .tariffLoad 2 0x820] running
    let hit := fun (a : BitVec 16) => (after (.storeWrite a [9]) s).link.collision
    isRunning s = true ∧ (0x101#16).toNat + 255 ≤ 0x200 ∧
    hit 0xFF = some 0xFF ∧ hit 0x101 = none ∧ hit 0x1FF = none ∧
    slipState s 0 = .done ∧ hit 0x201 = none ∧ hit 0x23F = none ∧ slipState s 1 = .taken ∧ hit 0x241 = some 0x241 ∧
    slipState s 2 = .posted ∧ hit 0x2BF = some 0x2BF ∧ slipState s 3 = .free ∧ hit 0x2C1 = none ∧
    hit 0x600 = some 0x600 ∧ hit 0x7FF = some 0x7FF ∧ hit 0x800 = some 0x800 ∧ hit 0x81F = some 0x81F ∧
    hit 0x820 = some 0x820 ∧ hit 0x87F = some 0x87F ∧ hit 0x880 = none ∧ hit 0xFFF = none ∧
    (let u := after (.mainsReturn 4) State.reset
     linkUp u = true ∧ isRunning u = false) := by decide +kernel

/-- Each state of the slip table, reached. -/
theorem witness_slipTable :
    let k := after (.keySet 0 7) running
    slipState running 0 = .free ∧ slipState k 0 = .taken ∧ slipState (after (.keySet 1 7) k) 1 = .posted ∧
    slipState (after .keySetCompletion k) 0 = .done ∧ accepts running 0 = true ∧
    accepts (after (.storeWrite 0x241 [2]) k) 1 = false := by decide +kernel

/-- The strip with notices to free, at the ends of the span, and full. -/
theorem witness_readIndex :
    let s := { running with strip := ⟨3, 0⟩ }
    let full := { running with strip := ⟨31, 0⟩ }
    isRunning s = true ∧ readIndex s ≤ 31 ∧ unread s = 3 ∧ unread full = 31 ∧
    readIndex (after (.storeWrite 0x100 [3]) s) = 3 ∧
    (after (.storeWrite 0x100 [4]) s).link.collision = some 0x100 := by decide +kernel

theorem witness_attention : linkUp running = true ∧
    ({ running with link := { Link.empty with attnPulse := true } } : State).link.attnPulse = true ∧
    (let s := after (.keyPress .erase) running
     let t := after (.aconfWrite [0x55, 0x55, 0x11]) { s with link := { s.link with qual := 0 } }
     attnAsserted t = true) := by decide +kernel

theorem witness_linkReset : isRunning running = true ∧
    (after (.linkReset false) (after (.keySet 3 7) running)).code.decoder = .keying 3 false false ∧
    peekBytes (after (.linkReset true) (decoding (.slip 2 true) [])) 0x77 2 = [0x11, 2] ∧
    (after (.linkReset true) (decoding .keypad [])).code.decoder = .decoding .keypad [] ∧
    (let s := after (.mainsReturn 4) State.reset
     linkUp s = true ∧ isRunning s = false) := by decide +kernel

/-- SETTINGS: an image in range, one out of range, a bad minute, and the open area's last place. -/
theorem witness_settings :
    Settings.default.inRange ∧ Settings.ofImage Settings.default.image = Settings.default ∧
    ¬ ({ Settings.default with tripLimit := 11 } : Settings).inRange ∧
    ({ Settings.default with friendlyStart := 1440 } : Settings).badMinute = some 12 ∧
    inOpenArea 0xFD8 40 = true ∧ inOpenArea 0xFD9 40 = false ∧ inOpenArea 0x7FF 40 = false ∧
    meets 0x800 40 (profileArea (after (.profileSetup 0 0x800 2 0 255) running)) = true ∧
    meets 0x800 40 (imageArea (after (.tariffLoad 0 0x800) running)) = true ∧
    running.code.scanning = true ∧ running.code.held = false ∧
    (let s := afterAll [.storeWrite 0x800 ({ Settings.default with
        creep := 4, lowCredit := 0, friendlyDebt := 1000001, holdTime := 61 } : Settings).image] (inMachine .closed)
     s.credit.state ≠ .exhausted ∧ peekBytes (after (.settingsWrite 0 0x800) s) 0x21D 3 = [1, 4, 2] ∧
     (after (.settingsWrite 0 0x800) { s with credit := { s.credit with balance := 1, state := .low } }).credit.state =
       .normal) := by
  refine ⟨?_, by decide, ?_, by decide, by decide, by decide, by decide, by decide +kernel, by decide +kernel, by decide,
    by decide, by decide +kernel⟩
  · unfold Settings.inRange; decide
  · unfold Settings.inRange; decide

theorem witness_profileSetup : setupRefused running 0x800 128 59 = false ∧ setupRefused running 0x800 129 59 = true ∧
    setupRefused running 0x801 128 59 = true ∧ setupRefused running 0x800 128 6 = true := by decide

/-- The old period's record in the old area with remaining counts 255 and 1, and none with 0. -/
theorem witness_profileSetup_old :
    let go := fun (left : Nat) => after (.profileSetup 0 0x900 2 0 255) (profiled 100 true 0 left)
    peekBytes (go 255) 0x810 6 = [100, 0, 0, 0, 7, 0] ∧
    peekBytes (go 1) 0x810 6 = [100, 0, 0, 0, 7, 0] ∧ (go 1).link.latched.getLsbD 8 = true ∧
    peekBytes (go 0) 0x810 6 = [0, 0, 0, 0, 0, 0] ∧ peekBytes (go 0) 0x21C 3 = [2, 1, 0] := by decide +kernel

theorem witness_profileSetup_postable : Postable (profiled 100 true 0 1) 0 := ⟨by decide, by decide, by decide⟩

/-- R44's month lengths by 2024's February: day 8,825 is its 29th, and the next day is the 1st of March. -/
theorem test_leap_day : dateOf (8825 * 86400) = ⟨24, 2, 29⟩ ∧ dateOf (8826 * 86400) = ⟨24, 3, 1⟩ := by decide

end Sys2Proof.Tests
end

section
/-! SUPPORT. The supply controller's shared operations, field by field: what a state change, a pulse and an attempt leave
of the supply controller's record and of the aux table (R15, R114 to R118, R125). -/

namespace Sys2Proof.Machine

variable (s : State)

theorem isRunning_of_power {s t : State} (h : t.power = s.power) : isRunning t = isRunning s := by simp [isRunning, h]

theorem linkUp_of_isRunning {s : State} (h : isRunning s = true) : linkUp s = true := by
  obtain ⟨mains, running⟩ : s.power.state = .mains ∧ s.power.stage = .running := by simpa [isRunning] using h
  simp [linkUp, mains, running, Stage.num]

@[simp] theorem overSupply_supply (f : Supply → Supply) : (overSupply f s).supply = f s.supply := rfl

@[simp] theorem overSupply_conv (f : Supply → Supply) : (overSupply f s).conv = s.conv := rfl

@[simp] theorem pageSupply_supply : (pageSupply s).supply = s.supply := pageSupply_touches s .supply (by decide)

@[simp] theorem pageSupply_conv : (pageSupply s).conv = s.conv := pageSupply_touches s .conv (by decide)

@[simp] theorem supplyNotice_supply (old : MachineState) (x : SupplyTrigger) (u : Bool) :
    (supplyNotice old x u s).supply = s.supply := notice_touches s _ _ _ .supply (by decide)

@[simp] theorem raise_supply (c : AttnCause) : (raise c s).supply = s.supply := raise_touches s c .supply (by decide)

/-- A state change ends the attempt and the retry timer and leaves the causes, the mark and the coil (R116, R125). -/
@[simp] theorem changeMachine_supply (m : MachineState) (x : SupplyTrigger) (u : Bool) :
    (changeMachine m x u s).supply = { s.supply with
      machine := m, attempt := none, retry := 0,
      overCount := if s.supply.machine = .closed then 0 else s.supply.overCount } := by
  have mark : ∀ t : State, (profileSupplyOpen t).supply = t.supply := fun _ => rfl
  simp [changeMachine, apply_ite State.supply, mark]

@[simp] theorem changeMachine_conv (m : MachineState) (x : SupplyTrigger) (u : Bool) :
    (changeMachine m x u s).conv = s.conv := changeMachine_touches s m x u .conv (by decide)

/-- An attempt begins with pulse number 1 and drives its coil (R114, R115). -/
@[simp] theorem beginAttempt_supply (d : Direction) :
    (beginAttempt d s).supply = { s.supply with attempt := some ⟨d, 1, .pulse, 0, 0, none⟩, coil := some d } := by
  simp [beginAttempt, beginPulse]

@[simp] theorem beginAttempt_conv (d : Direction) : (beginAttempt d s).conv = s.conv.pulseBegins := by
  simp [beginAttempt, beginPulse]

@[simp] theorem enterOpening_supply (x : SupplyTrigger) :
    (enterOpening x s).supply = { s.supply with
      machine := .opening, attempt := some ⟨.toOpen, 1, .pulse, 0, 0, none⟩, coil := some .toOpen, retry := 0,
      overCount := if s.supply.machine = .closed then 0 else s.supply.overCount } := by
  simp [enterOpening]

@[simp] theorem enterOpening_conv (x : SupplyTrigger) : (enterOpening x s).conv = s.conv.pulseBegins := by
  simp [enterOpening]

end Sys2Proof.Machine
end

section
/-! PROOF. The end of a coil pulse, by the power state and the cause set (R16, R115, R118, R126). -/

namespace Sys2Proof.Machine

theorem exec_coilPulseEnd {s : State} {d : Direction} (coil : s.supply.coil = some d) :
    exec .coilPulseEnd s = .next (endPulse s) := by simp [exec, execCoilPulseEnd, coil]

/-- In MAINS the pulse's end begins the verify window and resumes the converter where it was. -/
theorem endPulse_verifies {s : State} {a : Attempt} (attempt : s.supply.attempt = some a) (mains : s.power.state = .mains)
    (free : ¬(s.supply.machine = .closing ∧ s.supply.causes.isEmpty = false)) :
    (endPulse s).supply = { s.supply with coil := none, attempt := some { a with phase := .verify, window := 2000 } } ∧
    (endPulse s).conv = { s.conv with inFlight := some s.conv.next } := by
  simp [endPulse, mains, free, attempt, Converter.pulseEnds, Converter.start]

/-- A close attempt that finds a cause turns to opening, over the resumed converter. -/
theorem endPulse_turns {s : State} (mains : s.power.state = .mains) (closing : s.supply.machine = .closing)
    (cause : s.supply.causes.isEmpty = false) :
    endPulse s =
      enterOpening .pulseEnd ((overSupply (fun p => { p with coil := none }) s).withConv s.conv.pulseEnds) := by
  simp [endPulse, mains, closing, cause]

/-- Outside MAINS the attempt is abandoned, and a moving state is marked unverified. -/
theorem endPulse_abandons {s : State} (other : s.power.state ≠ .mains) :
    (endPulse s).conv = s.conv ∧ (endPulse s).supply = { s.supply with
      coil := none, attempt := none,
      unverified := decide (s.supply.machine = .opening ∨ s.supply.machine = .closing) } := by
  rw [endPulse, if_neg other]
  exact ⟨rfl, rfl⟩

/-- Settles O35: the three ends of a pulse, each by its lemma. -/
theorem coilPulseEndBeginsTheWindow : Obligations.CoilPulseEndBeginsTheWindow := by
  unfold Obligations.CoilPulseEndBeginsTheWindow
  intro s d a coil attempt
  rw [exec_coilPulseEnd coil]
  refine ⟨fun mains free => ?_, fun mains closing cause => ?_, fun other => ?_⟩
  · exact ⟨_, rfl, endPulse_verifies attempt mains free⟩
  · rw [endPulse_turns mains closing cause]
    exact ⟨_, rfl, by simp [Converter.pulseBegins]⟩
  · obtain ⟨conv, supply⟩ := endPulse_abandons other
    exact ⟨_, rfl, conv, supply⟩

end Sys2Proof.Machine
end

section
/-! PROOF. The converter's completions: the table after one (R10, R11, R16), the re-verification it may serve (R14, R128,
R129), and the judgement in WATCH (R17, R167, R169). -/

namespace Sys2Proof.Machine

theorem Converter.get_set_same (c : Converter) (ch : Channel) (e : AuxEntry) : (c.set ch e).get ch = e := by
  cases ch <;> rfl

theorem Converter.get_set_other (c : Converter) {ch d : Channel} (e : AuxEntry) (h : d ≠ ch) :
    (c.set ch e).get d = c.get d := by
  cases ch <;> cases d <;> first | rfl | exact absurd rfl h

@[simp] theorem Converter.get_start (c : Converter) (ch d : Channel) : (c.start ch).get d = c.get d := by cases d <;> rfl

/-- An absent battery reads below 2,200 mV, and every other channel as converted (R167). -/
theorem Channel.reads_eq (ch : Channel) (p : Pins) (v : Nat) :
    ch.reads p v = if ch = .battery ∧ p.battery = false then min v 2199 else v := by
  cases ch <;> cases h : p.battery <;> simp [Channel.reads, h]

/-- A completion writes the entry, or discards the result where settling is owed (R10, R16). -/
theorem AuxEntry.complete_eq (e : AuxEntry) (ch : Channel) (v : Nat) :
    e.complete ch v = if e.settle = true then { e with settle := false } else ⟨some (min v ch.top), true, false⟩ := by
  unfold AuxEntry.complete
  split <;> simp_all

/-- The table after a conversion of `ch` completes in MAINS, with the next channel's conversion begun. -/
def conversionTable (ch : Channel) (v : Nat) (s : State) : Converter :=
  (s.conv.set ch ((s.conv.get ch).complete ch (ch.reads s.pins v))).start ch.succ

theorem exec_conversionComplete_mains {s : State} {ch : Channel} (v : Nat) (mains : s.power.state = .mains)
    (flight : s.conv.inFlight = some ch) :
    exec (.conversionComplete v) s = .next (tryReverify (s.withConv (conversionTable ch v s))) := by
  simp [exec, execConversionComplete, mainsConversion, conversionTable, mains, flight]

theorem exec_conversionComplete_watch {s : State} {ch : Channel} (v : Nat) (watch : s.power.state = .watch)
    (flight : s.conv.inFlight = some ch) : exec (.conversionComplete v) s = .next (watchConversion v s) := by
  simp [exec, execConversionComplete, watch, flight]

theorem tryReverify_of_stage_ne {s : State} (h : s.power.stage ≠ .recomputed) : tryReverify s = s := by
  simp [tryReverify, h]

theorem tryReverify_of_fresh {s : State} {v : Nat} {b : Bool} (mains : s.power.state = .mains)
    (stage : s.power.stage = .recomputed) (fresh : s.conv.loadV = ⟨some v, true, b⟩) :
    tryReverify s = startStep56 v s := by
  simp [tryReverify, mains, stage, fresh]

/-- With steps 1 to 4 done, RE_VERIFICATION is the attempt at re-verification alone (R129, R173). -/
theorem exec_reVerification_of_recomputed {s : State} (mains : s.power.state = .mains)
    (stage : s.power.stage = .recomputed) : exec .reVerification s = .next (tryReverify s) := by
  simp [exec, execReVerification, stepsTo, mains, stage, Stage.num]

/-- Step 5 resolves the machine, clears the mark and keeps the cause set (R128, R129). -/
theorem resolveSupply_supply (loadV : Nat) (s : State) :
    (resolveSupply loadV s).supply.machine =
        resolveMachine s.supply.machine (decide (200 ≤ loadV)) s.supply.causes.isEmpty ∧
      (resolveSupply loadV s).supply.unverified = false ∧ (resolveSupply loadV s).supply.causes = s.supply.causes := by
  unfold resolveSupply
  dsimp only
  split <;> split <;> simp_all

/-- The re-verification leaves LOAD_V taken: an open attempt that it begins only clears fresh marks (R14, R15). -/
theorem resolveSupply_loadV_fresh {loadV : Nat} {s : State} (h : s.conv.loadV.fresh = false) :
    (resolveSupply loadV s).conv.loadV.fresh = false := by
  unfold resolveSupply
  dsimp only
  split <;> split <;> simp [h, Converter.pulseBegins, AuxEntry.disturbed]

theorem startStep6_runs {s : State} (mains : s.power.state = .mains) :
    isRunning (startStep6 s) = true ∧ (startStep6 s).front.running = true := by
  constructor
  · rw [startStep6, isRunning_of_power (raise_touches _ .start .power (by decide))]
    simp [isRunning, overPower, overCode, mains]
  · rw [startStep6, (raise_touches _ .start .front (by decide) : _ = _)]
    rfl

theorem startStep6_supply (s : State) : (startStep6 s).supply = s.supply := startStep6_touches s .supply (by decide)

theorem startStep6_conv (s : State) : (startStep6 s).conv = s.conv := startStep6_touches s .conv (by decide)

/-- Steps 5 and 6 with LOAD_V taken: the part runs, and the machine is resolved (R14, R128, R129, R173). -/
theorem startStep56_resolves {s : State} (loadV : Nat) (mains : s.power.state = .mains) :
    isRunning (startStep56 loadV s) = true ∧ (startStep56 loadV s).front.running = true ∧
    (startStep56 loadV s).supply.unverified = false ∧ (startStep56 loadV s).conv.loadV.fresh = false ∧
    (startStep56 loadV s).supply.causes = s.supply.causes ∧
    (startStep56 loadV s).supply.machine =
      resolveMachine s.supply.machine (decide (200 ≤ loadV)) s.supply.causes.isEmpty := by
  let taken := s.withConv { s.conv with loadV := s.conv.loadV.taken }
  have power : (resolveSupply loadV taken).power = s.power := resolveSupply_touches taken loadV .power (by decide)
  obtain ⟨running, front⟩ := startStep6_runs (s := resolveSupply loadV taken) (by rw [power, mains])
  obtain ⟨machine, mark, causes⟩ := resolveSupply_supply loadV taken
  have fresh : (resolveSupply loadV taken).conv.loadV.fresh = false := resolveSupply_loadV_fresh rfl
  unfold startStep56
  rw [startStep6_supply, startStep6_conv]
  exact ⟨running, front, mark, fresh, causes, machine⟩

/-- The resolution's table, by the reading first (R129). -/
theorem resolveMachine_reading (m : MachineState) (loadV : Nat) (empty : Bool) :
    resolveMachine m (decide (200 ≤ loadV)) empty =
      if loadV < 200 then
        if empty = false then .opened else if m = .stuckOpen then .stuckOpen else .awaitConfirm
      else if empty = false then .opening
      else if m = .opening ∨ m = .opened ∨ m = .awaitConfirm then .opening else .closed := by
  by_cases dead : loadV < 200
  · simp only [dead, if_true, decide_eq_false (Nat.not_le.mpr dead)]
    cases empty <;> cases m <;> rfl
  · simp only [dead, if_false, decide_eq_true (Nat.not_lt.mp dead)]
    cases empty <;> cases m <;> rfl

/-- Settles O13: the table written, and, at the waiting re-verification, steps 5 and 6 over it. -/
theorem conversionInMainsWritesItsChannel : Obligations.ConversionInMainsWritesItsChannel := by
  unfold Obligations.ConversionInMainsWritesItsChannel
  intro ch v s mains flight
  have written : (conversionTable ch v s).get ch = (s.conv.get ch).complete ch (ch.reads s.pins v) := by
    simp [conversionTable, Converter.get_set_same]
  refine ⟨conversionTable ch v s, ?_, fun d other => ?_, rfl, fun stage => ?_, fun stage => ⟨?_, ?_⟩⟩
  · rw [written, AuxEntry.complete_eq, Channel.reads_eq]
  · simp [conversionTable, Converter.get_set_other _ _ other]
  · rw [exec_conversionComplete_mains v mains flight, tryReverify_of_stage_ne (by exact stage)]
  · rw [exec_conversionComplete_mains v mains flight, exec_reVerification_of_recomputed (by exact mains) (by exact stage)]
  · rintro rfl settled
    have fresh : (conversionTable .loadV v s).loadV = ⟨some (min v 3000), true, false⟩ := by
      change (conversionTable .loadV v s).get .loadV = _
      rw [written, AuxEntry.complete_eq, if_neg (by simp [Converter.get, settled])]
      rfl
    obtain ⟨running, front, mark, taken, causes, machine⟩ :=
      startStep56_resolves (s := s.withConv (conversionTable .loadV v s)) (min v 3000) mains
    refine ⟨_, exec_conversionComplete_mains v mains flight, ?_⟩
    rw [tryReverify_of_fresh (by exact mains) (by exact stage) fresh]
    refine ⟨running, front, mark, taken, causes, machine.trans ?_⟩
    have dead : min v 3000 < 200 ↔ v < 200 := by omega
    simp only [resolveMachine_reading, dead, State.withConv_supply]

/-- A WATCH conversion below 2,200 mV enters DARK: the dark record holds the value, and the battery domain is lost. -/
theorem watchConversion_dark {v : Nat} {s : State} (low : Channel.battery.reads s.pins v < 2200) :
    let t := watchConversion v s
    t.power.state = .dark ∧ t.power.dark = some ⟨now s, Channel.battery.reads s.pins v⟩ ∧ t.power.continuity = false ∧
      t.clock = s.clock.stop ∧ t.tamper = { s.tamper with caseSettled := none, coverSettled := none } := by
  have value : min (Channel.battery.reads s.pins v) Channel.battery.top = Channel.battery.reads s.pins v := by
    simp only [Channel.top]; omega
  simp [watchConversion, value, low, enterDark, loseDomain, overPower, now]

/-- At 2,200 mV and above the watch goes on: only the aux table changes, and a timed wake ends asleep. -/
theorem watchConversion_stays {v : Nat} {s : State} (high : 2200 ≤ Channel.battery.reads s.pins v) :
    let t := watchConversion v s
    t.clock = s.clock ∧ t.tamper = s.tamper ∧
      t.power = if s.power.watch = .timedWake then { s.power with watch := .asleep, wakeTimer := 60 } else s.power := by
  have value : ¬ min (Channel.battery.reads s.pins v) Channel.battery.top < 2200 := by
    simp only [Channel.top]; omega
  by_cases timed : s.power.watch = .timedWake <;> simp [watchConversion, value, timed, overPower]

/-- BATTERY is written and taken at the completion, and no conversion is in flight, whatever the judgement (R17). -/
theorem watchConversion_conv (v : Nat) (s : State) :
    (watchConversion v s).conv =
      { s.conv with battery := ⟨some (min (Channel.battery.reads s.pins v) 4095), false, false⟩, inFlight := none } := by
  unfold watchConversion
  dsimp only
  split
  · rfl
  · split <;> rfl

/-- Settles O14: the two sides of the 2,200 mV boundary, each by its lemma. -/
theorem conversionInWatchJudgesTheBattery : Obligations.ConversionInWatchJudgesTheBattery := by
  unfold Obligations.ConversionInWatchJudgesTheBattery
  intro ch v s watch flight
  refine ⟨_, exec_conversionComplete_watch v watch flight, ?_⟩
  change let got := Channel.battery.reads s.pins v; _
  rw [watchConversion_conv]
  refine ⟨rfl, rfl, rfl, fun low => watchConversion_dark low, fun high => ?_⟩
  obtain ⟨clock, tamper, power⟩ := watchConversion_stays high
  refine ⟨?_, clock, tamper, fun timed => ?_, fun awake => ?_⟩
  · rw [power]
    split <;> exact watch
  · rw [power, if_pos timed]
  · rw [power, if_neg awake]

end Sys2Proof.Machine
end

section
/-! PROOF. WATCH's wakes and sleeps, and the battery domain lost and begun (R17, R40, R164, R167, R169). -/

namespace Sys2Proof.Machine

theorem Pins.switch_turn (p : Pins) (w : SwitchId) (x : Position) : (p.turn w x).switch w = x := by cases w <;> rfl

theorem exec_switchChange_watch {w : SwitchId} {p : Position} {s : State} (watch : s.power.state = .watch)
    (turns : s.pins.switch w ≠ p) :
    exec (.switchChange w p) s = .next (watchChange (s.withPins (s.pins.turn w p))) := by
  simp [exec, execSwitchChange, watch, turns]

theorem exec_switchChange_other {w : SwitchId} {p : Position} {s : State} (other : s.power.state ≠ .watch)
    (turns : s.pins.switch w ≠ p) : exec (.switchChange w p) s = .next (s.withPins (s.pins.turn w p)) := by
  simp [exec, execSwitchChange, other, turns]

theorem exec_switchChange_same {w : SwitchId} {p : Position} {s : State} (same : s.pins.switch w = p) :
    exec (.switchChange w p) s = .next s := by simp [exec, execSwitchChange, same]

/-- A switch change wakes the part and restarts the hold timer (R167). -/
theorem watchChange_power (s : State) :
    (watchChange s).power = { s.power with watch := .awake, holdTimer := s.settings.holdTime, wakeTimer := 0 } := by
  unfold watchChange
  split <;> rfl

/-- A wake from sleep, and no other, begins a BATTERY conversion (R17). -/
theorem watchChange_conv (s : State) :
    (watchChange s).conv = if s.power.watch = .asleep then s.conv.start .battery else s.conv := by
  unfold watchChange
  split <;> rfl

theorem watchChange_pins (s : State) : (watchChange s).pins = s.pins := watchChange_touches s .pins (by decide)

theorem exec_holdTimerExpiry_awake {s : State} (watch : s.power.state = .watch) (awake : s.power.watch = .awake) :
    exec .holdTimerExpiry s = .next (s.withPower { s.power with watch := .asleep, holdTimer := 0, wakeTimer := 60 }) := by
  simp [exec, execHoldTimerExpiry, watch, awake, overPower]

theorem exec_timedWake_asleep {s : State} (watch : s.power.state = .watch) (asleep : s.power.watch = .asleep) :
    exec .timedWake s =
      .next ((s.withPower { s.power with watch := .timedWake, wakeTimer := 0 }).withConv (s.conv.start .battery)) := by
  simp [exec, execTimedWake, watch, asleep, overPower]

theorem exec_batteryRemoved_domain {s : State} (fitted : s.pins.battery = true) (absent : s.pins.mains = false) :
    exec .batteryRemoved s = .next (loseDomain (s.withPins { s.pins with battery := false })) := by
  simp [exec, execBatteryRemoved, fitted, absent]

theorem exec_batteryRemoved_pin {s : State} (h : s.pins.battery = false ∨ s.pins.mains = true) :
    exec .batteryRemoved s = .next (s.withPins { s.pins with battery := false }) := by
  rcases h with h | h <;> simp [exec, execBatteryRemoved, h]

/-- A fitting powers the clock where it stands unpowered, but for a later one in DARK (R40; assumption log 22). -/
theorem fittingPowers_iff (s : State) :
    fittingPowers s = true ↔ s.clock.running = false ∧ (s.power.state ≠ .dark ∨ s.power.fitted = false) := by
  simp [fittingPowers]

/-- The state with a battery fitted, before the clock is looked at. -/
def batteryIn (s : State) : State :=
  overPower (fun p => { p with fitted := true }) (s.withPins { s.pins with battery := true })

theorem batteryIn_touches (s : State) : OnlyTouches [.pins, .power] s (batteryIn s) := by simp [batteryIn]

theorem exec_batteryFitted_powers {s : State} (bare : s.pins.battery = false) (powers : fittingPowers s = true) :
    exec .batteryFitted s =
      .next (overPower (fun p => { p with continuity := false }) ((batteryIn s).withClock s.clock.restart)) := by
  simp [exec, execBatteryFitted, bare, powers, batteryIn, overPower]

theorem exec_batteryFitted_pin {s : State} (h : ¬(s.pins.battery = false ∧ fittingPowers s = true)) :
    exec .batteryFitted s = .next (batteryIn s) := by
  rw [exec, execBatteryFitted, if_neg h]
  rfl

/-- Settles O44: each event by the lemma of its case. -/
theorem watchAndBatteryEvents : Obligations.WatchAndBatteryEvents := by
  unfold Obligations.WatchAndBatteryEvents
  refine ⟨?_, ?_, ?_, ?_, ?_, ?_, ?_, ?_, ?_⟩
  · intro w p s watch turns
    refine ⟨_, exec_switchChange_watch watch turns, ?_, watchChange_power _, fun asleep => ?_, fun awake => ?_⟩
    · rw [watchChange_pins]
      exact Pins.switch_turn s.pins w p
    · rw [watchChange_conv, if_pos (by exact asleep)]
      rfl
    · rw [watchChange_conv, if_neg (by exact awake)]
      rfl
  · intro w p s other turns
    exact ⟨_, exec_switchChange_other other turns, Pins.switch_turn s.pins w p, withPins_touches s _⟩
  · exact fun w p s same => exec_switchChange_same same
  · exact fun s watch awake => ⟨_, exec_holdTimerExpiry_awake watch awake, rfl⟩
  · exact fun s watch asleep => ⟨_, exec_timedWake_asleep watch asleep, rfl, rfl⟩
  · exact fun s fitted absent => ⟨_, exec_batteryRemoved_domain fitted absent, rfl, rfl, rfl, rfl, by simp⟩
  · exact fun s h => exec_batteryRemoved_pin h
  · intro s bare stopped first
    exact ⟨_, exec_batteryFitted_powers bare ((fittingPowers_iff s).mpr ⟨stopped, first⟩), rfl, rfl, rfl,
      by simp [batteryIn]⟩
  · intro s h
    have unpowered : ¬(s.pins.battery = false ∧ fittingPowers s = true) := by
      rintro ⟨bare, powers⟩
      obtain ⟨stopped, first⟩ := (fittingPowers_iff s).mp powers
      rcases h with fitted | runs | ⟨dark, again⟩
      · simp [fitted] at bare
      · simp [runs] at stopped
      · simp [dark, again] at first
    exact ⟨_, exec_batteryFitted_pin unpowered, rfl, rfl, batteryIn_touches s⟩

end Sys2Proof.Machine
end

section
/-! SUPPORT. What the aux table keeps while the blocks take a frame (R12, R15): the values stand and no mark turns fresh,
since a coil pulse alone touches the table. One lemma per operation that can begin a pulse. -/

namespace Sys2Proof.Machine

/-- Every channel's value stands, and a channel that is not fresh stays so. -/
def AuxStands (s t : State) : Prop :=
  ∀ ch, (t.conv.get ch).value = (s.conv.get ch).value ∧
    ((s.conv.get ch).fresh = false → (t.conv.get ch).fresh = false)

theorem AuxStands.refl (s : State) : AuxStands s s := fun _ => ⟨rfl, id⟩

theorem AuxStands.trans {s t u : State} (h : AuxStands s t) (g : AuxStands t u) : AuxStands s u := fun ch =>
  ⟨(g ch).1.trans (h ch).1, fun stale => (g ch).2 ((h ch).2 stale)⟩

/-- What does not touch the converter leaves its table. -/
theorem OnlyTouches.auxStands {bs : List Block} {s t : State} (h : OnlyTouches bs s t) (m : Block.conv ∉ bs) :
    AuxStands s t := by
  have conv : t.conv = s.conv := h .conv m
  exact fun ch => by simp [conv]

variable (t : State)

/-- A pulse clears the fresh marks and keeps the values (R15). -/
theorem beginAttempt_auxStands (d : Direction) : AuxStands t (beginAttempt d t) := by
  intro ch
  rw [beginAttempt_conv]
  cases ch <;> exact ⟨rfl, fun _ => rfl⟩

theorem enterOpening_auxStands (x : SupplyTrigger) : AuxStands t (enterOpening x t) :=
  ((changeMachine_touches t .opening x false).auxStands (by decide)).trans (beginAttempt_auxStands _ _)

theorem actOnCauses_auxStands : AuxStands t (actOnCauses t) := by
  have change : ∀ m x, AuxStands t (changeMachine m x false t) :=
    fun m x => (changeMachine_touches t m x false).auxStands (by decide)
  unfold actOnCauses
  split
  · exact enterOpening_auxStands t .cause
  · exact change _ _
  · exact change _ _
  · split
    · exact enterOpening_auxStands t .cause
    · exact AuxStands.refl t
  · exact change _ _
  · exact change _ _
  · exact AuxStands.refl t

theorem setCause_auxStands (k : Cause) (b : Bool) : AuxStands t (setCause k b t) := by
  have place : ∀ g : Supply → Supply, AuxStands t (pageSupply (overSupply g t)) :=
    fun g => OnlyTouches.auxStands (bs := [.store, .supply]) (by simp) (by decide)
  unfold setCause
  split
  · exact AuxStands.refl t
  · dsimp only
    split
    · exact (place _).trans (actOnCauses_auxStands _)
    · exact place _

theorem evaluateCredit_auxStands (x : CreditTrigger) : AuxStands t (evaluateCredit x t) := by
  let evaluated := pageCredit (t.withCredit (t.credit.evaluated t.settings t.clock))
  have evaluate : AuxStands t evaluated :=
    OnlyTouches.auxStands (bs := [.store, .credit]) (by simp [evaluated]) (by decide)
  have announce : AuxStands t (raise .credit (creditStateNotice t.credit.state x evaluated)) :=
    OnlyTouches.auxStands (bs := [.store, .credit, .link, .strip]) (by simp [evaluated]) (by decide)
  unfold evaluateCredit
  dsimp only
  split
  · exact evaluate
  · split
    · exact announce.trans (setCause_auxStands _ _ _)
    · split
      · exact announce.trans (setCause_auxStands _ _ _)
      · exact announce

/-- A watt-hour's debit may exhaust the credit and so begin a pulse. -/
theorem carry_auxStands : AuxStands t (carry t) := by
  let counted := countWattHour (t.withEnergy { t.energy with billed :=
    { t.energy.billed with wh := (t.energy.billed.wh + 1) % 1000000000 } })
  let debited := energyDebit (unitRate t.tariff t.clock) counted
  have debit : AuxStands t debited :=
    (OnlyTouches.auxStands (bs := [.store, .energy, .tariff, .credit]) (by simp [counted]) (by decide)).trans
      (evaluateCredit_auxStands _ _)
  have handOff : AuxStands debited (owePulse (profileWattHour debited)) :=
    OnlyTouches.auxStands (bs := [.store, .energy, .profile]) (by simp) (by decide)
  exact debit.trans handOff

theorem carries_auxStands (n : Nat) : AuxStands t (carries n t) := by
  induction n generalizing t with
  | zero => exact AuxStands.refl t
  | succ n ih => exact (carry_auxStands t).trans (ih _)

theorem energyFrame_auxStands (f : Frame) : AuxStands t (energyFrame f t) := by
  unfold energyFrame
  dsimp only
  have page : ∀ u, AuxStands u (pageBlockBand (pageTariff (pageEnergy u))) :=
    fun u => OnlyTouches.auxStands (bs := [.store]) (by simp) (by decide)
  exact (((withEnergy_touches t _).auxStands (by decide)).trans (carries_auxStands _ _)).trans (page _)

/-- CASE or BYPASS turning ACTIVE may begin a pulse. -/
theorem kindOn_auxStands (k : TamperKind) (more : List Byte) : AuxStands t (kindOn k more t) := by
  unfold kindOn
  dsimp only
  have record : ∀ u, OnlyTouches [.store, .tamper, .link, .strip, .profile] t u → AuxStands t u :=
    fun _ h => h.auxStands (by decide)
  split
  · exact (record _ (by simp)).trans (setCause_auxStands _ _ _)
  · exact record _ (by simp)

theorem judgeKind_auxStands (f : Frame) (k : FrameKind) : AuxStands t (judgeKind f k t) := by
  have window : ∀ x, AuxStands t (t.withTamper x) := fun x => (withTamper_touches t x).auxStands (by decide)
  unfold judgeKind
  dsimp only
  split
  · exact (window _).trans (kindOn_auxStands _ _ _)
  · split
    · exact (window _).trans ((kindOff_touches _ _).auxStands (by decide))
    · exact window _

theorem tamperFrame_auxStands (f : Frame) : AuxStands t (tamperFrame f t) := by
  have judge : ∀ (ks : List FrameKind) (u : State), AuxStands u (ks.foldl (fun s k => judgeKind f k s) u) := by
    intro ks
    induction ks with
    | nil => exact AuxStands.refl
    | cons k ks ih => exact fun u => (judgeKind_auxStands u f k).trans (ih _)
  exact (judge _ t).trans ((pageWindows_touches _).auxStands (by decide))

/-- An overload trip may begin a pulse. -/
theorem overloadTrip_auxStands (power : Nat) : AuxStands t (overloadTrip power t) := by
  unfold overloadTrip
  dsimp only
  refine (AuxStands.trans ?_ (setCause_auxStands _ _ _)).trans ((notice_touches _ _ _ _).auxStands (by decide))
  exact OnlyTouches.auxStands (bs := [.store, .supply]) (by simp) (by decide)

theorem overloadFrame_auxStands (f : Frame) (power : Nat) : AuxStands t (overloadFrame f power t) := by
  have count : ∀ g : Supply → Supply, AuxStands t (pageSupply (overSupply g t)) :=
    fun g => OnlyTouches.auxStands (bs := [.store, .supply]) (by simp) (by decide)
  unfold overloadFrame
  dsimp only
  split
  · split
    · split
      · exact overloadTrip_auxStands t power
      · exact count _
    · exact count _
  · exact AuxStands.refl t

/-- In every state but CLOSED the supply controller takes a frame without a pulse. -/
theorem supplyFrame_auxStands (f : Frame) (power : Nat) : AuxStands t (supplyFrame f power t) := by
  by_cases closed : t.supply.machine = .closed
  · simpa [supplyFrame, closed] using overloadFrame_auxStands t f power
  · refine OnlyTouches.auxStands (bs := [.store, .supply, .link, .strip, .profile]) ?_ (by decide)
    unfold supplyFrame
    split
    case h_1 h => exact absurd h closed
    all_goals simp [apply_ite (OnlyTouches _ _)]

end Sys2Proof.Machine
end

section
/-! PROOF. The normal frame close (R2 to R12): the frame it makes, and what the blocks that take it leave standing. -/

namespace Sys2Proof.Machine

/-- Bytes stored while the store runs read back. -/
theorem peekBytes_poke {s : State} (up : linkUp s = true) (a : Nat) (bs : List Byte) :
    peekBytes (poke a bs s) a bs.length = bs := by
  simp [poke, up, peekBytes, readCells_writeCells]

@[simp] theorem length_frameBytes (f : Option Frame) : (frameBytes f).length = 29 := by
  cases f <;> simp [frameBytes]

/-- The limit moves a value exactly where its magnitude exceeds it (R2). -/
theorem ne_limit_iff (top : Nat) (v : Int) : v ≠ limit top v ↔ top < v.natAbs := by
  unfold limit
  omega

/-- The power state and the stage stand, and the aux table with them. -/
def FrameStands (s t : State) : Prop :=
  AuxStands s t ∧ t.power.state = s.power.state ∧ t.power.stage = s.power.stage

theorem FrameStands.refl (s : State) : FrameStands s s := ⟨AuxStands.refl s, rfl, rfl⟩

theorem FrameStands.trans {s t u : State} (h : FrameStands s t) (g : FrameStands t u) : FrameStands s u :=
  ⟨h.1.trans g.1, g.2.1.trans h.2.1, g.2.2.trans h.2.2⟩

theorem FrameStands.linkUp_eq {s t : State} (h : FrameStands s t) : linkUp t = linkUp s := by
  obtain ⟨-, state, stage⟩ := h
  simp [linkUp, state, stage]

theorem OnlyTouches.frameStands {bs : List Block} {s t : State} (h : OnlyTouches bs s t) (m : Block.power ∉ bs)
    (aux : AuxStands s t) : FrameStands s t := by
  have power : t.power = s.power := h .power m
  exact ⟨aux, by rw [power], by rw [power]⟩

/-- The low-battery judgement moves the spent mark alone in the power logic (R194). -/
theorem batteryFrame_frameStands (f : Frame) (s : State) : FrameStands s (batteryFrame f s) := by
  have spend : ∀ b, FrameStands s (overPower (fun p => { p with spent := b }) s) := fun _ => FrameStands.refl s
  have notify : ∀ u k h d, FrameStands u (notice k h d u) := fun u k h d =>
    (notice_touches u k h d).frameStands (by decide) ((notice_touches u k h d).auxStands (by decide))
  unfold batteryFrame
  split
  · split
    · exact (spend true).trans (notify _ _ _ _)
    · split
      · exact spend false
      · exact FrameStands.refl s
  · exact FrameStands.refl s

/-- A work by which a block takes a frame leaves the aux values, the power state and the stage. -/
theorem takingOrders_frameStands {f : Frame} {s : State} {o : List (State → State)} (ho : o ∈ takingOrders f s)
    {w : State → State} (hw : w ∈ o) (t : State) : FrameStands t (w t) := by
  rcases mem_takingOrders ho hw with rfl | rfl | rfl | rfl
  · exact (tamperFrame_touches t f).frameStands (by decide) (tamperFrame_auxStands t f)
  · exact (energyFrame_touches t f).frameStands (by decide) (energyFrame_auxStands t f)
  · exact batteryFrame_frameStands f t
  · exact (supplyFrame_touches t f _).frameStands (by decide) (supplyFrame_auxStands t f _)

/-- The blocks' taking of a frame, before its fields reach the status page. -/
def frameTaken (f : Frame) (s : State) : State :=
  profileFrame f.v (freePick ((takingOrders f s).map fun o => runAll o s) s)

theorem offerFrame_eq (f : Frame) (s : State) : offerFrame f s = pageFrame (frameTaken f s) := rfl

/-- Whatever the order in which the blocks take a frame. -/
theorem frameTaken_frameStands (f : Frame) (s : State) : FrameStands s (frameTaken f s) := by
  have picked : FrameStands s (freePick ((takingOrders f s).map fun o => runAll o s) s) := by
    refine freePick_of (P := FrameStands s) (fun _ _ h => h) (FrameStands.refl s) fun r hr => ?_
    obtain ⟨o, ho, rfl⟩ := List.mem_map.mp hr
    exact runAll_of (P := FrameStands s) (fun w hw t h => h.trans (takingOrders_frameStands ho hw t)) (FrameStands.refl s)
  have profile := profileFrame_touches (freePick ((takingOrders f s).map fun o => runAll o s) s) f.v
  exact picked.trans (profile.frameStands (by decide) (profile.auxStands (by decide)))

theorem offerFrame_front (f : Frame) (s : State) : (offerFrame f s).front = s.front :=
  offerFrame_touches s f .front (by decide)

theorem offerFrame_auxStands (f : Frame) (s : State) : AuxStands s (offerFrame f s) :=
  (frameTaken_frameStands f s).1.trans ((pageFrame_touches _).auxStands (by decide))

/-- The status page shows the last closed frame (R9). -/
theorem offerFrame_page {s : State} (up : linkUp s = true) (f : Frame) :
    peekBytes (offerFrame f s) 0 29 = frameBytes s.front.last := by
  have paged : (offerFrame f s).front = (frameTaken f s).front :=
    pageFrame_touches (frameTaken f s) .front (by decide)
  have front : (frameTaken f s).front = s.front := paged.symm.trans (offerFrame_front f s)
  have shown := peekBytes_poke ((frameTaken_frameStands f s).linkUp_eq.trans up) 0 (frameBytes s.front.last)
  rw [length_frameBytes] at shown
  rw [offerFrame_eq, pageFrame, front]
  exact shown

theorem exec_frameClose {s : State} (m : Means) (running : isRunning s = true) (opened : s.front.running = true) :
    exec (.frameClose m) s = .next (closeFrame m s) := by
  simp [exec, execFrameClose, running, opened]

/-- The frame of these means over this state. -/
def closedFrame (m : Means) (s : State) : Frame := makeFrame (gather 1000 m s)

/-- The state as the frame closes, before the blocks take it. -/
def frameOffered (m : Means) (s : State) : State := putFrame (closedFrame m s) (gather 1000 m s)

theorem closeFrame_eq (m : Means) (s : State) :
    closeFrame m s = offerFrame (closedFrame m s) (frameOffered m s) := rfl

/-- The close takes all three channels: values stand, fresh marks are clear (R12). -/
theorem frameOffered_aux (m : Means) (s : State) (ch : Channel) :
    ((frameOffered m s).conv.get ch).value = (s.conv.get ch).value ∧ ((frameOffered m s).conv.get ch).fresh = false := by
  cases ch <;> exact ⟨rfl, rfl⟩

theorem closeFrame_aux (m : Means) (s : State) (ch : Channel) :
    ((closeFrame m s).conv.get ch).value = (s.conv.get ch).value ∧ ((closeFrame m s).conv.get ch).fresh = false := by
  obtain ⟨value, fresh⟩ := frameOffered_aux m s ch
  obtain ⟨stands, stale⟩ := offerFrame_auxStands (closedFrame m s) (frameOffered m s) ch
  exact ⟨stands.trans value, stale fresh⟩

/-- The over-range mark says that a field was saturated (R2). -/
theorem closedFrame_overRange (m : Means) (s : State) :
    (closedFrame m s).overRange = true ↔ 3000 < m.v ∨ 120000 < m.iL ∨ 120000 < m.iN ∨ 30000000 < m.pL.natAbs ∨
      30000000 < m.pN.natAbs := by
  have limits : ∀ v : Int, v ≠ limit 30000000 v ↔ 30000000 < v.natAbs := ne_limit_iff 30000000
  simp only [closedFrame, makeFrame, gather, State.withFront_front, limits, decide_eq_true_eq]

/-- Settles O7: the fields by the making of the frame, the table and the page by what the blocks leave standing. -/
theorem frameCloseClosesASaturatedFrame : Obligations.FrameCloseClosesASaturatedFrame := by
  unfold Obligations.FrameCloseClosesASaturatedFrame
  intro m s running opened
  have up : linkUp (frameOffered m s) = true := linkUp_of_isRunning running
  refine ⟨closeFrame m s, closedFrame m s, exec_frameClose m running opened, offerFrame_front _ _, rfl, rfl, rfl, rfl,
    rfl, rfl, rfl, closedFrame_overRange m s, rfl, rfl, rfl, closeFrame_aux m s, ?_⟩
  exact offerFrame_page up _

end Sys2Proof.Machine
end

section
/-! SUPPORT. What a watt-hour's hand-off and a frame do to the energy registers (R25 to R32). -/

namespace Sys2Proof.Machine

theorem OnlyTouches.energy_eq {bs : List Block} {s t : State} (h : OnlyTouches bs s t) (m : Block.energy ∉ bs) :
    t.energy = s.energy := h .energy m

theorem OnlyTouches.tariff_eq {bs : List Block} {s t : State} (h : OnlyTouches bs s t) (m : Block.tariff ∉ bs) :
    t.tariff = s.tariff := h .tariff m

theorem OnlyTouches.credit_eq {bs : List Block} {s t : State} (h : OnlyTouches bs s t) (m : Block.credit ∉ bs) :
    t.credit = s.credit := h .credit m

theorem OnlyTouches.supply_eq {bs : List Block} {s t : State} (h : OnlyTouches bs s t) (m : Block.supply ∉ bs) :
    t.supply = s.supply := h .supply m

theorem OnlyTouches.power_eq {bs : List Block} {s t : State} (h : OnlyTouches bs s t) (m : Block.power ∉ bs) :
    t.power = s.power := h .power m

@[simp] theorem beginTestPulse_energy (s : State) :
    (beginTestPulse s).energy = { s.energy with backlog := s.energy.backlog - 1, pulse := .high } :=
  pageBacklog_touches _ .energy (by decide)

/-- A watt-hour is owed to the output, which begins its pulse at once where it is IDLE, in MAINS (R35, R36). -/
theorem owePulse_energy (s : State) :
    (owePulse s).energy =
      if s.energy.pulse = .idle ∧ s.power.state = .mains then { s.energy with pulse := .high }
      else { s.energy with backlog := s.energy.backlog + 1 } := by
  unfold owePulse
  dsimp only
  split <;> simp

/-- A watt-hour carried into BILLED and handed off, before the test-pulse output takes it (R29, R30). -/
def handOff (s : State) : State :=
  profileWattHour (energyDebit (unitRate s.tariff s.clock) (countWattHour
    (s.withEnergy { s.energy with billed.wh := (s.energy.billed.wh + 1) % 1000000000 })))

theorem carry_eq (s : State) : carry s = owePulse (handOff s) := rfl

theorem handOff_energy (s : State) :
    (handOff s).energy = { s.energy with billed.wh := (s.energy.billed.wh + 1) % 1000000000 } := by
  have later : OnlyTouches [.store, .conv, .tariff, .credit, .supply, .link, .strip, .profile]
      (s.withEnergy { s.energy with billed.wh := (s.energy.billed.wh + 1) % 1000000000 }) (handOff s) := by
    simp [handOff]
  exact later .energy (by decide)

theorem handOff_power (s : State) : (handOff s).power = s.power :=
  OnlyTouches.mono (cs := [.store, .conv, .energy, .tariff, .credit, .supply, .link, .strip, .profile])
    (by simp [handOff]) (fun _ h => h) .power (by decide)

/-- A carry adds a watt-hour to BILLED and owes a pulse (R29, R30, R35). -/
theorem carry_energy (s : State) :
    (carry s).energy =
      let e : Energy := { s.energy with billed.wh := (s.energy.billed.wh + 1) % 1000000000 }
      if s.energy.pulse = .idle ∧ s.power.state = .mains then { e with pulse := .high }
      else { e with backlog := s.energy.backlog + 1 } := by
  rw [carry_eq, owePulse_energy, handOff_energy, handOff_power]

/-- Carries add their number to BILLED and move the test-pulse output, and nothing else of the registers (R28). -/
theorem carries_energy (n : Nat) {s : State} (range : s.energy.billed.wh ≤ 999999999) :
    (carries n s).energy = { s.energy with
      billed.wh := (s.energy.billed.wh + n) % 1000000000
      backlog := (carries n s).energy.backlog
      pulse := (carries n s).energy.pulse } := by
  induction n generalizing s with
  | zero =>
    have same : s.energy.billed.wh % 1000000000 = s.energy.billed.wh := Nat.mod_eq_of_lt (by omega)
    simp [carries, same]
  | succ n ih =>
    have meters : (carry s).energy = { s.energy with
        billed.wh := (s.energy.billed.wh + 1) % 1000000000
        backlog := (carry s).energy.backlog
        pulse := (carry s).energy.pulse } := by
      rw [carry_energy]
      dsimp only
      split <;> rfl
    have wh : (carry s).energy.billed.wh = (s.energy.billed.wh + 1) % 1000000000 := by rw [meters]
    have sum : ((carry s).energy.billed.wh + n) % 1000000000 = (s.energy.billed.wh + (n + 1)) % 1000000000 := by omega
    rw [carries, ih (by omega), sum, meters]

/-- The energy registers before a frame's carries: the billed power, its basis and clamp mark, the three informational
accumulators, and the remainder of BILLED (R25 to R28, R32). -/
def Energy.billedBy (e : Energy) (g : Settings) (f : Frame) (b : Based) : Energy :=
  { e with
    power := min b.power powerClamp
    basis := b.basis
    clamp := decide (powerClamp < b.power)
    billed.rem := (e.billed.rem + frameEnergy (min b.power powerClamp) f.duration) % wattHour
    phaseFwd := e.phaseFwd.add (frameEnergy (forwardPower g f) f.duration)
    phaseRev := e.phaseRev.add (frameEnergy (reversePower g f) f.duration)
    neutral := e.neutral.add (frameEnergy (neutralPower g f) f.duration) }

/-- The watt-hours that a frame carries into BILLED (R28, R29). -/
def frameCarries (f : Frame) (s : State) : Nat :=
  (s.energy.billed.rem + frameEnergy (min (basePower s f).power powerClamp) f.duration) / wattHour

/-- A frame in the energy register block: the registers, the carries, then the page alone (R25 to R32, R38). -/
theorem energyFrame_carries (f : Frame) (s : State) :
    OnlyTouches [.store]
      (carries (frameCarries f s) (s.withEnergy (s.energy.billedBy s.settings f (basePower s f))))
      (energyFrame f s) := by
  change OnlyTouches _ _ (pageBlockBand (pageTariff (pageEnergy
    (carries (frameCarries f s) (s.withEnergy (s.energy.billedBy s.settings f (basePower s f)))))))
  simp

/-- A frame in the energy register block (R25 to R32). -/
theorem energyFrame_energy (f : Frame) {s : State} (range : s.energy.billed.wh ≤ 999999999) :
    (energyFrame f s).energy = { s.energy.billedBy s.settings f (basePower s f) with
      billed.wh := (s.energy.billed.wh + frameCarries f s) % 1000000000
      backlog := (energyFrame f s).energy.backlog
      pulse := (energyFrame f s).energy.pulse } := by
  rw [(energyFrame_carries f s).energy_eq (by decide)]
  exact carries_energy (frameCarries f s) (s := s.withEnergy (s.energy.billedBy s.settings f (basePower s f))) range

end Sys2Proof.Machine
end

section
/-! SUPPORT. The commands that the frame table lists neither with the energy register block nor with the power logic
leave both as they stand. -/

namespace Sys2Proof.Machine

/-- Every part but the energy register block and the power logic. -/
def besideEnergyAndPower : List Block :=
  [.store, .front, .conv, .clock, .tariff, .credit, .code, .supply, .tamper, .link, .strip, .profile, .settings, .pins,
   .freeCount, .pending]

theorem pressEnter_touches (t : State) :
    OnlyTouches [.store, .conv, .credit, .code, .supply, .link, .strip, .profile, .freeCount] t (pressEnter t) := by
  unfold pressEnter
  dsimp only
  split
  · simp
  · split
    · simpa using (takeEmergency_touches t).mono (by decide)
    · split <;> simp

theorem scanPress_touches (k : Key) (t : State) :
    OnlyTouches [.store, .conv, .credit, .code, .supply, .link, .strip, .profile, .freeCount] t (scanPress k t) := by
  have pressed : ∀ u, OnlyTouches [.store, .conv, .credit, .code, .supply, .link, .strip, .profile, .freeCount] u
      (pressKey k u) := by
    intro u
    cases k with
    | digit d => simp [pressKey]
    | erase => simp [pressKey]
    | enter => exact pressEnter_touches u
  unfold scanPress
  split
  · simp
  · split
    · unfold takePress
      rw [onlyTouches_pageEntry _ (by decide)]
      exact OnlyTouches.trans (by simp) (pressed _)
    · simp

theorem advanceClock_touches (t : State) :
    OnlyTouches [.store, .conv, .clock, .tariff, .credit, .code, .supply, .link, .strip, .profile, .freeCount] t
      (advanceClock t) := by
  unfold advanceClock
  dsimp only
  split
  · exact OnlyTouches.trans (by simp) (offerTick_touches _ _)
  · split <;> simp

/-- A guarded operation touches what it touches unguarded. -/
theorem OnlyTouches.guarded {bs : List Block} {s t : State} {p : Prop} [Decidable p] (h : OnlyTouches bs s t) :
    OnlyTouches bs s (if p then t else s) := by
  split
  · exact h
  · exact OnlyTouches.refl _ _

/-- A command that is listed with neither part leaves both: each by the frame of the operation it is made of. -/
theorem exec_besideEnergyAndPower {c : Instr} (energy : Block.energy ∉ touchedBy c) (power : Block.power ∉ touchedBy c)
    (s : State) : ∃ t, exec c s = .next t ∧ OnlyTouches besideEnergyAndPower s t := by
  have filled : ∀ n k l, OnlyTouches besideEnergyAndPower s (postFilled n k l s) := fun n k l =>
    (postFilled_touches s n k l).mono (by decide)
  have register : ∀ a l, OnlyTouches besideEnergyAndPower s (regWrite a l s) := fun a l =>
    (regWrite_touches s a l).mono (by decide)
  have shifted : ∀ l, OnlyTouches besideEnergyAndPower s (withDataOut l s) := fun l =>
    (withDataOut_touches s l).mono (by decide)
  cases c with
  | frameClose | conversionComplete | testPulseHighExpiry | testPulseLowGapExpiry | switchChange | switchEvent
  | holdTimerExpiry | timedWake | mainsLoss | resetnLow | holdupCompletion | resetnRelease | mainsReturn
  | reVerification | batteryRemoved | batteryFitted => simp [touchedBy] at energy power
  | coilPulseEnd => exact ⟨_, rfl, ((endPulse_touches s).mono (by decide)).guarded⟩
  | verifyWindowExpiry =>
    refine ⟨_, rfl, ?_⟩
    split
    · exact ((windowExpires_touches s _).mono (by decide)).guarded
    · exact OnlyTouches.refl _ _
  | retryTimerExpiry => exact ⟨_, rfl, ((retryExpires_touches s).mono (by decide)).guarded⟩
  | recloseWaitExpiry => exact ⟨_, rfl, ((endOverload_touches s).mono (by decide)).guarded⟩
  | secondTick => exact ⟨_, rfl, ((advanceClock_touches s).mono (by decide)).guarded⟩
  | lockExpiry => exact ⟨_, rfl, ((endLock_touches s).mono (by decide)).guarded⟩
  | idleTimeout => exact ⟨_, rfl, ((idleExpires_touches s).mono (by decide)).guarded⟩
  | keyPress k =>
    have pin : OnlyTouches besideEnergyAndPower s (s.withPins (s.pins.press k)) :=
      (withPins_touches s _).mono (by decide)
    refine ⟨_, rfl, ?_⟩
    split
    · exact pin.trans ((scanPress_touches k _).mono (by decide))
    · exact pin
  | keyRelease k =>
    have pin : OnlyTouches besideEnergyAndPower s (s.withPins (s.pins.release k)) :=
      (withPins_touches s _).mono (by decide)
    refine ⟨_, rfl, ?_⟩
    split
    · exact pin.trans ((scanRelease_touches _ k).mono (by decide))
    · exact pin
  | decodeCompletion =>
    refine ⟨_, rfl, ?_⟩
    split
    · exact ((finishDecode_touches s _ _).mono (by decide)).guarded
    · exact OnlyTouches.refl _ _
  | keySetCompletion =>
    refine ⟨_, rfl, ?_⟩
    split
    · exact ((finishKeySet_touches s _ _ _).mono (by decide)).guarded
    · exact OnlyTouches.refl _ _
  | tariffLoadCompletion =>
    refine ⟨_, rfl, ?_⟩
    split
    · exact (((finishLoad_touches s _).mono (by decide)).trans ((drainLoads_touches _ 16).mono (by decide))).guarded
    · exact OnlyTouches.refl _ _
  | storeRead a r => exact ⟨_, rfl, shifted _⟩
  | storeWrite a l => exact ⟨_, rfl, (storeWrite_touches s _ l).mono (by decide)⟩
  | topup n l => exact ⟨_, rfl, filled n _ _⟩
  | keySet n k => exact ⟨_, rfl, filled n _ _⟩
  | tariffLoad n o => exact ⟨_, rfl, filled n _ _⟩
  | clockSet n x => exact ⟨_, rfl, filled n _ _⟩
  | supplyOrderOpen n => exact ⟨_, rfl, filled n _ _⟩
  | supplyOrderRelease n => exact ⟨_, rfl, filled n _ _⟩
  | settingsWrite n o => exact ⟨_, rfl, filled n _ _⟩
  | settingsFetch n o => exact ⟨_, rfl, filled n _ _⟩
  | profileSetup n o c d r => exact ⟨_, rfl, filled n _ _⟩
  | capture n => exact ⟨_, rfl, filled n _ _⟩
  | slipKindUnknown n k => exact ⟨_, rfl, filled n _ _⟩
  | apendRead r => exact ⟨_, rfl, (regRead_touches s _ _).mono (by decide)⟩
  | aackWrite l => exact ⟨_, rfl, register _ _⟩
  | aconfWrite l => exact ⟨_, rfl, register _ _⟩
  | clearCollision => exact ⟨_, rfl, register _ _⟩
  | linkReset b => exact ⟨_, rfl, register _ _⟩
  | regWriteIgnored a l => exact ⟨_, rfl, register _ _⟩
  | operationIgnored o n => exact ⟨_, rfl, shifted _⟩
  | attnPulseEnd => exact ⟨_, rfl, ((withLink_touches s _).mono (by decide)).guarded⟩

end Sys2Proof.Machine
end

section
/-! PROOF. The energy registers' ranges and the test-pulse output over every step (R25, R28, R35 to R37). -/

namespace Sys2Proof.Machine

theorem Accumulator.add_inRange (a : Accumulator) (e : Nat) : (a.add e).inRange := by
  unfold Accumulator.inRange Accumulator.add wattHour
  dsimp only
  omega

theorem Energy.billedBy_inRange {e : Energy} (range : e.inRange) (g : Settings) (f : Frame) (b : Based) :
    (e.billedBy g f b).inRange := by
  obtain ⟨⟨wh, -⟩, -⟩ := range
  refine ⟨⟨wh, ?_⟩, Accumulator.add_inRange _ _, Accumulator.add_inRange _ _, Accumulator.add_inRange _ _, ?_⟩
  · simp only [Energy.billedBy, wattHour]; omega
  · exact Nat.min_le_right _ _

/-- A frame keeps the energy registers in range, in every power state (R25, R28). -/
theorem energyFrame_inRange {s : State} (f : Frame) (range : s.energy.inRange) : (energyFrame f s).energy.inRange := by
  obtain ⟨⟨-, rem⟩, fwd, rev, neutral, power⟩ :=
    Energy.billedBy_inRange range s.settings f (basePower s f)
  rw [energyFrame_energy f range.1.1]
  exact ⟨⟨by dsimp only; omega, rem⟩, fwd, rev, neutral, power⟩

/-- What every step keeps: the registers in range and the test-pulse output consistent (R25, R28, R35 to R37). -/
def energyWell (s : State) : Prop := s.energy.inRange ∧ pulseWell s

/-- In MAINS a carry leaves an idle output owing nothing: the pulse it owes begins at once (R35). -/
theorem carry_pulseWell {s : State} (mains : s.power.state = .mains) : pulseWell (carry s) := by
  have power : (carry s).power = s.power := carry_touches s .power (by decide)
  unfold pulseWell
  rw [carry_energy, power, mains]
  dsimp only
  split
  · simp
  · rename_i busy
    have pulse : s.energy.pulse ≠ .idle := fun idle => busy ⟨idle, rfl⟩
    simp [pulse]

theorem carries_pulseWell (n : Nat) {s : State} (mains : s.power.state = .mains) (well : pulseWell s) :
    pulseWell (carries n s) := by
  induction n generalizing s with
  | zero => exact well
  | succ n ih =>
    have power : (carry s).power = s.power := carry_touches s .power (by decide)
    exact ih (power ▸ mains) (carry_pulseWell mains)

theorem pulseWell_congr {s t : State} (energy : t.energy = s.energy) (power : t.power.state = s.power.state) :
    pulseWell t ↔ pulseWell s := by
  simp [pulseWell, energy, power]

theorem energyFrame_energyWell (f : Frame) {s : State} (mains : s.power.state = .mains) (well : energyWell s) :
    energyWell (energyFrame f s) := by
  obtain ⟨range, pulse⟩ := well
  refine ⟨energyFrame_inRange f range, ?_⟩
  have paged := energyFrame_carries f s
  have state := congrArg Power.state (paged.power_eq (by decide))
  exact (pulseWell_congr (paged.energy_eq (by decide)) state).mpr (carries_pulseWell _ mains pulse)

/-- The relation stands where the registers do and MAINS is not left. -/
theorem energyWell_of_stands {s t : State} (energy : t.energy = s.energy)
    (mains : s.power.state = .mains → t.power.state = .mains) (well : energyWell s) : energyWell t := by
  obtain ⟨range, owes, idle⟩ := well
  refine ⟨energy ▸ range, energy ▸ owes, fun other => ?_⟩
  rw [energy]
  exact idle fun h => other (mains h)

theorem OnlyTouches.energyWell {bs : List Block} {s t : State} (h : OnlyTouches bs s t) (e : Block.energy ∉ bs)
    (p : Block.power ∉ bs) (well : energyWell s) : energyWell t :=
  energyWell_of_stands (h.energy_eq e) (congrArg Power.state (h.power_eq p)).trans well

/-- An update of the power logic that keeps the power state. -/
theorem overPower_energyWell {s : State} (f : Power → Power) (keep : (f s.power).state = s.power.state)
    (well : energyWell s) : energyWell (overPower f s) :=
  energyWell_of_stands (s := s) rfl keep.trans well

/-- An idle output that owes nothing is consistent in every power state. -/
theorem pulseWell_of_idle {s : State} (owes : s.energy.backlog = 0) (idle : s.energy.pulse = .idle) : pulseWell s :=
  ⟨fun _ => owes, fun _ => idle⟩

/-! ### Frames and test pulses -/

/-- The relation in MAINS, where the works of a frame are done. -/
def energyWellInMains (s : State) : Prop := s.power.state = .mains ∧ energyWell s

theorem offerFrame_energyWell (f : Frame) {s : State} (mains : s.power.state = .mains) (well : energyWell s) :
    energyWell (offerFrame f s) := by
  have work : ∀ o ∈ takingOrders f s, ∀ w ∈ o, ∀ u, energyWellInMains u → energyWellInMains (w u) := by
    rintro o ho w hw u ⟨umains, uwell⟩
    refine ⟨(takingOrders_frameStands ho hw u).2.1.trans umains, ?_⟩
    rcases mem_takingOrders ho hw with rfl | rfl | rfl | rfl
    · exact (tamperFrame_touches u f).energyWell (by decide) (by decide) uwell
    · exact energyFrame_energyWell f umains uwell
    · exact energyWell_of_stands (batteryFrame_touches u f .energy (by decide))
        (batteryFrame_frameStands f u).2.1.trans uwell
    · exact (supplyFrame_touches u f _).energyWell (by decide) (by decide) uwell
  have picked : energyWellInMains (freePick ((takingOrders f s).map fun o => runAll o s) s) := by
    refine freePick_of (P := energyWellInMains) (fun _ _ h => h) ⟨mains, well⟩ fun r hr => ?_
    obtain ⟨o, ho, rfl⟩ := List.mem_map.mp hr
    exact runAll_of (P := energyWellInMains) (work o ho) ⟨mains, well⟩
  exact (pageFrame_touches _).energyWell (by decide) (by decide)
    ((profileFrame_touches _ _).energyWell (by decide) (by decide) picked.2)

theorem closeFrame_energyWell (m : Means) {s : State} (mains : s.power.state = .mains) (well : energyWell s) :
    energyWell (closeFrame m s) :=
  offerFrame_energyWell (closedFrame m s) (s := frameOffered m s) mains well

theorem pulseHighEnds_energyWell {s : State} (high : s.energy.pulse = .high) (well : energyWell s) :
    energyWell (pulseHighEnds s) := by
  obtain ⟨range, -, idle⟩ := well
  refine ⟨range, (fun h => nomatch h), fun other => ?_⟩
  simp [high] at idle
  exact absurd idle other

theorem pulseGapEnds_energyWell {s : State} (gap : s.energy.pulse = .lowGap) (well : energyWell s) :
    energyWell (pulseGapEnds s) := by
  obtain ⟨range, -, idle⟩ := well
  have mains : s.power.state = .mains := by simpa [gap] using idle
  unfold pulseGapEnds
  split
  · have power : (beginTestPulse s).power = s.power := beginTestPulse_touches s .power (by decide)
    refine ⟨by rw [beginTestPulse_energy]; exact range, ?_⟩
    simp [pulseWell, power, mains]
  · rename_i none
    exact ⟨range, pulseWell_of_idle (by simpa using none) rfl⟩

/-! ### Entry to HOLDUP -/

/-- The hold-up work discards the backlog, the output low, and leaves the registers (R37, R165). -/
theorem holdupWork_energy (s : State) : (holdupWork s).energy = { s.energy with backlog := 0, pulse := .idle } := by
  have later : ∀ u, OnlyTouches [.tariff, .code, .supply, .profile, .freeCount] u
      (savePeriod (supplyHoldup (overCode CodeUnit.volatileReset
        (cutKeySet (u.withTariff { u.tariff with load := none }))))) := by simp
  exact later _ .energy (by decide)

theorem holdupWork_energyWell {s : State} (range : s.energy.inRange) : energyWell (holdupWork s) :=
  ⟨by rw [holdupWork_energy]; exact range,
   pulseWell_of_idle (by rw [holdupWork_energy]) (by rw [holdupWork_energy])⟩

/-- The final frame may owe pulses in HOLDUP, which the hold-up work discards. -/
theorem closeFinalFrame_inRange (elapsed : Nat) (m : Means) {s : State} (range : s.energy.inRange) :
    (closeFinalFrame elapsed m s).energy.inRange := by
  unfold closeFinalFrame
  dsimp only
  let g := gather elapsed m s
  have before : OnlyTouches [.store, .front, .conv, .supply, .tamper, .link, .strip, .profile] s
      (tamperFrame (makeFrame g) (putFrame (makeFrame g) g)) := by simp [g]
  have later : ∀ u, OnlyTouches [.store, .link, .strip, .profile, .power] u
      (profileFrame (makeFrame g).v (batteryFrame (makeFrame g) u)) := by simp
  rw [(later _).energy_eq (by decide)]
  refine energyFrame_inRange _ ?_
  rw [before.energy_eq (by decide)]
  exact range

theorem loseMains_energyWell (elapsed : Nat) (m : Means) {s : State} (range : s.energy.inRange) :
    energyWell (loseMains elapsed m s) := by
  unfold loseMains
  refine holdupWork_energyWell ?_
  split
  · exact closeFinalFrame_inRange _ _ range
  · exact range

/-! ### WATCH, DARK and start-up -/

/-- From a state that is not MAINS the power state is free, the registers standing. -/
theorem energyWell_of_unpowered {s t : State} (energy : t.energy = s.energy) (other : s.power.state ≠ .mains)
    (well : energyWell s) : energyWell t :=
  energyWell_of_stands energy (fun mains => absurd mains other) well

/-- A start-up begins with the output idle (R37). -/
theorem beginStartUp_energyWell {s : State} (well : energyWell s) : energyWell (beginStartUp s) := by
  obtain ⟨⟨billed, fwd, rev, neutral, -⟩, -⟩ := well
  exact ⟨⟨billed, fwd, rev, neutral, Nat.zero_le _⟩, pulseWell_of_idle rfl rfl⟩

theorem factoryState_energy (s : State) :
    (factoryState s).energy = { s.energy with
      billed := Accumulator.zero, phaseFwd := Accumulator.zero, phaseRev := Accumulator.zero,
      neutral := Accumulator.zero } := rfl

theorem factoryState_energyWell {s : State} (well : energyWell s) : energyWell (factoryState s) := by
  obtain ⟨⟨-, -, -, -, power⟩, pulse⟩ := well
  have zero : Accumulator.zero.inRange := by unfold Accumulator.inRange; decide
  constructor
  · rw [factoryState_energy]
    exact ⟨zero, zero, zero, zero, power⟩
  · have state : (factoryState s).power.state = s.power.state := rfl
    simpa only [pulseWell, factoryState_energy, state] using pulse

theorem startStep1_energyWell {s : State} (well : energyWell s) : energyWell (startStep1 s) := by
  have judged : energyWell (if retainedValid s.power then s else factoryState s) := by
    split
    · exact well
    · exact factoryState_energyWell well
  have settle : ∀ (b : Bool) (u : State), energyWell u → energyWell (if b then settleFromRecords u else u) := by
    intro b u uwell
    split
    · exact (settleFromRecords_touches u).energyWell (by decide) (by decide) uwell
    · exact uwell
  exact overPower_energyWell _ rfl (settle _ _ judged)

theorem startStep2_energyWell {s : State} (well : energyWell s) : energyWell (startStep2 s) := by
  have cleared := overPower_energyWell (fun p => { p with stage := .cleared }) rfl well
  exact OnlyTouches.energyWell (bs := [.store, .link, .strip]) (by simp [startStep2]) (by decide) (by decide) cleared

theorem startStep3_energyWell {s : State} (well : energyWell s) : energyWell (startStep3 s) := by
  have replayed : energyWell (s.power.events.foldl (fun s e => replayEvent e s) s) :=
    List.foldlRecOn _ _ well fun u uwell e _ => (replayEvent_touches u e).energyWell (by decide) (by decide) uwell
  have emptied := overPower_energyWell (fun p => { p with events := [], overflow := 0 }) rfl
    ((powerBackNotice_touches _ s.power.events.length).energyWell (by decide) (by decide) replayed)
  refine overPower_energyWell _ rfl ((resumePeriods_touches _).energyWell (by decide) (by decide) ?_)
  split
  · exact (watchLostNotice_touches _).energyWell (by decide) (by decide) emptied
  · exact emptied

theorem startStep4_energyWell {s : State} (well : energyWell s) : energyWell (startStep4 s) := by
  have rebuilt : energyWell (setCause .tamper (disconnects s.tamper.records) (startCredit s)) :=
    OnlyTouches.energyWell (bs := [.store, .conv, .credit, .supply, .link, .strip, .profile]) (by simp) (by decide)
      (by decide) well
  exact (pageSwitches_touches _).energyWell (by decide) (by decide) (overPower_energyWell _ rfl rebuilt)

theorem startStep6_energyWell {s : State} (well : energyWell s) : energyWell (startStep6 s) := by
  have running := overPower_energyWell (fun p => { p with stage := .running }) rfl
    ((withFront_touches s { s.front with running := true, progress := Progress.empty }).energyWell (by decide)
      (by decide) well)
  exact (raise_touches _ .start).energyWell (by decide) (by decide)
    ((overCode_touches _ _).energyWell (by decide) (by decide) running)

theorem startStep56_energyWell (v : Nat) {s : State} (well : energyWell s) : energyWell (startStep56 v s) := by
  have resolved : energyWell (resolveSupply v (s.withConv { s.conv with loadV := s.conv.loadV.taken })) :=
    OnlyTouches.energyWell (bs := [.store, .conv, .supply, .link, .strip, .profile]) (by simp) (by decide)
      (by decide) well
  exact startStep6_energyWell resolved

theorem tryReverify_energyWell {s : State} (well : energyWell s) : energyWell (tryReverify s) := by
  unfold tryReverify
  split
  · split
    · split
      · exact startStep56_energyWell _ well
      · exact well
    · exact well
  · exact well

theorem nextStep_energyWell {s : State} (well : energyWell s) : energyWell (nextStep s) := by
  unfold nextStep
  split
  · exact startStep1_energyWell well
  · exact startStep2_energyWell well
  · exact startStep3_energyWell well
  · exact tryReverify_energyWell (startStep4_energyWell well)
  · exact tryReverify_energyWell well
  · exact well

theorem stepsTo_energyWell (fuel upTo : Nat) {s : State} (well : energyWell s) : energyWell (stepsTo fuel upTo s) := by
  induction fuel generalizing s with
  | zero => exact well
  | succ fuel ih =>
    unfold stepsTo
    split
    · exact ih (nextStep_energyWell well)
    · exact well

theorem startUp_energyWell (upTo : Nat) {s : State} (well : energyWell s) : energyWell (startUp upTo s) :=
  stepsTo_energyWell 4 upTo (beginStartUp_energyWell well)

theorem idle_energyWell {s : State} (well : energyWell s) : energyWell (idle s) := by
  unfold idle
  split
  · exact nextStep_energyWell well
  · exact well

theorem holdupEnds_energyWell (upTo : Nat) {s : State} (holdup : s.power.state = .holdup) (well : energyWell s) :
    energyWell (holdupEnds upTo s) := by
  have pulsed : energyWell (if s.supply.coil.isSome then endPulse s else s) ∧
      (if s.supply.coil.isSome then endPulse s else s).power.state = .holdup := by
    split
    · have power : (endPulse s).power = s.power := endPulse_touches s .power (by decide)
      exact ⟨(endPulse_touches s).energyWell (by decide) (by decide) well, power ▸ holdup⟩
    · exact ⟨well, holdup⟩
  unfold holdupEnds
  generalize (if s.supply.coil.isSome then endPulse s else s) = u at pulsed ⊢
  obtain ⟨endWell, still⟩ := pulsed
  have done := overPower_energyWell (fun p => { p with holdupDone := true }) rfl endWell
  dsimp only
  split
  · exact energyWell_of_unpowered (s := u) rfl (by simp [still]) endWell
  · split
    · exact startUp_energyWell upTo done
    · exact done

theorem switchSettles_energyWell (w : SwitchId) (p : Position) {s : State} (well : energyWell s) :
    energyWell (switchSettles w p s) := by
  have listed : ∀ (e : BatteryEvent) (u : State), energyWell u → energyWell (appendEvent e u) := by
    intro e u uwell
    unfold appendEvent
    split <;> exact energyWell_of_stands (s := u) rfl id uwell
  have settled : energyWell (s.withTamper (s.tamper.settle w (some p))) :=
    (withTamper_touches s _).energyWell (by decide) (by decide) well
  unfold switchSettles
  dsimp only
  split
  · exact (switchOnMains_touches _ w p).energyWell (by decide) (by decide) settled
  · exact listed _ _ ((putRecord_touches _ _ _).energyWell (by decide) (by decide) settled)

/-! ### Every command -/

/-- A guarded operation keeps the relation where it keeps it under the guard. -/
theorem energyWell_guarded {s t : State} {p : Prop} [Decidable p] (under : p → energyWell t) (well : energyWell s) :
    energyWell (if p then t else s) := by
  split
  · exact under ‹p›
  · exact well

theorem exec_energyWell (c : Instr) {s : State} (well : energyWell s) : ∃ t, exec c s = .next t ∧ energyWell t := by
  have pins : ∀ p, energyWell (s.withPins p) := fun p =>
    (withPins_touches s p).energyWell (by decide) (by decide) well
  have unpowered : s.power.state = .watch → s.power.state ≠ .mains := fun watch => by simp [watch]
  have beside : Block.energy ∉ touchedBy c → Block.power ∉ touchedBy c → ∃ t, exec c s = .next t ∧ energyWell t := by
    intro energy power
    obtain ⟨t, run, rest⟩ := exec_besideEnergyAndPower energy power s
    exact ⟨t, run, rest.energyWell (by decide) (by decide) well⟩
  cases c with
  | frameClose m =>
    refine ⟨_, rfl, energyWell_guarded (fun ⟨_, running⟩ => ?_) well⟩
    obtain ⟨mains, -⟩ : s.power.state = .mains ∧ s.power.stage = .running := by simpa [isRunning] using running
    exact closeFrame_energyWell m mains well
  | conversionComplete v =>
    refine ⟨_, rfl, ?_⟩
    split
    · exact tryReverify_energyWell ((withConv_touches s _).energyWell (by decide) (by decide) well)
    · rename_i watch
      exact energyWell_of_unpowered (watchConversion_touches s v .energy (by decide)) (unpowered watch) well
    · exact well
  | testPulseHighExpiry => exact ⟨_, rfl, energyWell_guarded (fun high => pulseHighEnds_energyWell high well) well⟩
  | testPulseLowGapExpiry => exact ⟨_, rfl, energyWell_guarded (fun gap => pulseGapEnds_energyWell gap well) well⟩
  | switchChange w p =>
    refine ⟨_, rfl, ?_⟩
    split
    · exact well
    · exact energyWell_guarded (fun watch => energyWell_of_unpowered (watchChange_touches _ .energy (by decide))
        (unpowered watch) (pins _)) (pins _)
  | switchEvent w => exact ⟨_, rfl, energyWell_guarded (fun _ => switchSettles_energyWell w _ well) well⟩
  | holdTimerExpiry => exact ⟨_, rfl, energyWell_guarded (fun _ => overPower_energyWell _ rfl well) well⟩
  | timedWake =>
    exact ⟨_, rfl, energyWell_guarded (fun _ =>
      (withConv_touches _ _).energyWell (by decide) (by decide) (overPower_energyWell _ rfl well)) well⟩
  | mainsLoss elapsed m =>
    refine ⟨_, rfl, ?_⟩
    split
    · exact loseMains_energyWell elapsed m well.1
    · rename_i holdup
      exact energyWell_guarded (fun _ => energyWell_of_unpowered (s := s) rfl (by simp [holdup]) well) (pins _)
    · exact pins _
    · exact pins _
  | resetnLow => exact ⟨_, rfl, energyWell_guarded (fun _ => holdupWork_energyWell well.1) (pins _)⟩
  | holdupCompletion upTo =>
    exact ⟨_, rfl, energyWell_guarded (fun ⟨holdup, _⟩ => holdupEnds_energyWell _ holdup well) well⟩
  | resetnRelease upTo => exact ⟨_, rfl, energyWell_guarded (fun _ => startUp_energyWell _ (pins _)) (pins _)⟩
  | mainsReturn upTo =>
    have powered : energyWell (powerClock (s.withPins { s.pins with mains := true })) :=
      (powerClock_touches _).energyWell (by decide) (by decide) (pins _)
    have power : (powerClock (s.withPins { s.pins with mains := true })).power = s.power :=
      powerClock_touches _ .power (by decide)
    refine ⟨_, rfl, energyWell_guarded (fun dead => ?_) powered⟩
    split
    · exact startUp_energyWell _ powered
    · refine energyWell_of_unpowered (holdInReset_touches _ .energy (by decide)) (fun mains => ?_) powered
      simp [← power, mains] at dead
  | reVerification =>
    exact ⟨_, rfl, energyWell_guarded (fun _ => tryReverify_energyWell (stepsTo_energyWell 4 4 well)) well⟩
  | batteryRemoved =>
    exact ⟨_, rfl, energyWell_guarded (fun _ => energyWell_of_stands (s := s) rfl id well) (pins _)⟩
  | batteryFitted =>
    have fitted := overPower_energyWell (fun p => { p with fitted := true }) rfl (pins { s.pins with battery := true })
    exact ⟨_, rfl, energyWell_guarded (fun _ => energyWell_of_stands (s := s) rfl id well) fitted⟩
  | _ => exact beside (by simp [touchedBy]) (by simp [touchedBy])

/-- Settles O12: every command keeps the relation, and so does an idle step. -/
theorem energyStaysInRange : Obligations.EnergyStaysInRange := by
  unfold Obligations.EnergyStaysInRange
  intro s t run well
  unfold step at run
  split at run
  · rename_i c rest _
    obtain ⟨u, commanded, uwell⟩ := exec_energyWell c (s := s.withPending rest) well
    obtain rfl : u = t := by simpa [commanded] using run
    exact uwell
  · obtain rfl : idle s = t := by simpa using run
    exact idle_energyWell well

end Sys2Proof.Machine
end

section
/-! SUPPORT. Where the energy register block stands among the blocks that take a frame (R6, R22; assumption log 11), and
whether the relay counts as closed there (R23). -/

namespace Sys2Proof.Machine

theorem mem_insertions_iff {α : Type} {x : α} {l o : List α} :
    o ∈ insertions x l ↔ ∃ before after, l = before ++ after ∧ o = before ++ x :: after := by
  induction l generalizing o with
  | nil => simp [insertions]
  | cons y ys ih =>
    simp only [insertions, List.mem_cons, List.mem_map, ih, List.cons_eq_append_iff]
    constructor
    · rintro (rfl | ⟨_, ⟨before, after, rfl, rfl⟩, rfl⟩)
      · exact ⟨[], y :: ys, by simp, rfl⟩
      · exact ⟨y :: before, after, by simp, rfl⟩
    · rintro ⟨before, after, (⟨rfl, rfl⟩ | ⟨rest, rfl, rfl⟩), rfl⟩
      · exact .inl rfl
      · exact .inr ⟨_, ⟨rest, after, rfl, rfl⟩, rfl⟩

/-- The supply controller's work at a frame, by the billed power as it then stands (R130). -/
def supplyWork (f : Frame) (s : State) : State := supplyFrame f s.energy.power s

/-- An order in which the energy register block takes the frame once, after every work of the tamper watch. -/
def BillsOnce (f : Frame) (o : List (State → State)) : Prop :=
  ∃ before after, o = before ++ energyFrame f :: after ∧
    (∀ w ∈ before, w = tamperFrame f ∨ w = batteryFrame f ∨ w = supplyWork f) ∧
    (∀ w ∈ after, w = batteryFrame f ∨ w = supplyWork f)

theorem frameOrders_billsOnce {f : Frame} {m : MachineState} {o : List (State → State)} (ho : o ∈ frameOrders f m) :
    BillsOnce f o := by
  have orders : o = [tamperFrame f, energyFrame f, supplyWork f] ∨ o = [tamperFrame f, supplyWork f, energyFrame f] ∨
      o = [supplyWork f, tamperFrame f, energyFrame f] := by
    unfold frameOrders at ho
    split at ho
    · exact .inl (List.mem_singleton.mp ho)
    · simp only [List.mem_cons, List.not_mem_nil, or_false] at ho
      exact ho
  rcases orders with rfl | rfl | rfl
  · exact ⟨[tamperFrame f], [supplyWork f], rfl, by simp, by simp⟩
  · exact ⟨[tamperFrame f, supplyWork f], [], rfl, by simp, by simp⟩
  · exact ⟨[supplyWork f, tamperFrame f], [], rfl, by simp, by simp⟩

/-- The low-battery judgement may come at any place. -/
theorem BillsOnce.insert_battery {f : Frame} {p o : List (State → State)} (h : BillsOnce f p)
    (ho : o ∈ insertions (batteryFrame f) p) : BillsOnce f o := by
  obtain ⟨before, after, rfl, hb, ha⟩ := h
  obtain ⟨l, r, cut, rfl⟩ := mem_insertions_iff.mp ho
  rcases List.append_eq_append_iff.mp cut with ⟨mid, rfl, tail⟩ | ⟨mid, rfl, rfl⟩
  · cases mid with
    | nil =>
      obtain rfl : energyFrame f :: after = r := tail
      exact ⟨before ++ [batteryFrame f], after, by simp, List.forall_mem_append.mpr ⟨hb, by simp⟩, ha⟩
    | cons x mid =>
      obtain ⟨rfl, rfl⟩ := List.cons.inj tail
      obtain ⟨hm, hr⟩ := List.forall_mem_append.mp ha
      exact ⟨before, mid ++ batteryFrame f :: r, by simp, hb,
        List.forall_mem_append.mpr ⟨hm, List.forall_mem_cons.mpr ⟨.inl rfl, hr⟩⟩⟩
  · obtain ⟨hl, hm⟩ := List.forall_mem_append.mp hb
    exact ⟨l ++ batteryFrame f :: mid, after, by simp,
      List.forall_mem_append.mpr ⟨hl, List.forall_mem_cons.mpr ⟨.inr (.inl rfl), hm⟩⟩, ha⟩

theorem takingOrders_billsOnce {f : Frame} {s : State} {o : List (State → State)} (ho : o ∈ takingOrders f s) :
    BillsOnce f o := by
  unfold takingOrders at ho
  dsimp only at ho
  split at ho
  · obtain ⟨p, hp, hins⟩ := List.mem_flatMap.mp ho
    exact (frameOrders_billsOnce hp).insert_battery hins
  · obtain ⟨p, hp, rfl⟩ := List.mem_map.mp ho
    exact (frameOrders_billsOnce hp).insert_battery (mem_insertions_iff.mpr ⟨p, [], by simp, rfl⟩)

theorem takingOrders_ne_nil (f : Frame) (s : State) : takingOrders f s ≠ [] := by
  have usual : [tamperFrame f, energyFrame f, supplyWork f] ∈ frameOrders f s.supply.machine := by
    unfold frameOrders
    split <;> exact List.mem_cons_self
  have last : [tamperFrame f, energyFrame f, supplyWork f] ++ [batteryFrame f] ∈ takingOrders f s := by
    unfold takingOrders
    dsimp only
    split
    · exact List.mem_flatMap.mpr ⟨_, usual, mem_insertions_iff.mpr ⟨_, [], by simp, rfl⟩⟩
    · exact List.mem_map.mpr ⟨_, usual, rfl⟩
  exact List.ne_nil_of_mem last

/-! ### The gating states (R22, R23, R114, R116) -/

/-- The machine is in a state that a dead load ends: STUCK_CLOSED, or OPENING in verification (R117, R123). -/
def opensOnDead (p : Supply) : Prop := p.machine = .stuckClosed ∨ p.machine = .opening ∧ inVerify p = true

/-- The relay gates the penalties in both states or in neither, and no state that a dead load ends is entered. -/
def GateStands (s t : State) : Prop :=
  gatesPenalty t.supply.machine = gatesPenalty s.supply.machine ∧ (opensOnDead t.supply → opensOnDead s.supply)

theorem GateStands.refl (s : State) : GateStands s s := ⟨rfl, id⟩

theorem GateStands.trans {s t u : State} (h : GateStands s t) (g : GateStands t u) : GateStands s u :=
  ⟨g.1.trans h.1, fun opens => h.2 (g.2 opens)⟩

theorem OnlyTouches.gateStands {bs : List Block} {s t : State} (h : OnlyTouches bs s t) (m : Block.supply ∉ bs) :
    GateStands s t := by
  simp [GateStands, h.supply_eq m]

/-- Between OPENED and AWAIT_CONFIRM, or out of STUCK_CLOSED to CLOSED: neither end gates, or both do. -/
theorem changeMachine_gateStands {t : State} {m : MachineState} (x : SupplyTrigger) (u : Bool)
    (gates : gatesPenalty m = gatesPenalty t.supply.machine) (other : m ≠ .stuckClosed) :
    GateStands t (changeMachine m x u t) := by
  refine ⟨by simpa using gates, ?_⟩
  simp [opensOnDead, inVerify, other]

/-- An open attempt begins in its pulse, so that no dead load ends it yet (R114). -/
theorem enterOpening_gateStands {t : State} (x : SupplyTrigger) (gates : gatesPenalty t.supply.machine = true) :
    GateStands t (enterOpening x t) := by
  refine ⟨by rw [gates]; simp [gatesPenalty], ?_⟩
  simp [opensOnDead, inVerify]

theorem actOnCauses_gateStands (t : State) : GateStands t (actOnCauses t) := by
  unfold actOnCauses
  split
  · rename_i machine _
    exact enterOpening_gateStands .cause (by simp [machine, gatesPenalty])
  · rename_i machine _
    exact changeMachine_gateStands _ _ (by simp [machine, gatesPenalty]) (by simp)
  · rename_i machine _
    exact changeMachine_gateStands _ _ (by simp [machine, gatesPenalty]) (by simp)
  · rename_i machine _
    split
    · exact enterOpening_gateStands .cause (by simp [machine, gatesPenalty])
    · exact GateStands.refl t
  · rename_i machine _
    exact changeMachine_gateStands _ _ (by simp [machine, gatesPenalty]) (by simp)
  · rename_i machine _
    exact changeMachine_gateStands _ _ (by simp [machine, gatesPenalty]) (by simp)
  · exact GateStands.refl t

/-- An update of the supply controller that leaves its machine and its attempt. -/
theorem pageOverSupply_gateStands (t : State) (g : Supply → Supply) (machine : (g t.supply).machine = t.supply.machine)
    (attempt : (g t.supply).attempt = t.supply.attempt) : GateStands t (pageSupply (overSupply g t)) := by
  simp [GateStands, opensOnDead, inVerify, machine, attempt]

theorem setCause_gateStands (k : Cause) (b : Bool) (t : State) : GateStands t (setCause k b t) := by
  have place := pageOverSupply_gateStands t (fun p => { p with causes := p.causes.put k b }) rfl rfl
  unfold setCause
  split
  · exact GateStands.refl t
  · dsimp only
    split
    · exact place.trans (actOnCauses_gateStands _)
    · exact place

theorem kindOn_gateStands (k : TamperKind) (more : List Byte) (t : State) : GateStands t (kindOn k more t) := by
  have record : ∀ u, OnlyTouches [.store, .tamper, .link, .strip, .profile] t u → GateStands t u :=
    fun _ h => h.gateStands (by decide)
  unfold kindOn
  dsimp only
  split
  · exact (record _ (by simp)).trans (setCause_gateStands _ _ _)
  · exact record _ (by simp)

theorem judgeKind_gateStands (f : Frame) (k : FrameKind) (t : State) : GateStands t (judgeKind f k t) := by
  have window : ∀ x, GateStands t (t.withTamper x) := fun x => (withTamper_touches t x).gateStands (by decide)
  unfold judgeKind
  dsimp only
  split
  · exact (window _).trans (kindOn_gateStands _ _ _)
  · split
    · exact (window _).trans ((kindOff_touches _ _).gateStands (by decide))
    · exact window _

/-- The tamper watch's frame may open the relay for CASE or BYPASS, and OPENING gates as CLOSED does (R22, R23). -/
theorem tamperFrame_gateStands (f : Frame) (t : State) : GateStands t (tamperFrame f t) := by
  have judged : GateStands t (FrameKind.all.foldl (fun s k => judgeKind f k s) t) :=
    List.foldlRecOn _ _ (GateStands.refl t) fun u h k _ => h.trans (judgeKind_gateStands f k u)
  exact judged.trans ((pageWindows_touches _).gateStands (by decide))

/-- The relay gates the penalties as it did in `s`, or a dead load in the frame has shown it open (R117, R123). -/
def FrameGate (f : Frame) (s t : State) : Prop :=
  GateStands s t ∨ gatesPenalty t.supply.machine = false ∧ opensOnDead s.supply ∧ deadLoad f = true

theorem FrameGate.stands {f : Frame} {s t u : State} (h : FrameGate f s t) (g : GateStands t u) : FrameGate f s u := by
  rcases h with h | ⟨ungated, opens⟩
  · exact .inl (h.trans g)
  · exact .inr ⟨g.1.trans ungated, opens⟩

theorem noteLoadV_gateStands (f : Frame) (t : State) :
    GateStands t (noteLoadV f t) ∧ (noteLoadV f t).supply.machine = t.supply.machine := by
  unfold noteLoadV
  split
  · cases h : t.supply.attempt <;> simp [GateStands, opensOnDead, inVerify, h]
  · exact ⟨GateStands.refl t, rfl⟩

theorem overloadFrame_gateStands (f : Frame) (power : Nat) (t : State) : GateStands t (overloadFrame f power t) := by
  have count : ∀ n, GateStands t (pageSupply (overSupply (fun p => { p with overCount := n }) t)) :=
    fun n => pageOverSupply_gateStands t _ rfl rfl
  have trip : GateStands t (overloadTrip power t) := by
    unfold overloadTrip
    exact ((pageOverSupply_gateStands t _ rfl rfl).trans (setCause_gateStands _ _ _)).trans
      ((notice_touches _ _ _ _).gateStands (by decide))
  unfold overloadFrame
  dsimp only
  split
  · split
    · split
      · exact trip
      · exact count _
    · exact count _
  · exact GateStands.refl t

/-- The supply controller's frame ends the gating only where a dead load shows the relay open (R117, R123). -/
theorem supplyFrame_frameGate (f : Frame) (power : Nat) (t : State) : FrameGate f t (supplyFrame f power t) := by
  obtain ⟨noted, machine⟩ := noteLoadV_gateStands f t
  unfold supplyFrame
  dsimp only
  split
  · exact .inl (overloadFrame_gateStands f power t)
  · rename_i opening
    split
    · rename_i verified
      obtain ⟨verify, dead⟩ : inVerify (noteLoadV f t).supply = true ∧ deadLoad f = true := by simpa using verified
      refine .inr ⟨?_, noted.2 (.inr ⟨machine.trans opening, verify⟩), dead⟩
      split <;> simp [gatesPenalty]
    · exact .inl noted
  · rename_i closing
    split
    · exact .inl (noted.trans (changeMachine_gateStands _ _ (by simp [machine, closing, gatesPenalty]) (by simp)))
    · exact .inl noted
  · rename_i stuck
    split
    · rename_i dead
      exact .inr ⟨by simp [gatesPenalty], .inl stuck, dead⟩
    · exact .inl (GateStands.refl t)
  all_goals exact .inl (GateStands.refl t)

theorem FrameGate.supplyWork {f : Frame} {s t : State} (h : FrameGate f s t) : FrameGate f s (supplyWork f t) := by
  rcases supplyFrame_frameGate f t.energy.power t with stands | ⟨ungated, opens, dead⟩
  · exact h.stands stands
  · rcases h with ⟨-, back⟩ | ⟨-, opened⟩
    · exact .inr ⟨ungated, back opens, dead⟩
    · exact .inr ⟨ungated, opened⟩

/-- The state in which the energy register block takes the frame: what it bills by stands, but for the tamper watch's
judgement and what the same frame shows of the relay. -/
structure BilledAt (f : Frame) (s u : State) : Prop where
  gate : FrameGate f s u
  touches : OnlyTouches [.store, .front, .conv, .supply, .tamper, .link, .strip, .profile, .power] s u

/-- The frame has been billed at `u`, and nothing since then has touched what the billing leaves. -/
def BilledFrom (f : Frame) (u t : State) : Prop :=
  OnlyTouches [.store, .conv, .supply, .link, .strip, .profile, .power, .freeCount] (energyFrame f u) t

/-- From `s` to `t` the frame has been billed once. -/
def Billed (f : Frame) (s t : State) : Prop := ∃ u, BilledAt f s u ∧ BilledFrom f u t

theorem Billed.later {f : Frame} {s t v : State} (taken : Billed f s t)
    (h : OnlyTouches [.store, .conv, .supply, .link, .strip, .profile, .power, .freeCount] t v) : Billed f s v := by
  obtain ⟨u, billed, since⟩ := taken
  exact ⟨u, billed, OnlyTouches.trans since h⟩

/-- A frame taken by all blocks is billed once. -/
theorem offerFrame_billed (f : Frame) (s : State) : Billed f s (offerFrame f s) := by
  have order : ∀ o ∈ takingOrders f s, Billed f s (runAll o s) := by
    intro o ho
    obtain ⟨before, after, rfl, hb, ha⟩ := takingOrders_billsOnce ho
    have split : runAll (before ++ energyFrame f :: after) s = runAll after (energyFrame f (runAll before s)) := by
      simp [runAll]
    rw [split]
    have billed : BilledAt f s (runAll before s) := by
      have begun : BilledAt f s s := ⟨.inl (GateStands.refl s), OnlyTouches.refl _ s⟩
      refine runAll_of (P := BilledAt f s) (fun w hw t ⟨gate, touches⟩ => ?_) begun
      rcases hb w hw with rfl | rfl | rfl
      · exact ⟨gate.stands (tamperFrame_gateStands f t), touches.trans ((tamperFrame_touches t f).mono (by decide))⟩
      · have battery := batteryFrame_touches t f
        exact ⟨gate.stands (battery.gateStands (by decide)), touches.trans (battery.mono (by decide))⟩
      · exact ⟨gate.supplyWork, touches.trans ((supplyFrame_touches t f _).mono (by decide))⟩
    refine runAll_of (P := Billed f s) (fun w hw t taken => ?_) ⟨_, billed, OnlyTouches.refl _ _⟩
    rcases ha w hw with rfl | rfl
    · exact taken.later ((batteryFrame_touches t f).mono (by decide))
    · exact taken.later ((supplyFrame_touches t f _).mono (by decide))
  have picked : Billed f s (freePick ((takingOrders f s).map fun o => runAll o s) s) := by
    refine freePick_of_ne (P := Billed f s)
      (fun t n taken => taken.later ((withFreeCount_touches t n).mono (by decide)))
      (by simpa using takingOrders_ne_nil f s) fun r hr => ?_
    obtain ⟨o, ho, rfl⟩ := List.mem_map.mp hr
    exact order o ho
  have profiled := picked.later ((profileFrame_touches _ f.v).mono (by decide))
  exact profiled.later ((pageFrame_touches _).mono (by decide))

end Sys2Proof.Machine
end

section
/-! SUPPORT. What the carries of a frame do to period energy and to the account (R30, R57, R58, R64, R66, R68). -/

namespace Sys2Proof.Machine

/-- A carry counts its watt-hour in period energy (R58). -/
theorem carry_tariff (s : State) :
    (carry s).tariff = { s.tariff with periodEnergy := min (s.tariff.periodEnergy + 1) countTop } := by
  have later : ∀ r u, OnlyTouches [.store, .conv, .energy, .credit, .supply, .link, .strip, .profile] u
      (owePulse (profileWattHour (energyDebit r u))) := by simp
  exact (later _ _).tariff_eq (by decide)

theorem carries_tariff (n : Nat) {s : State} (range : s.tariff.periodEnergy ≤ countTop) :
    (carries n s).tariff = { s.tariff with periodEnergy := min (s.tariff.periodEnergy + n) countTop } := by
  induction n generalizing s with
  | zero => simp [carries, Nat.min_eq_left range]
  | succ n ih =>
    have one := carry_tariff s
    have sum : min (min (s.tariff.periodEnergy + 1) countTop + n) countTop =
        min (s.tariff.periodEnergy + (n + 1)) countTop := by omega
    rw [carries, ih (by rw [one]; exact Nat.min_le_right _ _), one]
    simp only [sum]

/-- An evaluation moves neither the balance nor what is owed (R71, R77). -/
theorem evaluateCredit_credit (x : CreditTrigger) (s : State) :
    (evaluateCredit x s).credit = s.credit.evaluated s.settings s.clock := by
  have evaluated : (pageCredit (s.withCredit (s.credit.evaluated s.settings s.clock))).credit =
      s.credit.evaluated s.settings s.clock := (pageCredit_touches _).credit_eq (by decide)
  have cause : ∀ b u, (setCause .credit b u).credit = u.credit := fun b u =>
    (setCause_touches u .credit b).credit_eq (by decide)
  have announce : ∀ o u, (raise .credit (creditStateNotice o x u)).credit = u.credit := fun o u =>
    OnlyTouches.credit_eq (bs := [.store, .link, .strip]) (by simp) (by decide)
  unfold evaluateCredit
  dsimp only
  split
  · exact evaluated
  · split
    · rw [cause, announce, evaluated]
    · split
      · rw [cause, announce, evaluated]
      · rw [announce, evaluated]

/-- A carry debits one watt-hour at the present rate and evaluates (R57, R64). -/
theorem carry_credit (s : State) :
    (carry s).credit = (s.credit.energyDebit (unitRate s.tariff s.clock)).evaluated s.settings s.clock := by
  let counted := countWattHour (s.withEnergy { s.energy with billed.wh := (s.energy.billed.wh + 1) % 1000000000 })
  let debited := pageCredit (counted.withCredit (s.credit.energyDebit (unitRate s.tariff s.clock)))
  have debit : OnlyTouches [.store, .energy, .tariff, .credit] s debited := by simp [debited, counted]
  have credit : debited.credit = s.credit.energyDebit (unitRate s.tariff s.clock) :=
    (pageCredit_touches _).credit_eq (by decide)
  have settings : debited.settings = s.settings := debit .settings (by decide)
  have clock : debited.clock = s.clock := debit .clock (by decide)
  have later : ∀ u, OnlyTouches [.store, .energy, .profile] u (owePulse (profileWattHour u)) := by simp
  calc (carry s).credit = (evaluateCredit .energy debited).credit := (later _).credit_eq (by decide)
    _ = _ := by rw [evaluateCredit_credit, credit, settings, clock]

/-- The range in which a debit of a rate up to 65,535 is told in full: nothing is lost at the top of the written-off
units (R66, R68). -/
structure Credit.Tells (c : Credit) (room : Nat) : Prop where
  floor : balanceFloor ≤ c.balance
  debitRem : c.debitRem ≤ 999
  writtenOff : c.writtenOff + room ≤ countTop

/-- An energy debit takes its rate from the account, written-off units counted; it writes off at most 66 units (R64,
R66, R68). -/
theorem Credit.energyDebit_standing {c : Credit} {rate room : Nat} (low : rate ≤ 65535) (tells : c.Tells (room + 66)) :
    (c.energyDebit rate).standing = c.standing - rate ∧ (c.energyDebit rate).Tells room := by
  obtain ⟨floor, debitRem, writtenOff⟩ := tells
  have units : (c.debitRem + rate) / 1000 ≤ 66 := by omega
  have whole := Nat.div_add_mod (c.debitRem + rate) 1000
  simp only [balanceFloor, countTop] at floor writtenOff
  refine ⟨?_, ⟨?_, ?_, ?_⟩⟩
  · simp only [Credit.standing, Credit.energyDebit, Credit.lower, balanceFloor, countTop]
    omega
  · exact le_max_right _ _
  · simp only [Credit.energyDebit]
    omega
  · simp only [Credit.energyDebit, Credit.lower, balanceFloor, countTop]
    omega

theorem rateAt_le {a : Tariff} {top : Nat} (low : ∀ r ∈ a.rates, r ≤ top) (block band : Nat) :
    rateAt a block band ≤ top := by
  unfold rateAt
  rw [List.getD_eq_getElem?_getD]
  cases found : a.rates[(block - 1) * a.bands + band]? with
  | none => exact Nat.zero_le _
  | some r => exact low r (List.mem_of_getElem? found)

/-- The rate of the watt-hour that follows `i` others (R56, R57). -/
def rateAfter (s : State) (i : Nat) : Nat :=
  unitRate { s.tariff with periodEnergy := s.tariff.periodEnergy + i } s.clock

theorem rateAfter_le {s : State} {top : Nat} (low : ∀ a, s.tariff.active = some a → ∀ r ∈ a.rates, r ≤ top) (i : Nat) :
    rateAfter s i ≤ top := by
  unfold rateAfter unitRate
  dsimp only
  split
  · rename_i a active
    exact rateAt_le (low a active) _ _
  · exact Nat.zero_le _

/-- After one carry the watt-hours that follow are charged as they were going to be (R29, R56). -/
theorem rateAfter_carry {s : State} (room : s.tariff.periodEnergy + 1 ≤ countTop) (i : Nat) :
    rateAfter (carry s) i = rateAfter s (i + 1) := by
  have clock : (carry s).clock = s.clock := carry_touches s .clock (by decide)
  have sum : min (s.tariff.periodEnergy + 1) countTop + i = s.tariff.periodEnergy + (i + 1) := by omega
  simp only [rateAfter, carry_tariff, clock, sum]

/-- Carries take from the account the rates of their watt-hours, each by the period energy before it (R57, R64, R68). -/
theorem carries_standing (n : Nat) {s : State} (room : s.tariff.periodEnergy + n ≤ countTop)
    (low : ∀ a, s.tariff.active = some a → ∀ r ∈ a.rates, r ≤ 65535) (tells : s.credit.Tells (66 * n)) :
    (carries n s).credit.standing = s.credit.standing - (((List.range n).map (rateAfter s)).sum : Nat) := by
  induction n generalizing s with
  | zero => simp [carries]
  | succ n ih =>
    have now : rateAfter s 0 = unitRate s.tariff s.clock := rfl
    obtain ⟨paid, told⟩ := Credit.energyDebit_standing (room := 66 * n) (rateAfter_le low 0)
      (by simpa [Nat.mul_succ] using tells)
    have credit : (carry s).credit.standing = s.credit.standing - rateAfter s 0 ∧ (carry s).credit.Tells (66 * n) := by
      rw [carry_credit, ← now]
      exact ⟨paid, told.floor, told.debitRem, told.writtenOff⟩
    have rest : (List.range n).map (rateAfter (carry s)) = (List.range n).map fun i => rateAfter s (i + 1) :=
      List.map_congr_left fun i _ => rateAfter_carry (by omega) i
    have active : (carry s).tariff.active = s.tariff.active := by rw [carry_tariff]
    have energy : (carry s).tariff.periodEnergy ≤ s.tariff.periodEnergy + 1 := by
      rw [carry_tariff]
      exact Nat.min_le_left _ _
    rw [carries, ih (by omega) (by rwa [active]) credit.2, credit.1, rest, List.range_succ_eq_map]
    simp [Function.comp_def]
    omega

end Sys2Proof.Machine
end

section
/-! PROOF. The normal frame in the energy register block: the billed power, its basis, the accumulators, period energy,
and what each carried watt-hour is charged (R20 to R32, R56 to R58, R64, R68). -/

namespace Sys2Proof.Machine

/-- Over a whole second the energy in mWs is the power in mW (R27). -/
theorem frameEnergy_second (power : Nat) : frameEnergy power 1000 = power := by
  unfold frameEnergy
  omega

/-! ### The stages of the base (R20 to R26) -/

theorem Based.raisedTo_power (b : Based) (figure : Nat) (name : Basis) :
    (b.raisedTo figure name).power = max b.power figure := by
  unfold Based.raisedTo
  split <;> simp <;> omega

theorem Based.raisedTo_basis (b : Based) (figure : Nat) (name : Basis) :
    (b.raisedTo figure name).basis = if b.power < figure then name else b.basis := by
  unfold Based.raisedTo
  split <;> rfl

/-- Creep takes the whole of a power or leaves it (R20). -/
theorem creepStage_le (threshold : Nat) (p : Int) : creepStage threshold p ≤ p.natAbs := by
  unfold creepStage
  split <;> omega

section Base

variable (s : State) (f : Frame)

/-- The line element's power after creep, and the power that the element choice takes (R20, R21). -/
def lineBase : Nat := creepStage s.settings.creep f.pL

def chosenBase : Nat :=
  if s.tamper.records.imbalance.status = .active then max (lineBase s f) (neutralPower s.settings f) else lineBase s f

/-- The line element's stage (R21, R26). -/
def lineStage : Based := ⟨lineBase s f, if lineBase s f = 0 then .none else .line⟩

/-- What the two penalties raise the base to, 0 where they do not apply (R23, R24). -/
def magnetFigure (s : State) : Nat :=
  if gatesPenalty s.supply.machine = true ∧ s.tamper.records.magnet.status = .active then
    s.settings.penalty * 1000 else 0

def noVoltageFigure : Nat :=
  if gatesPenalty s.supply.machine = true ∧ s.tamper.records.noVoltage.status = .active then
    max f.iL f.iN * s.settings.nominal else 0

/-- A stage that is not taken raises the base to 0, and so not at all. -/
theorem Based.raisedTo_zero (b : Based) (name : Basis) : b.raisedTo 0 name = b :=
  if_neg (Nat.not_lt_zero _)

/-- Raising to the larger of a figure and the power itself is raising to the figure. -/
theorem Based.raisedTo_max (b : Based) (figure : Nat) (name : Basis) :
    b.raisedTo (max b.power figure) name = b.raisedTo figure name := by
  unfold Based.raisedTo
  by_cases higher : b.power < figure
  · simp [higher, Nat.max_eq_right higher.le]
  · simp [higher]

/-- The base goes through its stages one after another (R21 to R24, R26). -/
theorem basePower_stages :
    basePower s f =
      (((lineStage s f).raisedTo (chosenBase s f) .neutral).raisedTo (magnetFigure s) .magnet).raisedTo
        (noVoltageFigure s f) .noVoltage := by
  have element : elementChoice s.settings (decide (s.tamper.records.imbalance.status = .active)) f =
      (lineStage s f).raisedTo (chosenBase s f) .neutral := by
    unfold elementChoice chosenBase
    by_cases active : s.tamper.records.imbalance.status = .active
    · simp only [active, decide_true, if_true]
      exact (Based.raisedTo_max _ _ _).symm
    · simp only [active, decide_false, if_false, Bool.false_eq_true]
      exact (if_neg (lt_irrefl _)).symm
  have penalty : ∀ (gate active : Bool) (b : Based) (x : Nat) (n : Basis),
      (if gate && active then b.raisedTo x n else b) = b.raisedTo (if gate = true ∧ active = true then x else 0) n := by
    intro gate active b x n
    cases gate <;> cases active <;> simp [Based.raisedTo_zero]
  unfold basePower penaltyStage
  dsimp only
  rw [element, penalty, penalty]
  simp only [decide_eq_true_eq]
  rfl

theorem lineBase_le_chosenBase : lineBase s f ≤ chosenBase s f := by
  unfold chosenBase
  split <;> omega

/-- The base is the highest of the stages' figures (R21, R23, R24). -/
theorem basePower_power :
    (basePower s f).power = max (max (chosenBase s f) (magnetFigure s)) (noVoltageFigure s f) := by
  rw [basePower_stages]
  simp only [Based.raisedTo_power, lineStage, Nat.max_eq_right (lineBase_le_chosenBase s f)]

/-- The basis names the last stage that raised the base (R26). -/
theorem basePower_basis :
    (basePower s f).basis =
      if max (chosenBase s f) (magnetFigure s) < noVoltageFigure s f then .noVoltage
      else if chosenBase s f < magnetFigure s then .magnet
      else if lineBase s f < chosenBase s f then .neutral
      else if lineBase s f = 0 then .none else .line := by
  rw [basePower_stages]
  simp only [Based.raisedTo_power, Based.raisedTo_basis, lineStage, Nat.max_eq_right (lineBase_le_chosenBase s f)]

theorem lineBase_le_power : lineBase s f ≤ (basePower s f).power := by
  rw [basePower_power]
  have line := lineBase_le_chosenBase s f
  omega

/-- A frame has no basis exactly where its base is 0 (R26). -/
theorem basePower_basis_none : (basePower s f).basis = .none ↔ (basePower s f).power = 0 := by
  have line := lineBase_le_chosenBase s f
  rw [basePower_power, basePower_basis]
  split_ifs <;> simp <;> omega

end Base

/-! ### The frame, billed -/

theorem gatesPenalty_iff (m : MachineState) :
    gatesPenalty m = true ↔ m = .closed ∨ m = .opening ∨ m = .closing ∨ m = .stuckClosed := by
  cases m <;> simp [gatesPenalty]

/-- The frame's LOAD_V is the aux table's, present and fresh, below 20.0 V (R12, R117). -/
theorem deadLoad_closedFrame {m : Means} {s : State} (dead : deadLoad (closedFrame m s) = true) :
    s.conv.loadV.fresh = true ∧ ∃ v, s.conv.loadV.value = some v ∧ v < 200 := by
  have sample : (closedFrame m s).loadV = s.conv.loadV.sample := rfl
  unfold deadLoad at dead
  rw [sample] at dead
  cases value : s.conv.loadV.value with
  | none => simp [AuxEntry.sample, value] at dead
  | some v => simpa [AuxEntry.sample, value] using dead

/-- A whole second's frame in the energy register block, by its base (R25 to R28, R32). -/
theorem energyFrame_second {f : Frame} {u : State} (second : f.duration = 1000)
    (range : u.energy.billed.wh ≤ 999999999) :
    let e := (energyFrame f u).energy
    frameCarries f u = (u.energy.billed.rem + e.power) / 3600000 ∧
    e.power = min (basePower u f).power 30000000 ∧ (e.clamp = true ↔ 30000000 < (basePower u f).power) ∧
    e.basis = (basePower u f).basis ∧
    e.billed = ⟨(u.energy.billed.wh + frameCarries f u) % 1000000000, (u.energy.billed.rem + e.power) % 3600000⟩ ∧
    e.phaseFwd = u.energy.phaseFwd.add (forwardPower u.settings f) ∧
    e.phaseRev = u.energy.phaseRev.add (reversePower u.settings f) ∧
    e.neutral = u.energy.neutral.add (neutralPower u.settings f) := by
  intro e
  have billed : e = _ := energyFrame_energy f range
  have power : e.power = min (basePower u f).power powerClamp := by rw [billed]; rfl
  rw [power]
  simp only [billed, Energy.billedBy, frameCarries, second, frameEnergy_second, powerClamp, wattHour, true_and,
    and_true]
  exact decide_eq_true_iff

/-- A frame counts its watt-hours in period energy (R58). -/
theorem energyFrame_tariff (f : Frame) {u : State} (range : u.tariff.periodEnergy ≤ countTop) :
    (energyFrame f u).tariff =
      { u.tariff with periodEnergy := min (u.tariff.periodEnergy + frameCarries f u) countTop } :=
  ((energyFrame_carries f u).tariff_eq (by decide)).trans
    (carries_tariff _ (s := u.withEnergy (u.energy.billedBy u.settings f (basePower u f))) range)

/-- The normal frame close bills its frame once. -/
theorem closeFrame_billed (m : Means) (s : State) : Billed (closedFrame m s) s (closeFrame m s) := by
  obtain ⟨u, ⟨gate, touches⟩, later⟩ := offerFrame_billed (closedFrame m s) (frameOffered m s)
  have offered : OnlyTouches [.front, .conv] s (frameOffered m s) := by simp [frameOffered]
  exact ⟨u, ⟨gate, (offered.mono (by decide)).trans touches⟩, later⟩

/-- Settles O8: the frame is billed once, by the statuses that stand from then on. -/
theorem frameCloseBillsTheFrame : Obligations.FrameCloseBillsTheFrame := by
  unfold Obligations.FrameCloseBillsTheFrame
  intro m s running opened range period
  obtain ⟨u, ⟨gate, before⟩, later⟩ := closeFrame_billed m s
  have energy : u.energy = s.energy := before.energy_eq (by decide)
  have settings : u.settings = s.settings := before .settings (by decide)
  have tariff : u.tariff = s.tariff := before.tariff_eq (by decide)
  have judged : (closeFrame m s).tamper = u.tamper := by
    have unjudged : (energyFrame (closedFrame m s) u).tamper = u.tamper := energyFrame_touches u _ .tamper (by decide)
    exact Eq.trans (later .tamper (by decide)) unjudged
  have billed : (closeFrame m s).energy = (energyFrame (closedFrame m s) u).energy := later.energy_eq (by decide)
  have counted : (closeFrame m s).tariff = (energyFrame (closedFrame m s) u).tariff := later.tariff_eq (by decide)
  obtain ⟨carried, power, clamp, basis, total, fwd, rev, neutral⟩ :=
    energyFrame_second (f := closedFrame m s) (u := u) rfl (energy ▸ range.1.1)
  refine ⟨closeFrame m s, gatesPenalty u.supply.machine, exec_frameClose m running opened, ?_, ?_⟩
  · rcases gate with ⟨gates, -⟩ | ⟨ungated, opens, dead⟩
    · rw [gates]
      exact .inl (gatesPenalty_iff _)
    · exact .inr ⟨ungated, opens, deadLoad_closedFrame dead⟩
  · rw [judged, billed, counted, energyFrame_tariff _ (by rw [tariff]; exact period), ← settings, ← energy, ← tariff]
    intro pL pN top floor eL eN r chosen magnet noVoltage base sum
    have base_eq : base = (basePower u (closedFrame m s)).power := (basePower_power u (closedFrame m s)).symm
    have named := basis.trans (basePower_basis u (closedFrame m s))
    have low : eL ≤ 30000000 := by
      have limits : pL.natAbs ≤ 30000000 := by omega
      exact le_trans (creepStage_le _ _) limits
    refine ⟨?_, ?_, named, ?_, ?_, ?_, fwd, rev, neutral, ?_⟩
    · rw [base_eq]; exact power
    · rw [base_eq]; exact clamp
    · rw [power]
      exact le_min (lineBase_le_power u (closedFrame m s)) low
    · rw [basis, basePower_basis_none, power]
      omega
    · rw [total, carried]
    · rw [carried]
      rfl

/-! ### What each watt-hour is charged -/

/-- A frame takes from the account the rates of the watt-hours it carries (R30, R57, R68). -/
theorem energyFrame_standing (f : Frame) {u : State} (room : u.tariff.periodEnergy + frameCarries f u ≤ countTop)
    (low : ∀ a, u.tariff.active = some a → ∀ r ∈ a.rates, r ≤ 65535) (tells : u.credit.Tells (66 * frameCarries f u)) :
    (energyFrame f u).credit.standing =
      u.credit.standing - (((List.range (frameCarries f u)).map (rateAfter u)).sum : Nat) := by
  rw [(energyFrame_carries f u).credit_eq (by decide)]
  exact carries_standing _ (s := u.withEnergy (u.energy.billedBy u.settings f (basePower u f))) room low tells

/-- Where no later point is at or before the minute, the last of a schedule that is gives the band (R57). -/
theorem bandAt_last (before after : List SwitchPoint) {p : SwitchPoint} {minute : Nat} (begun : p.minute ≤ minute)
    (later : ∀ q ∈ after, minute < q.minute) : bandAt (before ++ p :: after) minute = p.band := by
  have skip : ∀ b, after.foldl (fun b q => if q.minute ≤ minute then q.band else b) b = b := by
    intro b
    induction after with
    | nil => rfl
    | cons q qs ih =>
      have ahead : ¬ q.minute ≤ minute := Nat.not_le.mpr (later q (by simp))
      rw [List.foldl_cons, if_neg ahead]
      exact ih fun r hr => later r (by simp [hr])
  unfold bandAt
  rw [List.foldl_append, List.foldl_cons, if_pos begun, skip]

theorem bandOf_valid (a : Tariff) {c : Clock} (valid : c.valid = true) :
    bandOf a c =
      bandAt (if 5 ≤ (c.count / 86400 + 5) % 7 then a.weekend else a.weekday) (c.count % 86400 / 60) := by
  simp only [bandOf, valid, if_true, isWeekend, decide_eq_true_eq]
  rfl

/-- Settles O9: the carries charge one rate each; the band and the place of the rate by their definitions. -/
theorem frameCloseChargesEachWattHour : Obligations.FrameCloseChargesEachWattHour := by
  unfold Obligations.FrameCloseChargesEachWattHour
  refine ⟨?_, ?_, ?_, ?_⟩
  · intro m s running opened energy credit written period low
    obtain ⟨u, ⟨-, before⟩, later⟩ := closeFrame_billed m s
    have tariff : u.tariff = s.tariff := before.tariff_eq (by decide)
    have account : u.credit = s.credit := before.credit_eq (by decide)
    have clock : u.clock = s.clock := before .clock (by decide)
    have meters : u.energy = s.energy := before.energy_eq (by decide)
    have billed : (closeFrame m s).energy = (energyFrame (closedFrame m s) u).energy := later.energy_eq (by decide)
    have charged : (closeFrame m s).credit = (energyFrame (closedFrame m s) u).credit := later.credit_eq (by decide)
    obtain ⟨⟨wh, rem⟩, -⟩ := energy
    obtain ⟨floor, -, debitRem, -⟩ := credit
    obtain ⟨carried, power, -⟩ := energyFrame_second (f := closedFrame m s) (u := u) rfl (by rw [meters]; exact wh)
    rw [meters] at carried
    have few : frameCarries (closedFrame m s) u ≤ 9 := by omega
    have told : u.credit.Tells (66 * frameCarries (closedFrame m s) u) := by
      rw [account]
      exact ⟨floor, debitRem, by unfold countTop; omega⟩
    have paid := energyFrame_standing (closedFrame m s) (u := u) (by rw [tariff]; unfold countTop; omega)
      (by rw [tariff]; exact low) told
    refine ⟨closeFrame m s, exec_frameClose m running opened, ?_⟩
    rw [billed, charged, ← carried]
    intro n rate
    have rates : rateAfter u = rate := by
      funext i
      simp only [rateAfter, tariff, clock]
      rfl
    exact ⟨few, by rw [paid, account, rates]⟩
  · intro a c before after p minute valid schedule begun later
    rw [bandOf_valid a valid, schedule]
    exact bandAt_last before after begun later
  · intro a c invalid
    simp [bandOf, invalid]
  · intro a block band rate place
    simp [rateAt, place]

end Sys2Proof.Machine
end

section
/-! PROOF. The test-pulse output's two expiries (R35, R36). -/

namespace Sys2Proof.Machine

theorem exec_testPulseHighExpiry {s : State} (high : s.energy.pulse = .high) :
    exec .testPulseHighExpiry s = .next (pulseHighEnds s) := by simp [exec, execTestPulseHighExpiry, high]

theorem exec_testPulseLowGapExpiry {s : State} (gap : s.energy.pulse = .lowGap) :
    exec .testPulseLowGapExpiry s = .next (pulseGapEnds s) := by simp [exec, execTestPulseLowGapExpiry, gap]

/-- A byte stored while the store runs reads back. -/
theorem peek_poke {s : State} (up : linkUp s = true) (a : Nat) (b : Byte) : peek (poke a [b] s) a = b := by
  simp [poke, up, peek, writeCells]

/-- A pulse that begins in RUNNING shows the backlog that it leaves (R38). -/
theorem beginTestPulse_page {s : State} (running : isRunning s = true) :
    peek (beginTestPulse s) 0x3E = byteOf (s.energy.backlog - 1) := by
  have up : linkUp (s.withEnergy { s.energy with backlog := s.energy.backlog - 1, pulse := .high }) = true :=
    linkUp_of_isRunning running
  exact peek_poke up _ _

/-- Settles O11: the two ends of the LOW_GAP time by the backlog. -/
theorem testPulseTimersRunTheOutput : Obligations.TestPulseTimersRunTheOutput := by
  unfold Obligations.TestPulseTimersRunTheOutput
  refine ⟨fun s high => ?_, fun s gap owed => ?_, fun s gap none => ?_⟩
  · exact ⟨_, exec_testPulseHighExpiry high, rfl⟩
  · have begins : pulseGapEnds s = beginTestPulse s := if_pos owed
    rw [exec_testPulseLowGapExpiry gap, begins]
    refine ⟨_, rfl, ?_, beginTestPulse_page⟩
    rw [beginTestPulse_energy]
  · have ends : pulseGapEnds s = s.withEnergy { s.energy with pulse := .idle } := if_neg (by omega)
    exact ⟨_, exec_testPulseLowGapExpiry gap, ends⟩

end Sys2Proof.Machine
end

section
/-! PROOF. The part that has never run (R34, R62, R82, R111, R135, R162, R170, R195). -/

namespace Sys2Proof.Machine

theorem reset_records : ∀ k, (State.reset.tamper.records.get k).status = .clear ∧
    (State.reset.tamper.records.get k).count = 0 := by
  intro k
  cases k <;> exact ⟨rfl, rfl⟩

theorem reset_codeInRange : State.reset.code.inRange :=
  ⟨⟨trivial, by decide, by decide⟩, by decide, by decide, by decide⟩

/-- On the empty store every slip is FREE. -/
theorem reset_slipState (n : Fin 16) : slipState State.reset n = .free := rfl

/-- Nothing waits, nothing is taken and nothing is worked. -/
theorem reset_slipsWell : slipsWell State.reset := by
  have decoder : ∀ n, ¬ decoderWorks State.reset n := by
    rintro n (⟨code, h⟩ | ⟨locked, h⟩) <;> cases h
  have load : ∀ n, ¬ loadWorks State.reset n := by
    rintro n ⟨l, h, -⟩
    cases h
  refine ⟨List.nodup_nil, fun n => ?_, fun n => ?_, fun n h => load n h.2, fun _ => ⟨rfl, rfl⟩⟩
  · have none : State.reset.link.waiting = [] := rfl
    simp [reset_slipState, none]
  · simp [reset_slipState, decoder, load]

theorem reset_layoutWell : layoutWell State.reset := ⟨by decide, fun _ h => nomatch h⟩

/-- The part is unpowered: what is said of RUNNING and of the lamp holds of it for want of mains. -/
theorem reset_supply : causesTell State.reset ∧ machineSafe State.reset := by
  unfold causesTell machineSafe
  decide

theorem reset_energyWell : energyWell State.reset := by
  unfold energyWell pulseWell Energy.inRange Accumulator.inRange
  decide

theorem reset_ranges : State.reset.clock.inRange ∧ State.reset.credit.inRange ∧ State.reset.settings.inRange ∧
    countsInRange State.reset := by
  unfold Clock.inRange Credit.inRange Settings.inRange countsInRange
  decide

/-- Settles O2: the values by the definition of the reset state, the relations by the lemmas above. -/
theorem resetHoldsTheFirstStartValues : Obligations.ResetHoldsTheFirstStartValues := by
  obtain ⟨energy, pulse⟩ := reset_energyWell
  obtain ⟨clock, credit, settings, counts⟩ := reset_ranges
  obtain ⟨causes, machine⟩ := reset_supply
  unfold Obligations.ResetHoldsTheFirstStartValues
  refine ⟨?_, ?_, ?_, ?_, ?_, reset_records, ?_, ?_, rfl, energy, pulse, clock, credit, reset_codeInRange, settings,
    counts, reset_layoutWell, reset_slipsWell, causes, machine⟩
  all_goals decide

end Sys2Proof.Machine
end

section
/-! SUPPORT. What each operation that touches the clock makes of it (R40 to R42, R46, R169). -/

namespace Sys2Proof.Machine

theorem OnlyTouches.clock_eq {bs : List Block} {s t : State} (h : OnlyTouches bs s t) (m : Block.clock ∉ bs) :
    t.clock = s.clock := h .clock m

/-- Below the top of the count the next count is the count plus 1 (R40). -/
theorem nextCount_of_lt {c : Nat} (h : c < 4294967295) : nextCount c = c + 1 :=
  if_neg (Nat.ne_of_lt h)

theorem nextCount_le {c : Nat} (h : c ≤ 4294967295) : nextCount c ≤ 4294967295 := by
  unfold nextCount countTop
  split <;> omega

/-- A VALID time stays VALID up to the end of the calendar (R40). -/
theorem Clock.tick_valid_iff (c : Clock) :
    c.tick.valid = true ↔ c.valid = true ∧ nextCount c.count < calendarEnd := by
  cases valid : c.valid <;> simp [Clock.tick, endsCalendar, valid]

@[simp] theorem Clock.announce_count (c : Clock) : c.announce.count = c.count := by
  unfold Clock.announce
  split <;> rfl

@[simp] theorem Clock.announce_valid (c : Clock) : c.announce.valid = c.valid := by
  unfold Clock.announce
  split <;> rfl

@[simp] theorem Clock.announce_running (c : Clock) : c.announce.running = c.running := by
  unfold Clock.announce
  split <;> rfl

/-- An offered tick announces the day; no work of the tick touches the clock (R42). -/
theorem tickCounts_clock (s : State) : (tickCounts s).clock = s.clock.announce := by
  have counted : (supplySecond (idleSecond (lockSecond (clockPage s)))).clock = s.clock :=
    OnlyTouches.clock_eq (bs := [.store, .code, .supply]) (by simp) (by decide)
  unfold tickCounts
  dsimp only
  rw [counted]
  split
  · exact (pruneTrips_touches _).clock_eq (by decide)
  · rfl

theorem tickWorks_touches {day reclose retry : Bool} {s : State} {w : State → State}
    (h : w ∈ tickWorks day reclose retry s) (u : State) :
    OnlyTouches [.store, .conv, .tariff, .credit, .supply, .link, .strip, .profile] u (w u) := by
  rcases mem_tickWorks s h with rfl | rfl | rfl | rfl | rfl | rfl <;> simp

/-- After its counts, and the notice of the calendar's end, an offered tick is its works in some order. -/
theorem offerTick_works_touch (ended : Bool) (s : State) :
    OnlyTouches [.store, .conv, .tariff, .credit, .supply, .link, .strip, .profile, .freeCount] (tickCounts s)
      (offerTick ended s) := by
  unfold offerTick
  refine OnlyTouches.trans (t := if ended then calendarEndNotice (tickCounts s) else tickCounts s) ?_
    (inAnyOrder_touches _ (by simp) fun w hw u => (tickWorks_touches hw u).mono (by decide))
  split
  · exact (calendarEndNotice_touches _).mono (by decide)
  · exact OnlyTouches.refl _ _

theorem offerTick_clock (ended : Bool) (s : State) : (offerTick ended s).clock = s.clock.announce :=
  ((offerTick_works_touch ended s).clock_eq (by decide)).trans (tickCounts_clock s)

theorem advanceClock_clock (s : State) :
    (advanceClock s).clock = if isRunning s = true then s.clock.tick.announce else s.clock.tick := by
  unfold advanceClock
  dsimp only
  split
  · exact offerTick_clock _ _
  · split
    · exact (pageCalendar_touches _).clock_eq (by decide)
    · rfl

/-- After a set's clock is written, its effects leave the clock (R47). -/
theorem setClock_effects_touch (new : Nat) (s : State) :
    OnlyTouches [.store, .conv, .credit, .supply, .tamper, .link, .strip, .profile]
      (s.withClock { s.clock with count := new, valid := true }) (setClock new s) := by
  unfold setClock
  simp [apply_ite (OnlyTouches _ _)]

theorem setClock_clock (new : Nat) (s : State) :
    (setClock new s).clock = { s.clock with count := new, valid := true } :=
  (setClock_effects_touch new s).clock_eq (by decide)

theorem factoryState_clock (s : State) : (factoryState s).clock = { s.clock with announced := none } := rfl

/-- A WATCH conversion leaves the clock, or stops it at the entry to DARK (R169). -/
theorem watchConversion_clock (v : Nat) (s : State) :
    (watchConversion v s).clock = s.clock ∨ (watchConversion v s).clock = s.clock.stop := by
  unfold watchConversion
  dsimp only
  split
  · exact .inr rfl
  · split <;> exact .inl rfl

end Sys2Proof.Machine
end

section
/-! PROOF. The clock's range over every step (R40): the count in 32 bits, and a VALID time inside the calendar. -/

namespace Sys2Proof.Machine

theorem OnlyTouches.clockInRange {bs : List Block} {s t : State} (h : OnlyTouches bs s t) (m : Block.clock ∉ bs)
    (range : s.clock.inRange) : t.clock.inRange := h.clock_eq m ▸ range

/-- A guarded operation keeps the range where both its outcomes do. -/
theorem clockInRange_ite {s t : State} {p : Prop} [Decidable p] (under : t.clock.inRange)
    (range : s.clock.inRange) : (if p then t else s).clock.inRange := by
  split
  · exact under
  · exact range

/-! ### The clock's own moves -/

theorem Clock.tick_inRange {c : Clock} (range : c.inRange) : c.tick.inRange :=
  ⟨nextCount_le range.1, fun valid => (c.tick_valid_iff.mp valid).2⟩

theorem Clock.announce_inRange {c : Clock} (range : c.inRange) : c.announce.inRange := by
  simpa [Clock.inRange] using range

theorem Clock.stop_inRange {c : Clock} (range : c.inRange) : c.stop.inRange :=
  ⟨range.1, fun valid => nomatch valid⟩

theorem Clock.restart_inRange (c : Clock) : c.restart.inRange :=
  ⟨Nat.zero_le _, fun valid => nomatch valid⟩

theorem Clock.set_inRange (c : Clock) {new : Nat} (early : new < calendarEnd) :
    ({ c with count := new, valid := true } : Clock).inRange := by
  refine ⟨?_, fun _ => early⟩
  unfold calendarEnd at early
  dsimp only
  omega

/-! ### Ticks, start-up and power -/

theorem advanceClock_inRange {s : State} (range : s.clock.inRange) : (advanceClock s).clock.inRange := by
  rw [advanceClock_clock]
  split
  · exact Clock.announce_inRange (Clock.tick_inRange range)
  · exact Clock.tick_inRange range

theorem startStep1_clockInRange {s : State} (range : s.clock.inRange) : (startStep1 s).clock.inRange := by
  have judged : (if retainedValid s.power then s else factoryState s).clock.inRange := by
    split
    · exact range
    · rw [factoryState_clock]
      exact range
  have settle : ∀ (b : Bool) (u : State), u.clock.inRange → (if b then settleFromRecords u else u).clock.inRange := by
    intro b u urange
    split
    · exact (settleFromRecords_touches u).clockInRange (by decide) urange
    · exact urange
  exact (overPower_touches _ _).clockInRange (by decide) (settle _ _ judged)

/-- Of the start-up's steps only the first, at a factory start, touches the clock. -/
theorem nextStep_clockInRange {s : State} (range : s.clock.inRange) : (nextStep s).clock.inRange := by
  unfold nextStep
  split
  · exact startStep1_clockInRange range
  · exact (startStep2_touches s).clockInRange (by decide) range
  · exact (startStep3_touches s).clockInRange (by decide) range
  · exact (tryReverify_touches _).clockInRange (by decide) ((startStep4_touches s).clockInRange (by decide) range)
  · exact (tryReverify_touches s).clockInRange (by decide) range
  · exact range

theorem stepsTo_clockInRange (fuel upTo : Nat) {s : State} (range : s.clock.inRange) :
    (stepsTo fuel upTo s).clock.inRange := by
  induction fuel generalizing s with
  | zero => exact range
  | succ fuel ih =>
    unfold stepsTo
    split
    · exact ih (nextStep_clockInRange range)
    · exact range

theorem startUp_clockInRange (upTo : Nat) {s : State} (range : s.clock.inRange) : (startUp upTo s).clock.inRange :=
  stepsTo_clockInRange 4 upTo ((beginStartUp_touches s).clockInRange (by decide) range)

theorem idle_clockInRange {s : State} (range : s.clock.inRange) : (idle s).clock.inRange := by
  unfold idle
  split
  · exact nextStep_clockInRange range
  · exact range

theorem holdupEnds_clockInRange (upTo : Nat) {s : State} (range : s.clock.inRange) :
    (holdupEnds upTo s).clock.inRange := by
  have pulsed : (if s.supply.coil.isSome then endPulse s else s).clock.inRange := by
    split
    · exact (endPulse_touches s).clockInRange (by decide) range
    · exact range
  unfold holdupEnds
  generalize (if s.supply.coil.isSome then endPulse s else s) = u at pulsed ⊢
  have done := (overPower_touches u fun p => { p with holdupDone := true }).clockInRange (by decide) pulsed
  dsimp only
  split
  · exact (enterWatch_touches _).clockInRange (by decide) done
  · split
    · exact startUp_clockInRange upTo done
    · exact done

theorem powerClock_clockInRange {s : State} (range : s.clock.inRange) : (powerClock s).clock.inRange := by
  unfold powerClock
  split
  · exact Clock.restart_inRange _
  · exact range

/-! ### Posted slips: only a CLOCK_SET before the end of the calendar sets the clock -/

theorem takeClockSet_clockInRange (n : Fin 16) {s : State} (range : s.clock.inRange) :
    (takeClockSet n s).clock.inRange := by
  have taken : (markTaken n s).clock.inRange := (markTaken_touches s n).clockInRange (by decide) range
  unfold takeClockSet
  dsimp only
  split
  · exact (completeSlip_touches _ _ _ _).clockInRange (by decide) taken
  · rename_i early
    refine (completeSlip_touches _ _ _ _).clockInRange (by decide) ?_
    rw [setClock_clock]
    exact Clock.set_inRange _ (Nat.not_le.mp early)

theorem takeSlip_clockInRange (n : Fin 16) {s : State} (range : s.clock.inRange) : (takeSlip n s).clock.inRange := by
  have others : ∀ t, OnlyTouches [.store, .conv, .tariff, .credit, .code, .supply, .tamper, .link, .strip, .profile,
      .settings, .freeCount] s t → t.clock.inRange := fun _ h => h.clockInRange (by decide) range
  unfold takeSlip
  split
  case h_4 => exact takeClockSet_clockInRange n range
  all_goals exact others _ (by simp)

theorem postSlip_clockInRange (n : Fin 16) {s : State} (range : s.clock.inRange) : (postSlip n s).clock.inRange := by
  have posted : (putSlipState n .posted (s.withLink { s.link with waiting := s.link.waiting ++ [n] })).clock.inRange :=
    OnlyTouches.clockInRange (bs := [.store, .link]) (by simp) (by decide) range
  unfold postSlip
  dsimp only
  split
  · exact takeSlip_clockInRange n posted
  · exact posted

theorem hostByte_clockInRange (a : Nat) (b : Byte) {s : State} (range : s.clock.inRange) :
    (hostByte a b s).clock.inRange := by
  have other : ∀ t, OnlyTouches [.store, .link] s t → t.clock.inRange := fun _ h => h.clockInRange (by decide) range
  have state : ∀ n, (hostState n b s).clock.inRange := by
    intro n
    unfold hostState
    split
    · exact postSlip_clockInRange n range
    all_goals exact other _ (by simp)
  have refused : (collide a s).clock.inRange := other _ (by simp)
  have put : (putByte a b s).clock.inRange := other _ (by simp)
  have noted : (attnUpdate (putByte a b s)).clock.inRange := other _ (by simp)
  exact clockInRange_ite refused (clockInRange_ite refused (clockInRange_ite (clockInRange_ite noted refused)
    (clockInRange_ite put (clockInRange_ite (clockInRange_ite (state _) (clockInRange_ite put refused))
      (clockInRange_ite refused (clockInRange_ite refused put))))))

theorem hostBytes_clockInRange (a : Nat) (bytes : List Byte) {s : State} (range : s.clock.inRange) :
    (hostBytes a bytes s).clock.inRange := by
  induction bytes generalizing a s with
  | nil => exact range
  | cons b bytes ih => exact ih _ (hostByte_clockInRange _ b range)

theorem storeWrite_clockInRange (addr : Nat) (data : List Byte) {s : State} (range : s.clock.inRange) :
    (storeWrite addr data s).clock.inRange := by
  unfold storeWrite
  dsimp only
  split
  · exact hostBytes_clockInRange _ _ range
  · exact range

theorem postFilled_clockInRange (n : Fin 16) (kind : Byte) (args : List Byte) {s : State} (range : s.clock.inRange) :
    (postFilled n kind args s).clock.inRange := by
  unfold postFilled
  dsimp only
  split
  · exact hostBytes_clockInRange _ _ (hostBytes_clockInRange _ _ (hostBytes_clockInRange _ _ range))
  · exact range

/-! ### Every command -/

theorem exec_clockInRange (c : Instr) {s : State} (range : s.clock.inRange) :
    ∃ t, exec c s = .next t ∧ t.clock.inRange := by
  have still : ∀ {bs t}, OnlyTouches bs s t → Block.clock ∉ bs → t.clock.inRange := fun h m => h.clockInRange m range
  cases c with
  | frameClose m => exact ⟨_, rfl, clockInRange_ite (still (closeFrame_touches s m) (by decide)) range⟩
  | conversionComplete v =>
    refine ⟨_, rfl, ?_⟩
    split
    · exact still (mainsConversion_touches s _ v) (by decide)
    · rcases watchConversion_clock v s with clock | clock
      · exact clock ▸ range
      · exact clock ▸ Clock.stop_inRange range
    · exact range
  | coilPulseEnd => exact ⟨_, rfl, clockInRange_ite (still (endPulse_touches s) (by decide)) range⟩
  | verifyWindowExpiry =>
    refine ⟨_, rfl, ?_⟩
    split
    · exact clockInRange_ite (still (windowExpires_touches s _) (by decide)) range
    · exact range
  | retryTimerExpiry => exact ⟨_, rfl, clockInRange_ite (still (retryExpires_touches s) (by decide)) range⟩
  | secondTick => exact ⟨_, rfl, clockInRange_ite (advanceClock_inRange range) range⟩
  | lockExpiry => exact ⟨_, rfl, clockInRange_ite (still (endLock_touches s) (by decide)) range⟩
  | recloseWaitExpiry => exact ⟨_, rfl, clockInRange_ite (still (endOverload_touches s) (by decide)) range⟩
  | idleTimeout => exact ⟨_, rfl, clockInRange_ite (still (idleExpires_touches s) (by decide)) range⟩
  | testPulseHighExpiry => exact ⟨_, rfl, clockInRange_ite (still (pulseHighEnds_touches s) (by decide)) range⟩
  | testPulseLowGapExpiry => exact ⟨_, rfl, clockInRange_ite (still (pulseGapEnds_touches s) (by decide)) range⟩
  | keyPress k =>
    exact ⟨_, rfl, clockInRange_ite ((scanPress_touches k _).clockInRange (by decide) range) range⟩
  | keyRelease k =>
    exact ⟨_, rfl, clockInRange_ite ((scanRelease_touches _ k).clockInRange (by decide) range) range⟩
  | decodeCompletion =>
    refine ⟨_, rfl, ?_⟩
    split
    · exact clockInRange_ite (still (finishDecode_touches s _ _) (by decide)) range
    · exact range
  | keySetCompletion =>
    refine ⟨_, rfl, ?_⟩
    split
    · exact clockInRange_ite (still (finishKeySet_touches s _ _ _) (by decide)) range
    · exact range
  | tariffLoadCompletion =>
    refine ⟨_, rfl, ?_⟩
    split
    · exact clockInRange_ite ((drainLoads_touches _ 16).clockInRange (by decide)
        (still (finishLoad_touches s _) (by decide))) range
    · exact range
  | switchChange w p =>
    refine ⟨_, rfl, ?_⟩
    split
    · exact range
    · exact clockInRange_ite ((watchChange_touches _).clockInRange (by decide) range) range
  | switchEvent w => exact ⟨_, rfl, clockInRange_ite (still (switchSettles_touches s w _) (by decide)) range⟩
  | holdTimerExpiry => exact ⟨_, rfl, clockInRange_ite (still (overPower_touches s _) (by decide)) range⟩
  | timedWake => exact ⟨_, rfl, clockInRange_ite range range⟩
  | mainsLoss elapsed m =>
    refine ⟨_, rfl, ?_⟩
    split
    · exact (loseMains_touches _ elapsed m).clockInRange (by decide) range
    · exact clockInRange_ite ((enterWatch_touches _).clockInRange (by decide) range) range
    · exact range
    · exact range
  | resetnLow => exact ⟨_, rfl, clockInRange_ite ((pullReset_touches _).clockInRange (by decide) range) range⟩
  | holdupCompletion upTo => exact ⟨_, rfl, clockInRange_ite (holdupEnds_clockInRange _ range) range⟩
  | resetnRelease upTo => exact ⟨_, rfl, clockInRange_ite (startUp_clockInRange _ range) range⟩
  | mainsReturn upTo =>
    have powered : (powerClock (s.withPins { s.pins with mains := true })).clock.inRange :=
      powerClock_clockInRange range
    refine ⟨_, rfl, clockInRange_ite ?_ powered⟩
    split
    · exact startUp_clockInRange _ powered
    · exact (holdInReset_touches _).clockInRange (by decide) powered
  | reVerification =>
    exact ⟨_, rfl, clockInRange_ite
      ((tryReverify_touches _).clockInRange (by decide) (stepsTo_clockInRange 4 4 range)) range⟩
  | storeRead a r => exact ⟨_, rfl, still (withDataOut_touches s _) (by decide)⟩
  | storeWrite a l => exact ⟨_, rfl, storeWrite_clockInRange _ l range⟩
  | topup n l => exact ⟨_, rfl, postFilled_clockInRange n _ _ range⟩
  | keySet n k => exact ⟨_, rfl, postFilled_clockInRange n _ _ range⟩
  | tariffLoad n o => exact ⟨_, rfl, postFilled_clockInRange n _ _ range⟩
  | clockSet n x => exact ⟨_, rfl, postFilled_clockInRange n _ _ range⟩
  | supplyOrderOpen n => exact ⟨_, rfl, postFilled_clockInRange n _ _ range⟩
  | supplyOrderRelease n => exact ⟨_, rfl, postFilled_clockInRange n _ _ range⟩
  | settingsWrite n o => exact ⟨_, rfl, postFilled_clockInRange n _ _ range⟩
  | settingsFetch n o => exact ⟨_, rfl, postFilled_clockInRange n _ _ range⟩
  | profileSetup n o c d r => exact ⟨_, rfl, postFilled_clockInRange n _ _ range⟩
  | capture n => exact ⟨_, rfl, postFilled_clockInRange n _ _ range⟩
  | slipKindUnknown n k => exact ⟨_, rfl, postFilled_clockInRange n _ _ range⟩
  | apendRead r => exact ⟨_, rfl, still (regRead_touches s _ _) (by decide)⟩
  | aackWrite l => exact ⟨_, rfl, still (regWrite_touches s _ l) (by decide)⟩
  | aconfWrite l => exact ⟨_, rfl, still (regWrite_touches s _ l) (by decide)⟩
  | clearCollision => exact ⟨_, rfl, still (regWrite_touches s _ _) (by decide)⟩
  | linkReset b => exact ⟨_, rfl, still (regWrite_touches s _ _) (by decide)⟩
  | regWriteIgnored a l => exact ⟨_, rfl, still (regWrite_touches s _ l) (by decide)⟩
  | operationIgnored o n => exact ⟨_, rfl, still (withDataOut_touches s _) (by decide)⟩
  | attnPulseEnd => exact ⟨_, rfl, clockInRange_ite (still (withLink_touches s _) (by decide)) range⟩
  | batteryRemoved => exact ⟨_, rfl, clockInRange_ite (Clock.stop_inRange range) range⟩
  | batteryFitted => exact ⟨_, rfl, clockInRange_ite (Clock.restart_inRange _) range⟩

/-- Settles O18: every command keeps the range, and so does an idle step. -/
theorem clockStaysInRange : Obligations.ClockStaysInRange := by
  unfold Obligations.ClockStaysInRange
  intro s t run range
  unfold step at run
  split at run
  · rename_i c rest _
    obtain ⟨u, commanded, urange⟩ := exec_clockInRange c (s := s.withPending rest) range
    obtain rfl : u = t := by simpa [commanded] using run
    exact urange
  · obtain rfl : idle s = t := by simpa using run
    exact idle_clockInRange range

end Sys2Proof.Machine
end

section
/-! PROOF. The calendar (R44, R59): a day's successor within its month, its year and its group of four years. -/

namespace Sys2Proof.Machine

/-- Inside the months' days, the month and the day in it are within their ranges. -/
theorem monthFrom_range {lens : List Nat} (m : Nat) {r : Nat} (h : r < lens.sum) :
    m ≤ (monthFrom lens m r).1 ∧ (monthFrom lens m r).1 < m + lens.length ∧
      (monthFrom lens m r).2 < lens.getD ((monthFrom lens m r).1 - m) 0 := by
  induction lens generalizing m r with
  | nil => simp at h
  | cons len rest ih =>
    rw [List.sum_cons] at h
    unfold monthFrom
    split
    · rename_i inside
      simpa using inside
    · obtain ⟨low, high, day⟩ := ih (m + 1) (r := r - len) (by omega)
      refine ⟨by omega, by rw [List.length_cons]; omega, ?_⟩
      rw [show (monthFrom rest (m + 1) (r - len)).1 - m = (monthFrom rest (m + 1) (r - len)).1 - (m + 1) + 1 by omega]
      exact day

/-- The next day is in the same month, or begins the next. -/
theorem monthFrom_succ {lens : List Nat} (full : ∀ len ∈ lens, 0 < len) (m : Nat) {r : Nat} (h : r + 1 < lens.sum) :
    monthFrom lens m (r + 1) =
      if (monthFrom lens m r).2 + 1 < lens.getD ((monthFrom lens m r).1 - m) 0
        then ((monthFrom lens m r).1, (monthFrom lens m r).2 + 1) else ((monthFrom lens m r).1 + 1, 0) := by
  induction lens generalizing m r with
  | nil => simp at h
  | cons len rest ih =>
    rw [List.sum_cons] at h
    by_cases inside : r < len
    · have here : monthFrom (len :: rest) m r = (m, r) := if_pos inside
      rw [here]
      by_cases last : r + 1 < len
      · simp [monthFrom, last]
      · have turn : r + 1 - len = 0 := by omega
        cases rest with
        | nil => simp at h; omega
        | cons next rest =>
          have positive : 0 < next := full next (by simp)
          simp [monthFrom, last, turn, positive]
    · have later : ∀ q, len ≤ q → monthFrom (len :: rest) m q = monthFrom rest (m + 1) (q - len) :=
        fun q past => if_neg (Nat.not_lt.mpr past)
      obtain ⟨low, -⟩ := monthFrom_range (m + 1) (lens := rest) (r := r - len) (by omega)
      rw [later (r + 1) (by omega), later r (by omega), show r + 1 - len = r - len + 1 by omega,
        ih (fun l hl => full l (by simp [hl])) (m + 1) (r := r - len) (by omega),
        show (monthFrom rest (m + 1) (r - len)).1 - m = (monthFrom rest (m + 1) (r - len)).1 - (m + 1) + 1 by omega,
        List.getD_cons_succ]

/-- The days of a year. -/
def yearLength (year : Nat) : Nat := if year % 4 = 0 then 366 else 365

/-- A day's year and its place in the year, both counted from 0 (R44). -/
def yearDay (d : Nat) : Nat × Nat := (4 * (d / 1461) + (yearInGroup (d % 1461)).1, (yearInGroup (d % 1461)).2)

/-- A year's month lengths (R44). -/
def lengthsOf (year : Nat) : List Nat := monthLengths (decide (year % 4 = 0))

theorem sum_lengthsOf (year : Nat) : (lengthsOf year).sum = yearLength year := by
  unfold lengthsOf yearLength monthLengths
  by_cases leap : year % 4 = 0 <;> simp [leap]

theorem lengthsOf_pos (year : Nat) : ∀ len ∈ lengthsOf year, 0 < len := by
  unfold lengthsOf monthLengths
  by_cases leap : year % 4 = 0 <;> simp [leap]

/-- The last day of a year is the 31st of December. -/
theorem monthFrom_lastDay (year : Nat) : monthFrom (lengthsOf year) 1 (yearLength year - 1) = (12, 30) := by
  unfold lengthsOf yearLength
  by_cases leap : year % 4 = 0
  · simp only [leap]
    decide
  · simp only [leap]
    decide

theorem monthFrom_firstDay (year : Nat) : monthFrom (lengthsOf year) 1 0 = (1, 0) := by
  unfold lengthsOf
  by_cases leap : year % 4 = 0 <;> simp [leap, monthLengths, monthFrom]

/-- The date of a time, by its year and its day in the year (R44). -/
theorem dateOf_eq (t : Nat) :
    dateOf t = ⟨(yearDay (t / 86400)).1,
      (monthFrom (lengthsOf (yearDay (t / 86400)).1) 1 (yearDay (t / 86400)).2).1,
      (monthFrom (lengthsOf (yearDay (t / 86400)).1) 1 (yearDay (t / 86400)).2).2 + 1⟩ := by
  have leap : ∀ d, ((yearInGroup (d % 1461)).1 = 0) ↔ (yearDay d).1 % 4 = 0 := by
    intro d
    unfold yearDay yearInGroup
    split <;> simp
    omega
  have lengths : ∀ d, monthLengths (decide ((yearInGroup (d % 1461)).1 = 0)) = lengthsOf (yearDay d).1 := by
    intro d
    simp only [lengthsOf, leap d]
  unfold dateOf dayIndex
  dsimp only
  rw [lengths]
  rfl

theorem yearDay_range (d : Nat) : (yearDay d).2 < yearLength (yearDay d).1 := by
  unfold yearDay yearInGroup yearLength
  dsimp only
  split_ifs <;> dsimp only at * <;> omega

/-- Within a group of four years the next day is in the same year, or begins the next (R44). -/
theorem yearInGroup_succ {r : Nat} (h : r + 1 < 1461) :
    yearInGroup (r + 1) =
      if (yearInGroup r).2 + 1 < yearLength (yearInGroup r).1 then ((yearInGroup r).1, (yearInGroup r).2 + 1)
      else ((yearInGroup r).1 + 1, 0) := by
  by_cases first : r < 366
  · have here : yearInGroup r = (0, r) := if_pos first
    have leap : yearLength 0 = 366 := rfl
    rw [here]
    by_cases last : r + 1 < 366
    · simp [yearInGroup, leap, last]
    · obtain rfl : r = 365 := by omega
      rfl
  · have here : yearInGroup r = (1 + (r - 366) / 365, (r - 366) % 365) := if_neg first
    have next : yearInGroup (r + 1) = (1 + (r + 1 - 366) / 365, (r + 1 - 366) % 365) := if_neg (by omega)
    have common : yearLength (1 + (r - 366) / 365) = 365 := if_neg (by omega)
    rw [here, next, common]
    dsimp only
    split <;> rw [Prod.mk.injEq] <;> omega

theorem yearLength_group (g y : Nat) : yearLength (4 * g + y) = yearLength y := by
  simp [yearLength]

/-- The next day is in the same year, or begins the next, also from one group of four years to the next (R44). -/
theorem yearDay_succ (d : Nat) :
    yearDay (d + 1) =
      if (yearDay d).2 + 1 < yearLength (yearDay d).1 then ((yearDay d).1, (yearDay d).2 + 1)
      else ((yearDay d).1 + 1, 0) := by
  unfold yearDay
  dsimp only
  rw [yearLength_group]
  by_cases group : d % 1461 + 1 < 1461
  · rw [show (d + 1) / 1461 = d / 1461 by omega, show (d + 1) % 1461 = d % 1461 + 1 by omega, yearInGroup_succ group]
    split <;> rfl
  · rw [show (d + 1) / 1461 = d / 1461 + 1 by omega, show (d + 1) % 1461 = 0 by omega, show d % 1461 = 1460 by omega]
    have last : yearInGroup 1460 = (3, 364) := rfl
    have first : yearInGroup 0 = (0, 0) := rfl
    have common : yearLength 3 = 365 := rfl
    simp only [last, first, common]
    simp
    omega

/-- Every date is one of the calendar's (R44). -/
theorem dateOf_range (t : Nat) :
    1 ≤ (dateOf t).month ∧ (dateOf t).month ≤ 12 ∧ 1 ≤ (dateOf t).day ∧
      (dateOf t).day ≤ (lengthsOf (dateOf t).year).getD ((dateOf t).month - 1) 0 := by
  have inside : (yearDay (t / 86400)).2 < (lengthsOf (yearDay (t / 86400)).1).sum := by
    rw [sum_lengthsOf]
    exact yearDay_range _
  obtain ⟨low, high, day⟩ := monthFrom_range 1 inside
  have twelve : (lengthsOf (yearDay (t / 86400)).1).length = 12 := rfl
  rw [dateOf_eq]
  exact ⟨low, by dsimp only; omega, Nat.succ_le_succ (Nat.zero_le _), day⟩

/-- The date of the next day is the next date (R44). -/
theorem dateOf_nextDay (t : Nat) :
    dateOf (t + 86400) =
      if (dateOf t).day < (lengthsOf (dateOf t).year).getD ((dateOf t).month - 1) 0
        then ⟨(dateOf t).year, (dateOf t).month, (dateOf t).day + 1⟩
      else if (dateOf t).month < 12 then ⟨(dateOf t).year, (dateOf t).month + 1, 1⟩
      else ⟨(dateOf t).year + 1, 1, 1⟩ := by
  have next : (t + 86400) / 86400 = t / 86400 + 1 := by omega
  have range := yearDay_range (t / 86400)
  rw [dateOf_eq, dateOf_eq, next, yearDay_succ]
  generalize yearDay (t / 86400) = y at range ⊢
  obtain ⟨year, day⟩ := y
  dsimp only at range ⊢
  by_cases inYear : day + 1 < yearLength year
  · have inside : day + 1 < (lengthsOf year).sum := by rwa [sum_lengthsOf]
    have twelve : (lengthsOf year).length = 12 := rfl
    obtain ⟨-, high, -⟩ := monthFrom_range 1 (lens := lengthsOf year) (r := day + 1) inside
    rw [if_pos inYear]
    dsimp only
    rw [monthFrom_succ (lengthsOf_pos year) 1 inside] at high ⊢
    by_cases inMonth : (monthFrom (lengthsOf year) 1 day).2 + 1 <
        (lengthsOf year).getD ((monthFrom (lengthsOf year) 1 day).1 - 1) 0
    · simp only [if_pos inMonth]
    · rw [if_neg inMonth] at high
      dsimp only at high
      have early : (monthFrom (lengthsOf year) 1 day).1 < 12 := by omega
      simp only [if_neg inMonth, if_pos early]
  · have last : day = yearLength year - 1 := by omega
    subst last
    have december : (lengthsOf year).getD (12 - 1) 0 = 31 := rfl
    simp only [inYear, if_false, monthFrom_lastDay, monthFrom_firstDay, december, Nat.lt_irrefl]

theorem dateOf_year_le {t : Nat} (h : t < calendarEnd) : (dateOf t).year ≤ 99 := by
  unfold calendarEnd at h
  rw [dateOf_eq]
  unfold yearDay yearInGroup
  dsimp only
  split_ifs <;> dsimp only <;> omega

/-- Settles O19: the successor by the two turns, of the month and of the year; the index by the dates' ranges. -/
theorem datesAndPeriodIndexFollowTheCalendar : Obligations.DatesAndPeriodIndexFollowTheCalendar := by
  unfold Obligations.DatesAndPeriodIndexFollowTheCalendar
  refine ⟨rfl, fun t => ?_, fun r t low high early => ?_⟩
  · have lengths : lengthsOf (dateOf t).year =
        [31, if (dateOf t).year % 4 = 0 then 29 else 28, 31, 30, 31, 30, 31, 31, 30, 31, 30, 31] := by
      simp [lengthsOf, monthLengths]
    obtain ⟨month, months, day, days⟩ := dateOf_range t
    intro a february len
    have len_eq : (lengthsOf a.year).getD (a.month - 1) 0 = len := by rw [lengths]
    rw [len_eq] at days
    refine ⟨month, months, day, days, ?_⟩
    rw [dateOf_nextDay, len_eq]
  · obtain ⟨month, months, day, -⟩ := dateOf_range t
    have years := dateOf_year_le early
    have index : periodIndexOf r t = ((dateOf t).year : Int) * 12 + ((dateOf t).month : Int) - 1
        - (if (dateOf t).day < r then 1 else 0) := by
      unfold periodIndexOf
      dsimp only
      omega
    refine ⟨index, ?_, ?_, ?_⟩
    all_goals rw [index]; split <;> omega

end Sys2Proof.Machine
end

section
/-! PROOF. The block of a watt-hour (R56), and the carry that judges each anew (R57, R58, R64). -/

namespace Sys2Proof.Machine

theorem blockOf_eq_countP (a : Tariff) (e : Nat) :
    blockOf a e = 1 + a.thresholds.countP fun v => decide (v * 1000 ≤ e) := by
  rw [blockOf, List.countP_eq_length_filter]

/-- Settles O20: the count of the thresholds, and the carry's law. -/
theorem blockCountsTheThresholdsReached : Obligations.BlockCountsTheThresholdsReached := by
  unfold Obligations.BlockCountsTheThresholdsReached
  refine ⟨blockOf_eq_countP, fun a thresholds => ?_, fun u a c active => ?_, fun s => ⟨carry_tariff s, ?_⟩⟩
  · simp [blockOf, thresholds]
  · simp [unitRate, active]
  · rw [carry_credit]
    rfl

end Sys2Proof.Machine
end

section
/-! PROOF. The tariff image (R49, R51): what each field's check makes sure of, and so the judgement. -/

namespace Sys2Proof.Machine

theorem leNat_lt (bytes : List Byte) : leNat bytes < 256 ^ bytes.length := by
  induction bytes with
  | nil => decide
  | cons b bytes ih =>
    have low := b.isLt
    rw [leNat, List.length_cons, Nat.pow_succ]
    omega

/-- A field of `k` bytes holds a number of `k` bytes, whatever the image's length. -/
theorem imageNat_lt (img : List Byte) (off k : Nat) : imageNat img off k < 256 ^ k :=
  lt_of_lt_of_le (leNat_lt _) (Nat.pow_le_pow_right (by decide) (List.length_take_le _ _))

theorem imageNat_two_le (img : List Byte) (off : Nat) : imageNat img off 2 ≤ 65535 :=
  Nat.le_of_lt_succ (imageNat_lt img off 2)

theorem rising_cons {x y : Nat} {l : List Nat} (first : x < y) (rest : Rising (y :: l)) : Rising (x :: y :: l) := by
  refine ⟨fun z mem => ?_, rest⟩
  rcases List.mem_cons.mp mem with rfl | mem
  · exact first
  · exact first.trans (rest.1 z mem)

/-- Thresholds without a fault rise from the one before them (R49 field 5). -/
theorem thresholdFault_none {prev i : Nat} {vs : List Nat} (h : thresholdFault prev i vs = none) :
    Rising (prev :: vs) := by
  induction vs generalizing prev i with
  | nil => exact ⟨by simp, trivial⟩
  | cons v vs ih =>
    unfold thresholdFault at h
    split at h
    · cases h
    · rename_i above
      exact rising_cons (Nat.not_le.mp above) (ih h)

/-- Switch points without a fault rise from the minute before them, within their valid values (R49 field 8). -/
theorem pointFault_some_none {bands m i : Nat} {ps : List SwitchPoint}
    (h : pointFault bands (some m) i ps = none) :
    Rising (m :: ps.map SwitchPoint.minute) ∧ ∀ p ∈ ps, p.minute ≤ 1439 ∧ p.band < bands := by
  induction ps generalizing m i with
  | nil => exact ⟨⟨by simp, trivial⟩, by simp⟩
  | cons p ps ih =>
    unfold pointFault at h
    dsimp only at h
    split at h
    · rename_i valid
      obtain ⟨⟨later, top⟩, band⟩ : (m < p.minute ∧ p.minute ≤ 1439) ∧ p.band < bands := by simpa using valid
      obtain ⟨rises, points⟩ := ih h
      exact ⟨rising_cons later rises, List.forall_mem_cons.mpr ⟨⟨top, band⟩, points⟩⟩
    · cases h

/-- A schedule without a fault begins at minute 0. -/
theorem pointFault_none {bands i : Nat} {ps : List SwitchPoint} (some_point : 1 ≤ ps.length)
    (h : pointFault bands none i ps = none) :
    (ps.map SwitchPoint.minute).head? = some 0 ∧ Rising (ps.map SwitchPoint.minute) ∧
      ∀ p ∈ ps, p.minute ≤ 1439 ∧ p.band < bands := by
  cases ps with
  | nil => simp at some_point
  | cons p ps =>
    unfold pointFault at h
    dsimp only at h
    split at h
    · rename_i valid
      obtain ⟨first, band⟩ : p.minute = 0 ∧ p.band < bands := by simpa using valid
      obtain ⟨rises, points⟩ := pointFault_some_none h
      exact ⟨by simp [first], rises, List.forall_mem_cons.mpr ⟨⟨by omega, band⟩, points⟩⟩
    · cases h

theorem scheduleFault_none {img : List Byte} {base bands : Nat} (h : scheduleFault img base bands = none) :
    scheduleValid bands (imagePoints img base (imageNat img base 1)) := by
  have length : (imagePoints img base (imageNat img base 1)).length = imageNat img base 1 := by simp [imagePoints]
  unfold scheduleFault at h
  dsimp only at h
  split at h
  · cases h
  · rename_i count
    have points := pointFault_none (by omega) (Option.map_eq_none_iff.mp h)
    exact ⟨by omega, by omega, points⟩

/-- An image passes when every field does, in order (R51). -/
theorem judgeTariff_good {img : List Byte} {t : Tariff} (h : judgeTariff img = .good t) :
    imageNat img 2 4 < calendarEnd ∧ (1 ≤ imageNat img 6 1 ∧ imageNat img 6 1 ≤ 28) ∧
    (1 ≤ imageNat img 7 1 ∧ imageNat img 7 1 ≤ 4) ∧
    thresholdFault 0 0 (imageThresholds img (imageNat img 7 1 - 1)) = none ∧
    (1 ≤ imageNat img 14 1 ∧ imageNat img 14 1 ≤ 3) ∧
    scheduleFault img 39 (imageNat img 14 1) = none ∧ scheduleFault img 64 (imageNat img 14 1) = none ∧
    imageNat img 89 4 ≤ 100000 ∧
    t = { id := imageNat img 0 2, activation := imageNat img 2 4, startDay := imageNat img 6 1,
          blocks := imageNat img 7 1, thresholds := imageThresholds img (imageNat img 7 1 - 1),
          bands := imageNat img 14 1, rates := imageRates img (imageNat img 7 1 * imageNat img 14 1),
          weekday := imagePoints img 39 (imageNat img 39 1), weekend := imagePoints img 64 (imageNat img 64 1),
          daily := imageNat img 89 4 } := by
  unfold judgeTariff at h
  dsimp only at h
  split at h
  · cases h
  split at h
  · cases h
  split at h
  · cases h
  split at h
  · cases h
  split at h
  · cases h
  split at h
  · cases h
  split at h
  · cases h
  split at h
  · cases h
  rename_i activation startDay blocks _ thresholds bands _ weekday _ weekend daily
  simp only [TariffVerdict.good.injEq] at h
  exact ⟨by omega, by omega, by omega, thresholds, by omega, weekday, weekend, by omega, h.symm⟩

/-- Settles O24: each field's values by its check. -/
theorem judgedTariffsHaveValidValues : Obligations.JudgedTariffsHaveValidValues := by
  unfold Obligations.JudgedTariffsHaveValidValues
  intro image r good
  obtain ⟨activation, startDay, blocks, thresholds, bands, weekday, weekend, daily, rfl⟩ := judgeTariff_good good
  refine ⟨imageNat_two_le _ _, activation, startDay, blocks, by simp [imageThresholds], thresholdFault_none thresholds,
    ?_, bands, by simp [imageRates], ?_, scheduleFault_none weekday, scheduleFault_none weekend, daily⟩
  · intro v mem
    obtain ⟨i, -, rfl⟩ := List.mem_map.mp mem
    exact imageNat_two_le _ _
  · intro v mem
    obtain ⟨i, -, rfl⟩ := List.mem_map.mp mem
    exact imageNat_two_le _ _

end Sys2Proof.Machine
end

section
/-! SUPPORT. Bytes of the store after a write of the part, and after what it does not reach (R176, R191). -/

namespace Sys2Proof.Machine

/-- The part's write leaves every byte outside it. -/
theorem peek_poke_outside {a b : Nat} {l : List Byte} (s : State) (h : b < a ∨ a + l.length ≤ b) :
    peek (poke a l s) b = peek s b := by
  unfold poke
  split
  · exact readCell_writeCells_outside l s.store a b h
  · rfl

theorem SameBytes.refl (p : Nat → Prop) (s : State) : SameBytes p s s := fun _ _ => rfl

theorem SameBytes.trans {p : Nat → Prop} {s t u : State} (h : SameBytes p s t) (g : SameBytes p t u) :
    SameBytes p s u := fun a ha => (g a ha).trans (h a ha)

theorem SameBytes.mono {p q : Nat → Prop} {s t : State} (h : SameBytes p s t) (m : ∀ a, q a → p a) :
    SameBytes q s t := fun a ha => h a (m a ha)

theorem OnlyTouches.sameBytes {bs : List Block} {s t : State} (h : OnlyTouches bs s t) (m : Block.store ∉ bs)
    (p : Nat → Prop) : SameBytes p s t := by
  have store : t.store = s.store := h .store m
  intro a _
  simp [peek, store]

theorem poke_sameBytes {p : Nat → Prop} {a : Nat} {l : List Byte} (s : State)
    (h : ∀ b, p b → b < a ∨ a + l.length ≤ b) : SameBytes p s (poke a l s) :=
  fun b hb => peek_poke_outside s (h b hb)

theorem SameBytes.peekBytes_eq {p : Nat → Prop} {s t : State} (h : SameBytes p s t) {a n : Nat}
    (m : ∀ b, a ≤ b → b < a + n → p b) : peekBytes t a n = peekBytes s a n :=
  readCells_congr _ _ a n fun b low high => h b (m b low high)

/-- The first bytes of a longer run. -/
theorem peekBytes_take (s : State) (a n k : Nat) : peekBytes s a n = (peekBytes s a (n + k)).take n := by
  unfold peekBytes
  induction n generalizing a with
  | zero => rfl
  | succ n ih =>
    rw [Nat.add_right_comm]
    simp only [readCells, List.take_succ_cons, List.cons.injEq, true_and]
    exact ih (a + 1)

theorem OnlyTouches.linkUp_eq {bs : List Block} {s t : State} (h : OnlyTouches bs s t) (m : Block.power ∉ bs) :
    linkUp t = linkUp s := by
  simp [linkUp, h.power_eq m]

theorem OnlyTouches.isRunning_eq {bs : List Block} {s t : State} (h : OnlyTouches bs s t) (m : Block.power ∉ bs) :
    isRunning t = isRunning s := isRunning_of_power (h.power_eq m)

/-- A judgement of the qualifying set moves it and the pulse alone (R188). -/
@[simp] theorem attnUpdate_waiting (s : State) : (attnUpdate s).link.waiting = s.link.waiting := by
  unfold attnUpdate
  split <;> rfl

@[simp] theorem attnUpdate_latched (s : State) : (attnUpdate s).link.latched = s.link.latched := by
  unfold attnUpdate
  split <;> rfl

@[simp] theorem raise_waiting (c : AttnCause) (s : State) : (raise c s).link.waiting = s.link.waiting := by
  unfold raise
  split <;> simp

/-- A raised cause is pending, and none is lost (R186). -/
theorem raise_latched (c : AttnCause) {s : State} (up : linkUp s = true) :
    (raise c s).link.latched = s.link.latched ||| c.mask := by
  simp [raise, up]

theorem raise_keeps_latched (c : AttnCause) {s : State} {i : Nat} (h : s.link.latched.getLsbD i = true) :
    (raise c s).link.latched.getLsbD i = true := by
  unfold raise
  split <;> simp [h]

@[simp] theorem writeNotice_waiting (k : NoticeKind) (head : Nat) (x : Stamp) (d : List Byte) (s : State) :
    (writeNotice k head x d s).link.waiting = s.link.waiting := by
  have strip : ∀ u, (pageStrip u).link = u.link := fun u => pageStrip_touches u .link (by decide)
  have entry : ∀ a l, (poke a l s).link = s.link := fun a l => poke_touches s a l .link (by decide)
  unfold writeNotice
  split
  · split <;> simp [strip, entry]
  · rfl

@[simp] theorem writeNotice_latched (k : NoticeKind) (head : Nat) (x : Stamp) (d : List Byte) (s : State) :
    (writeNotice k head x d s).link.latched = s.link.latched := by
  have strip : ∀ u, (pageStrip u).link = u.link := fun u => pageStrip_touches u .link (by decide)
  have entry : ∀ a l, (poke a l s).link = s.link := fun a l => poke_touches s a l .link (by decide)
  unfold writeNotice
  split
  · split <;> simp [strip, entry]
  · rfl

end Sys2Proof.Machine
end

section
/-! SUPPORT. What the works of the supply controller and of the credit unit leave of the parts beside them, packaged once
for any relation: they write their own records and pages, notices, attention causes and the period's SUPPLY_OPEN. -/

namespace Sys2Proof.Machine

/-- A relation of the states before and after a work that holds of all that these works are made of. A page write lies
outside the tariff unit's bytes, 0x49 to 0x5A. -/
structure HoldsOfWorks (R : State → State → Prop) : Prop where
  refl : ∀ s, R s s
  trans : ∀ {s t u}, R s t → R t u → R s u
  own : ∀ {s t}, OnlyTouches [.conv, .tariff, .credit, .supply, .tamper] s t → R s t
  page : ∀ {a : Nat} {l : List Byte} (s : State), a + l.length ≤ 0x49 ∨ 0x5B ≤ a → a + l.length ≤ 0x100 →
    R s (poke a l s)
  writeNotice : ∀ k head x d s, R s (writeNotice k head x d s)
  raise : ∀ c s, R s (raise c s)
  supplyOpen : ∀ s, R s (profileSupplyOpen s)

namespace HoldsOfWorks

variable {R : State → State → Prop}

theorem overSupply (h : HoldsOfWorks R) (f : Supply → Supply) (s : State) : R s (pageSupply (overSupply f s)) :=
  h.trans (h.own (by simp)) (h.page _ (.inr (by decide)) (by simp [supplyBytes]))

theorem withCredit (h : HoldsOfWorks R) (c : Credit) (s : State) : R s (pageCredit (s.withCredit c)) :=
  h.trans (h.own (by simp)) (h.page _ (.inr (by decide)) (by simp [creditBytes]))

theorem notice (h : HoldsOfWorks R) (k : NoticeKind) (head : Nat) (d : List Byte) (s : State) :
    R s (notice k head d s) := h.writeNotice _ _ _ _ _

theorem changeMachine (h : HoldsOfWorks R) (m : MachineState) (x : SupplyTrigger) (u : Bool) (s : State) :
    R s (changeMachine m x u s) := by
  refine h.trans ?_ (h.trans (h.notice _ _ _ _) (h.raise _ _))
  split
  · exact h.overSupply _ s
  · exact h.trans (h.overSupply _ s) (h.supplyOpen _)

theorem beginAttempt (h : HoldsOfWorks R) (d : Direction) (s : State) : R s (beginAttempt d s) :=
  h.trans (h.own (by simp)) (h.page _ (.inr (by decide)) (by simp [supplyBytes]))

theorem enterOpening (h : HoldsOfWorks R) (x : SupplyTrigger) (s : State) : R s (enterOpening x s) :=
  h.trans (h.changeMachine _ _ _ s) (h.beginAttempt _ _)

theorem actOnCauses (h : HoldsOfWorks R) (s : State) : R s (actOnCauses s) := by
  unfold Machine.actOnCauses
  split
  · exact h.enterOpening _ s
  · exact h.changeMachine _ _ _ s
  · exact h.changeMachine _ _ _ s
  · split
    · exact h.enterOpening _ s
    · exact h.refl s
  · exact h.changeMachine _ _ _ s
  · exact h.changeMachine _ _ _ s
  · exact h.refl s

theorem setCause (h : HoldsOfWorks R) (k : Cause) (b : Bool) (s : State) : R s (setCause k b s) := by
  unfold Machine.setCause
  split
  · exact h.refl s
  · dsimp only
    split
    · exact h.trans (h.overSupply _ s) (h.actOnCauses _)
    · exact h.overSupply _ s

theorem endOverload (h : HoldsOfWorks R) (s : State) : R s (endOverload s) :=
  h.trans (h.overSupply _ s) (h.setCause _ _ _)

theorem creditAnnounced (h : HoldsOfWorks R) (old : CreditState) (x : CreditTrigger) (s : State) :
    R s (Machine.raise .credit (creditStateNotice old x s)) :=
  h.trans (h.notice _ _ _ s) (h.raise _ _)

theorem evaluateCredit (h : HoldsOfWorks R) (x : CreditTrigger) (s : State) : R s (evaluateCredit x s) := by
  have announced := h.trans (h.withCredit (s.credit.evaluated s.settings s.clock) s)
    (h.creditAnnounced s.credit.state x _)
  unfold Machine.evaluateCredit
  dsimp only
  split
  · exact h.withCredit _ s
  · split
    · exact h.trans announced (h.setCause _ _ _)
    · split
      · exact h.trans announced (h.setCause _ _ _)
      · exact announced

theorem dailyDebit (h : HoldsOfWorks R) (amount : Nat) (s : State) : R s (dailyDebit amount s) :=
  h.trans (h.withCredit _ s) (h.evaluateCredit _ _)

theorem latchWork (h : HoldsOfWorks R) (s : State) : R s (latchWork s) := by
  unfold Machine.latchWork
  split
  · exact h.endOverload s
  · exact h.refl s

theorem recloseWork (h : HoldsOfWorks R) (s : State) : R s (recloseWork s) := by
  unfold Machine.recloseWork
  split
  · exact h.endOverload s
  · exact h.refl s

theorem retryWork (h : HoldsOfWorks R) (s : State) : R s (retryWork s) := by
  unfold Machine.retryWork
  split
  · exact h.enterOpening .retry s
  · exact h.refl s

/-- CLOCK_BACK writes its record, the lamp, TAMPER_ON and the TAMPER cause (R155). -/
theorem clockBack (h : HoldsOfWorks R) (magnitude : Nat) (s : State) : R s (clockBack magnitude s) := by
  have record : ∀ r, R s (putRecord .clockBack r s) := fun r =>
    h.trans (h.trans (h.own (by simp)) (h.page _ (.inr (by decide)) (by simp [recordBytes, TamperKind.code])))
      (h.page _ (.inr (by decide)) (by simp))
  exact h.trans (record _) (h.trans (h.writeNotice _ _ _ _ _) (h.raise _ _))

end HoldsOfWorks

/-! ### The link's waiting list and latched causes, and the profile channel -/

/-- A period that may have gained SUPPLY_OPEN (R197). -/
def Period.opened (b : Bool) (p : Period) : Period := { p with supplyOpen := p.supplyOpen || b }

/-- The waiting list stands and no latched cause is lost. -/
structure LinkGrows (s t : State) : Prop where
  waiting : t.link.waiting = s.link.waiting
  latched : ∀ i, s.link.latched.getLsbD i = true → t.link.latched.getLsbD i = true

theorem LinkGrows.trans {s t u : State} (h : LinkGrows s t) (g : LinkGrows t u) : LinkGrows s u :=
  ⟨g.waiting.trans h.waiting, fun i set => g.latched i (h.latched i set)⟩

theorem OnlyTouches.linkGrows {bs : List Block} {s t : State} (h : OnlyTouches bs s t) (m : Block.link ∉ bs) :
    LinkGrows s t := by
  have link : t.link = s.link := h .link m
  exact ⟨by rw [link], fun _ set => by rwa [link]⟩

theorem writeNotice_linkGrows (k : NoticeKind) (head : Nat) (x : Stamp) (d : List Byte) (s : State) :
    LinkGrows s (writeNotice k head x d s) := ⟨by simp, by simp⟩

theorem raise_linkGrows (c : AttnCause) (s : State) : LinkGrows s (raise c s) :=
  ⟨by simp, fun _ => raise_keeps_latched c⟩

/-- The link's lists grow only, and the profile channel stands but for SUPPLY_OPEN. -/
structure WorkFrame (s t : State) : Prop where
  link : LinkGrows s t
  desc : t.profile.desc = s.profile.desc
  unrecorded : t.profile.unrecorded = s.profile.unrecorded
  period : ∃ b, t.profile.period = s.profile.period.map (Period.opened b)

theorem Period.opened_false : Period.opened false = id := by
  funext p
  simp [Period.opened]

theorem LinkGrows.workFrame {s t : State} (link : LinkGrows s t) (profile : t.profile = s.profile) : WorkFrame s t :=
  ⟨link, by rw [profile], by rw [profile], false, by rw [profile, Period.opened_false, Option.map_id]; rfl⟩

/-- What touches neither the link port nor the profile channel. -/
theorem OnlyTouches.workFrame {bs : List Block} {s t : State} (h : OnlyTouches bs s t) (link : Block.link ∉ bs)
    (profile : Block.profile ∉ bs) : WorkFrame s t :=
  (h.linkGrows link).workFrame (h .profile profile)

theorem WorkFrame.trans {s t u : State} (h : WorkFrame s t) (g : WorkFrame t u) : WorkFrame s u := by
  obtain ⟨b, first⟩ := h.period
  obtain ⟨c, second⟩ := g.period
  refine ⟨h.link.trans g.link, g.desc.trans h.desc, g.unrecorded.trans h.unrecorded, b || c, ?_⟩
  rw [second, first, Option.map_map]
  congr 1
  funext p
  simp [Period.opened, Bool.or_assoc]

theorem workFrame_holds : HoldsOfWorks WorkFrame where
  refl s := (OnlyTouches.refl [] s).workFrame (by simp) (by simp)
  trans := WorkFrame.trans
  own h := h.workFrame (by decide) (by decide)
  page s _ _ := (poke_touches s _ _).workFrame (by decide) (by decide)
  writeNotice k head x d s :=
    (writeNotice_linkGrows k head x d s).workFrame (writeNotice_touches s k head x d .profile (by decide))
  raise c s := (raise_linkGrows c s).workFrame (raise_touches s c .profile (by decide))
  supplyOpen s := ⟨(profileSupplyOpen_touches s).linkGrows (by decide), rfl, rfl, true, by
    simp only [profileSupplyOpen, overPeriod, State.withProfile_profile]
    congr 1
    funext p
    simp [Period.opened]⟩

/-! ### The tariff unit's bytes of the page, and the unread notices -/

/-- A byte of the tariff unit's part of the status page, or of an unread entry of the strip (R62, R191). -/
def Held (s : State) (a : Nat) : Prop :=
  (0x49 ≤ a ∧ a < 0x5B) ∨
    (0x600 ≤ a ∧ a < 0x800 ∧ ((a - 0x600) / 16 + 256 - readIndex s) % 32 < unread s)

/-- With the strip's index in range it stays so, the host's read index stands, no unread notice is lost, and the held
bytes stand. -/
def StoreStands (s t : State) : Prop :=
  s.strip.writeIndex ≤ 31 →
    t.strip.writeIndex ≤ 31 ∧ readIndex t = readIndex s ∧ unread s ≤ unread t ∧ SameBytes (Held s) s t

theorem Held.later {s t : State} {a : Nat} (h : Held s a) (read : readIndex t = readIndex s)
    (unread_le : unread s ≤ unread t) : Held t a := by
  rcases h with page | ⟨low, high, entry⟩
  · exact .inl page
  · exact .inr ⟨low, high, by rw [read]; exact lt_of_lt_of_le entry unread_le⟩

theorem StoreStands.trans {s t u : State} (h : StoreStands s t) (g : StoreStands t u) : StoreStands s u := by
  intro index
  obtain ⟨tindex, tread, tunread, tbytes⟩ := h index
  obtain ⟨uindex, uread, uunread, ubytes⟩ := g tindex
  exact ⟨uindex, uread.trans tread, tunread.trans uunread,
    tbytes.trans (ubytes.mono fun _ held => held.later tread tunread)⟩

/-- What moves neither the strip nor a held byte nor the read index. -/
theorem StoreStands.of_bytes {s t : State} (strip : t.strip = s.strip)
    (bytes : SameBytes (fun a => Held s a ∨ a = 0x100) s t) : StoreStands s t := by
  have read : readIndex t = readIndex s := by simp [readIndex, bytes 0x100 (.inr rfl)]
  exact fun index => ⟨strip ▸ index, read, by simp [unread, strip, read], bytes.mono fun _ => .inl⟩

theorem OnlyTouches.storeStands {bs : List Block} {s t : State} (h : OnlyTouches bs s t) (store : Block.store ∉ bs)
    (strip : Block.strip ∉ bs) : StoreStands s t :=
  .of_bytes (h .strip strip) (h.sameBytes store _)

/-- A write outside the tariff's bytes, the read index and the strip. -/
theorem poke_storeStands {a : Nat} {l : List Byte} (s : State)
    (h : ∀ b, a ≤ b → b < a + l.length → (b < 0x49 ∨ 0x5B ≤ b) ∧ b ≠ 0x100 ∧ (b < 0x600 ∨ 0x800 ≤ b)) :
    StoreStands s (poke a l s) := by
  refine .of_bytes (poke_touches s a l .strip (by decide)) (poke_sameBytes s fun b mem => ?_)
  by_contra inside
  obtain ⟨page, read, strip⟩ := h b (by omega) (by omega)
  rcases mem with (⟨low, high⟩ | ⟨low, high, -⟩) | mem <;> omega

@[simp] theorem length_noticeBytes (k : NoticeKind) (head : Nat) (x : Stamp) (d : List Byte) :
    (noticeBytes k head x d).length = 16 := by simp [noticeBytes]

theorem readIndex_le (s : State) : readIndex s ≤ 255 := Nat.le_of_lt_succ (peek s 0x100).isLt

/-- The strip with a notice written at its index, before the index and the page move on. -/
def noticeWritten (k : NoticeKind) (head : Nat) (x : Stamp) (d : List Byte) (s : State) : State :=
  poke (0x600 + 16 * s.strip.writeIndex) (noticeBytes k head x d) s

/-- With room on the strip, a notice stores its entry, moves the index on, and shows it on the page (R191). -/
theorem writeNotice_room (k : NoticeKind) (head : Nat) (x : Stamp) (d : List Byte) {s : State} (up : linkUp s = true)
    (room : unread s < 31) :
    (writeNotice k head x d s).strip = { s.strip with writeIndex := (s.strip.writeIndex + 1) % 32 } ∧
    SameBytes (fun a => a < 0xF6 ∨ 0xF9 ≤ a) (noticeWritten k head x d s) (writeNotice k head x d s) := by
  unfold writeNotice
  rw [if_pos up, if_pos room]
  constructor
  · rw [(attnUpdate_touches _ .strip (by decide) : _ = _), (pageStrip_touches _ .strip (by decide) : _ = _)]
    rfl
  · refine SameBytes.trans ?_ ((attnUpdate_touches _).sameBytes (by decide) _)
    refine SameBytes.trans ?_ (poke_sameBytes _ fun b out => ?_)
    · exact (withStrip_touches _ _).sameBytes (by decide) _
    · simpa using out

theorem writeNotice_storeStands (k : NoticeKind) (head : Nat) (x : Stamp) (d : List Byte) (s : State) :
    StoreStands s (writeNotice k head x d s) := by
  by_cases up : linkUp s = true
  · by_cases room : unread s < 31
    · intro index
      obtain ⟨strip, later⟩ := writeNotice_room k head x d up room
      have read_le := readIndex_le s
      have entry : SameBytes (fun a => Held s a ∨ a = 0x100) s (noticeWritten k head x d s) := by
        refine poke_sameBytes s fun b mem => ?_
        rw [length_noticeBytes]
        unfold Held unread at mem
        omega
      have bytes : SameBytes (fun a => (Held s a ∨ a = 0x100) ∧ (a < 0xF6 ∨ 0xF9 ≤ a)) s (writeNotice k head x d s) :=
        (entry.mono fun _ mem => mem.1).trans (later.mono fun _ mem => mem.2)
      have read : readIndex (writeNotice k head x d s) = readIndex s := by
        simp [readIndex, bytes 0x100 ⟨.inr rfl, .inr (by decide)⟩]
      refine ⟨by rw [strip]; dsimp only; omega, read, ?_, bytes.mono fun a held => ⟨.inl held, ?_⟩⟩
      · unfold unread at room ⊢
        rw [strip, read]
        dsimp only
        omega
      · unfold Held at held
        omega
    · unfold writeNotice
      rw [if_pos up, if_neg room]
      have dropped : StoreStands s (s.withStrip { s.strip with dropped := min (s.strip.dropped + 1) 65535 }) :=
        fun index => ⟨index, rfl, le_refl _, SameBytes.refl _ _⟩
      refine dropped.trans (poke_storeStands _ fun b low high => ?_)
      simp only [List.length_cons, length_leBytes] at high
      omega
  · unfold writeNotice
    rw [if_neg up]
    exact (OnlyTouches.refl [] s).storeStands (by simp) (by simp)

/-- A notice written is read back, and is held from then on (R191). -/
theorem writeNotice_shows (k : NoticeKind) (head : Nat) (x : Stamp) (d : List Byte) {s : State} (up : linkUp s = true)
    (index : s.strip.writeIndex ≤ 31) (room : unread s < 31) :
    peekBytes (writeNotice k head x d s) (0x600 + 16 * s.strip.writeIndex) 16 = noticeBytes k head x d ∧
    ∀ b, 0x600 + 16 * s.strip.writeIndex ≤ b → b < 0x600 + 16 * s.strip.writeIndex + 16 →
      Held (writeNotice k head x d s) b := by
  obtain ⟨strip, later⟩ := writeNotice_room k head x d up room
  obtain ⟨-, read, -, -⟩ := writeNotice_storeStands k head x d s index
  have read_le := readIndex_le s
  refine ⟨?_, fun b low high => .inr ⟨by omega, by omega, ?_⟩⟩
  · rw [later.peekBytes_eq fun b low high => .inr (by omega)]
    have shown := peekBytes_poke up (0x600 + 16 * s.strip.writeIndex) (noticeBytes k head x d)
    rwa [length_noticeBytes] at shown
  · unfold unread at room ⊢
    rw [strip, read]
    dsimp only
    omega

theorem storeStands_holds : HoldsOfWorks StoreStands where
  refl s := (OnlyTouches.refl [] s).storeStands (by simp) (by simp)
  trans := StoreStands.trans
  own h := h.storeStands (by decide) (by decide)
  page s tariff page := poke_storeStands s fun b low high => by omega
  writeNotice := writeNotice_storeStands
  raise c s := (raise_touches s c).storeStands (by decide) (by decide)
  supplyOpen s := (profileSupplyOpen_touches s).storeStands (by decide) (by decide)

end Sys2Proof.Machine
end

section
/-! SUPPORT. The close of a profile period (R197 to R199): the record or the count, the new period, and what both leave. -/

namespace Sys2Proof.Machine

/-- The descriptor after a record is written (R199). -/
def Descriptor.advanced (d : Descriptor) : Descriptor :=
  { d with
    remaining := if d.remaining = 255 then 255 else d.remaining - 1
    nextSlot := (d.nextSlot + 1) % d.capacity }

/-- The state with a record written and the descriptor moved on, before a full channel is reported. -/
def recordWritten (d : Descriptor) (p : Period) (endTime : Nat) (partialMark : Bool) (s : State) : State :=
  pageProfile ((poke (d.offset + 16 * d.nextSlot) (profileRecordBytes p endTime partialMark) s).withProfile
    { s.profile with desc := some d.advanced })

theorem recordPeriod_unrecorded {s : State} {d : Descriptor} (desc : s.profile.desc = some d) (none_left : d.remaining = 0)
    (p : Period) (endTime : Nat) (m : Bool) :
    recordPeriod p endTime m s =
      pageProfile (s.withProfile { s.profile with unrecorded := min (s.profile.unrecorded + 1) 65535 }) := by
  simp [recordPeriod, desc, none_left]

theorem recordPeriod_recorded {s : State} {d : Descriptor} (desc : s.profile.desc = some d) (left : 0 < d.remaining)
    (p : Period) (endTime : Nat) (m : Bool) :
    recordPeriod p endTime m s =
      if d.advanced.remaining = 0 then
        notice .profileFull 0 (byteOf d.nextSlot :: leBytes 4 endTime) (raise .profile (recordWritten d p endTime m s))
      else recordWritten d p endTime m s := by
  have some_left : d.remaining ≠ 0 := Nat.ne_of_gt left
  rw [recordPeriod, desc]
  simp only [some_left, if_false]
  rfl

/-- The report of a full channel is a work like the others; the record itself is not. -/
theorem recordPeriod_after {R : State → State → Prop} (works : HoldsOfWorks R) {s : State} {d : Descriptor}
    (desc : s.profile.desc = some d) (left : 0 < d.remaining) (p : Period) (endTime : Nat) (m : Bool) :
    R (recordWritten d p endTime m s) (recordPeriod p endTime m s) := by
  rw [recordPeriod_recorded desc left]
  split
  · exact works.trans (works.raise _ _) (works.notice _ _ _ _)
  · exact works.refl _

/-- What becomes of the profile channel's record at a close, by the remaining count (R199). -/
def Profile.closed (f : Profile) : Profile :=
  match f.desc with
  | some d =>
    if d.remaining = 0 then { f with unrecorded := min (f.unrecorded + 1) 65535 }
    else { f with desc := some d.advanced }
  | none => f

theorem recordPeriod_profile (p : Period) (endTime : Nat) (m : Bool) (s : State) :
    (recordPeriod p endTime m s).profile = s.profile.closed := by
  have paged : ∀ f, (pageProfile (s.withProfile f)).profile = f := fun f => pageProfile_touches _ .profile (by decide)
  unfold Profile.closed
  cases desc : s.profile.desc with
  | none => simp [recordPeriod, desc]
  | some d =>
    dsimp only
    split
    · rename_i none_left
      rw [recordPeriod_unrecorded desc none_left, paged]
      simp [desc]
    · rename_i some_left
      have written : (recordWritten d p endTime m s).profile = { s.profile with desc := some d.advanced } :=
        pageProfile_touches _ .profile (by decide)
      have reported : ∀ u k h l, (notice k h l (raise .profile u)).profile = u.profile := fun u k h l =>
        OnlyTouches.trans ((raise_touches u .profile).mono (by decide)) (notice_touches _ k h l) .profile (by decide)
      rw [recordPeriod_recorded desc (Nat.pos_of_ne_zero some_left)]
      split
      · rw [reported, written]
      · exact written

theorem Profile.closed_desc {f : Profile} {d : Descriptor} (desc : f.desc = some d) :
    f.closed.desc = some (if d.remaining = 0 then d else d.advanced) := by
  unfold Profile.closed
  rw [desc]
  dsimp only
  split <;> rfl

theorem recordPeriod_linkGrows (p : Period) (endTime : Nat) (m : Bool) (s : State) :
    LinkGrows s (recordPeriod p endTime m s) := by
  cases desc : s.profile.desc with
  | none =>
    have same : recordPeriod p endTime m s = s := by simp [recordPeriod, desc]
    rw [same]
    exact (OnlyTouches.refl [] s).linkGrows (by simp)
  | some d =>
    rcases Nat.eq_zero_or_pos d.remaining with none_left | left
    · rw [recordPeriod_unrecorded desc none_left]
      exact OnlyTouches.linkGrows (bs := [.store, .profile]) (by simp) (by decide)
    · have written : LinkGrows s (recordWritten d p endTime m s) :=
        OnlyTouches.linkGrows (bs := [.store, .profile]) (by simp [recordWritten]) (by decide)
      exact written.trans (recordPeriod_after workFrame_holds desc left p endTime m).link

theorem pageProfile_storeStands (s : State) : StoreStands s (pageProfile s) :=
  poke_storeStands s fun b low high => by
    simp [profileBytes] at high
    omega

@[simp] theorem length_profileRecordBytes (p : Period) (endTime : Nat) (m : Bool) :
    (profileRecordBytes p endTime m).length = 16 := by simp [profileRecordBytes]

/-- A record lies in the open area, and so outside what is held (R176, R196). -/
theorem recordPeriod_storeStands {s : State} (layout : layoutWell s) (p : Period) (endTime : Nat) (m : Bool) :
    StoreStands s (recordPeriod p endTime m s) := by
  cases desc : s.profile.desc with
  | none =>
    have same : recordPeriod p endTime m s = s := by simp [recordPeriod, desc]
    rw [same]
    exact storeStands_holds.refl s
  | some d =>
    obtain ⟨-, area⟩ := layout
    obtain ⟨low, -, -⟩ := area d desc
    rcases Nat.eq_zero_or_pos d.remaining with none_left | left
    · rw [recordPeriod_unrecorded desc none_left]
      exact ((withProfile_touches s _).storeStands (by decide) (by decide)).trans (pageProfile_storeStands _)
    · have stored : StoreStands s (poke (d.offset + 16 * d.nextSlot) (profileRecordBytes p endTime m) s) :=
        poke_storeStands s fun b above _ => by omega
      have written : StoreStands s (recordWritten d p endTime m s) :=
        (stored.trans ((withProfile_touches _ _).storeStands (by decide) (by decide))).trans (pageProfile_storeStands _)
      exact written.trans (recordPeriod_after storeStands_holds desc left p endTime m)

theorem layoutWell_of {s t : State} (layout : layoutWell s) (index : t.strip.writeIndex ≤ 31)
    (desc : t.profile.desc = s.profile.desc) : layoutWell t :=
  ⟨index, fun d hd => layout.2 d (desc ▸ hd)⟩

theorem layoutWell_of_closed {s t : State} (layout : layoutWell s) (index : t.strip.writeIndex ≤ 31)
    (desc : t.profile.desc = s.profile.closed.desc) : layoutWell t := by
  refine ⟨index, fun e he => ?_⟩
  rw [desc] at he
  cases before : s.profile.desc with
  | none =>
    have closed : s.profile.closed = s.profile := by simp [Profile.closed, before]
    rw [closed, before] at he
    cases he
  | some d =>
    obtain ⟨low, high, slot⟩ := layout.2 d before
    rw [Profile.closed_desc before, Option.some.injEq] at he
    subst he
    split
    · exact ⟨low, high, slot⟩
    · exact ⟨low, high, Nat.mod_lt _ (by omega)⟩

/-- The kinds of place that every work but a record keeps to. -/
theorem placeOf_other {a : Nat} (h : 0x800 ≤ a) : placeOf a = .other := by
  unfold placeOf
  split_ifs <;> first | rfl | omega

/-- What keeps to the page, the slips and the strip leaves the open area. -/
theorem Keeps.peekBytes_open {s t : State} (h : Keeps [.page, .slips, .strip] s t) (index : s.strip.writeIndex ≤ 31)
    {a n : Nat} (area : 0x800 ≤ a) : peekBytes t a n = peekBytes s a n :=
  readCells_congr _ _ a n fun b low _ => (h.2 index).2 b (by rw [placeOf_other (by omega)]; decide)

theorem recordPeriod_shows {s : State} (up : linkUp s = true) (layout : layoutWell s) {d : Descriptor}
    (desc : s.profile.desc = some d) (left : 0 < d.remaining) (p : Period) (endTime : Nat) (m : Bool) :
    peekBytes (recordPeriod p endTime m s) (d.offset + 16 * d.nextSlot) 16 = profileRecordBytes p endTime m := by
  obtain ⟨low, -, -⟩ := layout.2 d desc
  have shown := peekBytes_poke up (d.offset + 16 * d.nextSlot) (profileRecordBytes p endTime m)
  rw [length_profileRecordBytes] at shown
  have index : (recordWritten d p endTime m s).strip.writeIndex ≤ 31 := by
    have strip : (recordWritten d p endTime m s).strip = s.strip :=
      OnlyTouches.mono (cs := [.store, .profile]) (by simp [recordWritten]) (fun _ h => h) .strip (by decide)
    rw [strip]
    exact layout.1
  have written : peekBytes (recordWritten d p endTime m s) (d.offset + 16 * d.nextSlot) 16 =
      profileRecordBytes p endTime m := by
    rw [← shown]
    refine readCells_congr _ _ _ _ fun b above _ => ?_
    exact peek_poke_outside _ (.inr (by simp [profileBytes]; omega))
  rw [← written]
  have reported : Keeps [.page, .slips, .strip] (recordWritten d p endTime m s) (recordPeriod p endTime m s) := by
    rw [recordPeriod_recorded desc left]
    split <;> simp
  exact reported.peekBytes_open index (by omega)

theorem recordPeriod_raises {s : State} (up : linkUp s = true) {d : Descriptor} (desc : s.profile.desc = some d)
    (last : d.remaining = 1) (p : Period) (endTime : Nat) (m : Bool) :
    (recordPeriod p endTime m s).link.latched.getLsbD 8 = true := by
  have none_left : d.advanced.remaining = 0 := by simp [Descriptor.advanced, last]
  have still : linkUp (recordWritten d p endTime m s) = true := by
    rw [OnlyTouches.linkUp_eq (bs := [.store, .profile]) (s := s) (by simp [recordWritten]) (by decide), up]
  rw [recordPeriod_recorded desc (by omega), if_pos none_left, notice, writeNotice_latched, raise_latched _ still]
  simp [AttnCause.mask, AttnCause.bit]

/-! ### A close at which a new period opens -/

/-- A period as it opens, whatever the flags that tell of the tamper watch and of the supply (R197). -/
structure Period.Fresh (q : Period) (d : Descriptor) (c : Clock) : Prop where
  wh : q.wh = 0
  minV : q.minV = none
  maxV : q.maxV = none
  step : q.step = false
  minutes : q.minutes = 0
  clockInvalid : q.clockInvalid = !c.valid
  slot : q.slot = if c.valid = true then some (c.count / (60 * (d.d + 1))) else none

theorem Period.Fresh.opened {q : Period} {d : Descriptor} {c : Clock} (h : q.Fresh d c) (b : Bool) :
    (q.opened b).Fresh d c :=
  ⟨h.wh, h.minV, h.maxV, h.step, h.minutes, h.clockInvalid, h.slot⟩

theorem newPeriod_fresh (d : Descriptor) (s : State) : (newPeriod d s).Fresh d s.clock :=
  ⟨rfl, rfl, rfl, rfl, rfl, rfl, rfl⟩

/-- From `s` to `t` the period in progress, `p` under `d`, has closed and a new one has opened. -/
structure Turned (d : Descriptor) (p : Period) (stepMark : Bool) (s t : State) : Prop where
  fresh : ∃ q, t.profile.period = some q ∧ q.Fresh d s.clock
  unrecorded : d.remaining = 0 →
    t.profile.desc = some d ∧ t.profile.unrecorded = min (s.profile.unrecorded + 1) 65535
  recorded : 0 < d.remaining → t.profile.desc = some d.advanced ∧ t.profile.unrecorded = s.profile.unrecorded ∧
    peekBytes t (d.offset + 16 * d.nextSlot) 16 =
      profileRecordBytes { p with step := p.step || stepMark } s.clock.count false
  full : d.remaining = 1 → t.link.latched.getLsbD 8 = true

theorem turnPeriod_eq {s : State} {p : Period} (period : s.profile.period = some p) (stepMark : Bool) :
    turnPeriod stepMark s =
      openPeriod (recordPeriod { p with step := p.step || stepMark } s.clock.count false s) := by
  simp [turnPeriod, closePeriod, period]

theorem turnPeriod_turned {s : State} (up : linkUp s = true) (layout : layoutWell s) {d : Descriptor} {p : Period}
    (desc : s.profile.desc = some d) (period : s.profile.period = some p) (stepMark : Bool) :
    Turned d p stepMark s (turnPeriod stepMark s) := by
  rw [turnPeriod_eq period]
  generalize record : recordPeriod { p with step := p.step || stepMark } s.clock.count false s = u
  have profile : u.profile = s.profile.closed := by rw [← record, recordPeriod_profile]
  have clock : u.clock = s.clock := by rw [← record]; exact recordPeriod_touches s _ _ _ .clock (by decide)
  have opened : (openPeriod u).profile =
      { u.profile with period := u.profile.desc.map fun e => newPeriod e u } := rfl
  have after := Profile.closed_desc desc
  have bytes : ∀ a n, peekBytes (openPeriod u) a n = peekBytes u a n := fun _ _ => rfl
  have link : (openPeriod u).link = u.link := rfl
  refine ⟨?_, fun none_left => ?_, fun left => ⟨?_, ?_, ?_⟩, fun last => ?_⟩
  · rw [opened, profile, after]
    refine ⟨_, rfl, ?_⟩
    have new := newPeriod_fresh (if d.remaining = 0 then d else d.advanced) u
    rw [clock] at new
    split at new <;> rename_i count <;> simp only [count, if_true, if_false] <;>
      exact ⟨new.wh, new.minV, new.maxV, new.step, new.minutes, new.clockInvalid, new.slot⟩
  · rw [opened, profile]
    dsimp only
    rw [after, if_pos none_left]
    exact ⟨rfl, by simp [Profile.closed, desc, none_left]⟩
  · rw [opened, profile]
    dsimp only
    rw [after, if_neg (by omega)]
  · rw [opened, profile]
    simp [Profile.closed, desc, Nat.ne_of_gt left]
  · rw [bytes, ← record]
    exact recordPeriod_shows up layout desc left _ _ _
  · rw [link, ← record]
    exact recordPeriod_raises up desc last _ _ _

/-- Later works keep the close. -/
theorem Turned.later {d : Descriptor} {p : Period} {m : Bool} {s t u : State} (h : Turned d p m s t)
    (area : 0x800 ≤ d.offset) (index : t.strip.writeIndex ≤ 31) (frame : WorkFrame t u)
    (keeps : Keeps [.page, .slips, .strip] t u) : Turned d p m s u := by
  obtain ⟨q, period, fresh⟩ := h.fresh
  obtain ⟨b, later⟩ := frame.period
  refine ⟨⟨q.opened b, by rw [later, period]; rfl, fresh.opened b⟩, fun none_left => ?_, fun left => ?_, fun last => ?_⟩
  · rw [frame.desc, frame.unrecorded]
    exact h.unrecorded none_left
  · obtain ⟨desc, count, bytes⟩ := h.recorded left
    exact ⟨frame.desc.trans desc, frame.unrecorded.trans count,
      (keeps.peekBytes_open index (by omega)).trans bytes⟩
  · exact frame.link.latched 8 (h.full last)

/-- The first bytes of a record: end time, watt-hours, and the extremes (spec/11 section 11.5). -/
theorem profileRecordBytes_take (p : Period) (endTime : Nat) (m : Bool) :
    (profileRecordBytes p endTime m).take 11 =
      leBytes 4 endTime ++ leBytes 2 p.wh ++ leBytes 2 (p.minV.getD 0) ++ leBytes 2 (p.maxV.getD 0) ++
      [flagsByte [p.tamper, p.supplyOpen, p.clockInvalid, p.step, m]] := by
  rfl

theorem turnPeriod_linkGrows (m : Bool) (s : State) : LinkGrows s (turnPeriod m s) := by
  cases period : s.profile.period with
  | none =>
    have same : turnPeriod m s = s := by simp [turnPeriod, period]
    rw [same]
    exact (OnlyTouches.refl [] s).linkGrows (by simp)
  | some p =>
    rw [turnPeriod_eq period]
    exact (recordPeriod_linkGrows _ _ _ s).trans ((openPeriod_touches _).linkGrows (by decide))

theorem turnPeriod_storeStands {s : State} (layout : layoutWell s) (m : Bool) : StoreStands s (turnPeriod m s) := by
  cases period : s.profile.period with
  | none =>
    have same : turnPeriod m s = s := by simp [turnPeriod, period]
    rw [same]
    exact storeStands_holds.refl s
  | some p =>
    rw [turnPeriod_eq period]
    exact (recordPeriod_storeStands layout _ _ _).trans
      ((openPeriod_touches _).storeStands (by decide) (by decide))

theorem turnPeriod_layoutWell {s : State} (layout : layoutWell s) (m : Bool) : layoutWell (turnPeriod m s) := by
  obtain ⟨index, -⟩ := turnPeriod_storeStands layout m layout.1
  cases period : s.profile.period with
  | none =>
    have same : turnPeriod m s = s := by simp [turnPeriod, period]
    rwa [same]
  | some p =>
    have opened : ∀ u, (openPeriod u).profile.desc = u.profile.desc := fun _ => rfl
    exact layoutWell_of_closed layout index (by rw [turnPeriod_eq period, opened, recordPeriod_profile])

end Sys2Proof.Machine
end

section
/-! SUPPORT. A work done once among others, in any order (R74, R113; assumption log 12). -/

namespace Sys2Proof.Machine

/-- A work that stands once among others takes `P` to `Q`, where the others keep both. -/
theorem inAnyOrder_once {P Q : State → Prop} (count : ∀ t n, Q t → Q (t.withFreeCount n))
    {works rest : List (State → State)} {w : State → State} (once : works.Perm (w :: rest))
    (before : ∀ v ∈ rest, ∀ s, P s → P (v s)) (work : ∀ s, P s → Q (w s)) (after : ∀ v ∈ rest, ∀ s, Q s → Q (v s))
    {s : State} (base : P s) : Q (inAnyOrder works s) := by
  refine freePick_of_ne count ?_ fun r hr => ?_
  · simpa using List.ne_nil_of_mem (self_mem_orders works)
  · obtain ⟨o, ho, rfl⟩ := List.mem_map.mp hr
    have perm : o.Perm (w :: rest) := (mem_orders_perm ho).trans once
    obtain ⟨first, last, rfl⟩ := List.append_of_mem (perm.mem_iff.mpr List.mem_cons_self)
    have others : (first ++ last).Perm rest := (List.perm_middle.symm.trans perm).cons_inv
    have split : runAll (first ++ w :: last) s = runAll last (w (runAll first s)) := by simp [runAll]
    rw [split]
    exact runAll_of (fun v hv => after v (others.mem_iff.mp (List.mem_append_right first hv)))
      (work _ (runAll_of (fun v hv => before v (others.mem_iff.mp (List.mem_append_left last hv))) base))

end Sys2Proof.Machine
end

section
/-! SUPPORT. The second tick while RUNNING (R40 to R42): its counts, one after another, and then its works, in any order. -/

namespace Sys2Proof.Machine

/-- The state as the second ends, before the tick is offered (R40). -/
def ticked (s : State) : State := s.withClock s.clock.tick

/-- The tick's counts, with the notice of the calendar's end (R40, R41). -/
def tickReady (s : State) : State :=
  if endsCalendar s.clock then calendarEndNotice (tickCounts (ticked s)) else tickCounts (ticked s)

/-- The works of the tick that begins in `s`. -/
def worksOf (s : State) : List (State → State) :=
  tickWorks (dayChanges s.clock.tick) (recloseDue s) (retryDue s) (ticked s)

theorem exec_secondTick {s : State} (running : isRunning s = true) (clock : s.clock.running = true) :
    exec .secondTick s = .next (inAnyOrder (worksOf s) (tickReady s)) := by
  simp only [exec, execSecondTick, clock, if_true, advanceClock, running]
  rfl

theorem exec_secondTick_unoffered {s : State} (running : isRunning s = false) (clock : s.clock.running = true) :
    exec .secondTick s = .next (if endsCalendar s.clock then pageCalendar (ticked s) else ticked s) := by
  simp only [exec, execSecondTick, clock, if_true, advanceClock, running, Bool.false_eq_true, if_false]
  rfl

theorem tickReady_touches (s : State) : OnlyTouches [.store, .clock, .code, .supply, .link, .strip] s (tickReady s) := by
  unfold tickReady ticked
  simp [apply_ite (OnlyTouches _ _)]

theorem tickReady_keeps (s : State) : Keeps [.page, .strip] s (tickReady s) := by
  have counted : Keeps [.page, .strip] s (ticked s) :=
    ((withClock_touches s _).keeps (by decide) (by decide)).mono (by simp)
  unfold tickReady
  split <;> simp [counted]

theorem tickReady_counted (s : State) :
    OnlyTouches [.store, .link, .strip] (tickCounts (ticked s)) (tickReady s) := by
  unfold tickReady
  simp [apply_ite (OnlyTouches _ _)]

theorem tickReady_clock (s : State) : (tickReady s).clock = s.clock.tick.announce :=
  ((tickReady_counted s).clock_eq (by decide)).trans (tickCounts_clock _)

theorem tickReady_workFrame (s : State) : WorkFrame s (tickReady s) := by
  have counted : WorkFrame s (tickCounts (ticked s)) :=
    OnlyTouches.workFrame (bs := [.store, .clock, .code, .supply]) (by simp [ticked]) (by decide) (by decide)
  unfold tickReady
  split
  · exact counted.trans (workFrame_holds.notice _ _ _ _)
  · exact counted

/-! ### The works -/

/-- The works of the supply controller in a tick (R123, R132). -/
def supplyWorks (day reclose retry : Bool) (s : State) : List (State → State) :=
  (if day && decide (s.supply.overload = .latched) then [latchWork] else []) ++
  (if reclose then [recloseWork] else []) ++ (if retry then [retryWork] else [])

theorem tickWorks_eq (day reclose retry : Bool) (s : State) :
    tickWorks day reclose retry s =
      (if isMinute s.clock || pendingDue s then [tariffTick (isMinute s.clock)] else []) ++
      supplyWorks day reclose retry s ++
      (if isMinute s.clock then [evaluateCredit .minute, profileMinute] else []) := by
  simp [tickWorks, supplyWorks]

theorem mem_supplyWorks {day reclose retry : Bool} {s : State} {w : State → State}
    (h : w ∈ supplyWorks day reclose retry s) :
    w = latchWork ∧ day = true ∧ s.supply.overload = .latched ∨ w = recloseWork ∧ reclose = true ∨
      w = retryWork ∧ retry = true := by
  unfold supplyWorks at h
  rcases List.mem_append.mp h with h | h
  · rcases List.mem_append.mp h with h | h
    · split at h
      · rename_i due
        simp only [Bool.and_eq_true, decide_eq_true_eq] at due
        exact .inl ⟨List.mem_singleton.mp h, due⟩
      · cases h
    · split at h
      · exact .inr (.inl ⟨List.mem_singleton.mp h, ‹_›⟩)
      · cases h
  · split at h
    · exact .inr (.inr ⟨List.mem_singleton.mp h, ‹_›⟩)
    · cases h

/-- Each work of a tick with what makes it due. -/
theorem mem_worksOf {s : State} {w : State → State} (h : w ∈ worksOf s) :
    w = tariffTick (isMinute s.clock.tick) ∨ w ∈ supplyWorks (dayChanges s.clock.tick) (recloseDue s) (retryDue s) s ∨
      isMinute s.clock.tick = true ∧ (w = evaluateCredit .minute ∨ w = profileMinute) := by
  unfold worksOf at h
  rw [tickWorks_eq] at h
  rcases List.mem_append.mp h with h | h
  · rcases List.mem_append.mp h with h | h
    · split at h
      · exact .inl (List.mem_singleton.mp h)
      · cases h
    · exact .inr (.inl h)
  · split at h
    · exact .inr (.inr ⟨‹_›, by simpa using h⟩)
    · cases h

/-- A minute tick's works are the profile channel's and the others. -/
theorem worksOf_profile {s : State} (minute : isMinute s.clock.tick = true) :
    (worksOf s).Perm (profileMinute :: (tariffTick true ::
      supplyWorks (dayChanges s.clock.tick) (recloseDue s) (retryDue s) s ++ [evaluateCredit .minute])) := by
  have clock : isMinute (ticked s).clock = true := minute
  unfold worksOf
  rw [tickWorks_eq, clock]
  simp only [Bool.true_or, if_true]
  have last := List.perm_append_singleton profileMinute (tariffTick true ::
    supplyWorks (dayChanges s.clock.tick) (recloseDue s) (retryDue s) s ++ [evaluateCredit .minute])
  rwa [List.append_assoc] at last

/-- The works of a tick with tariff work are that and the others. -/
theorem worksOf_tariff {s : State} (due : (isMinute s.clock.tick || pendingDue (ticked s)) = true) :
    worksOf s = tariffTick (isMinute s.clock.tick) ::
      (supplyWorks (dayChanges s.clock.tick) (recloseDue s) (retryDue s) s ++
        if isMinute s.clock.tick then [evaluateCredit .minute, profileMinute] else []) := by
  have clock : isMinute (ticked s).clock = isMinute s.clock.tick := rfl
  unfold worksOf
  rw [tickWorks_eq, clock, if_pos due]
  simp
  rfl

/-! ### The counts -/

/-- The lock counts down, and ends with the count of failures cleared (R103). -/
theorem lockSecond_code (s : State) :
    (lockSecond s).code = { s.code with
      lock := s.code.lock - 1, failCount := if s.code.lock = 1 then 0 else s.code.failCount } := by
  have page : ∀ f, (pageCode (overCode f s)).code = f s.code := fun f => pageCode_touches _ .code (by decide)
  unfold lockSecond endLock
  split
  · rename_i free
    rw [if_neg (by simp [free]), free, Nat.zero_sub, ← free]
  · split
    · rename_i last
      simp [page, last]
    · simp [page]

/-- The idle timer counts, and the line is cleared once the timeout is surely past (R89; assumption log 6). -/
theorem idleSecond_code {s : State} (counts : idleCounts s.code = true) :
    (idleSecond s).code = { s.code with
      idle := s.code.idle + 1, line := if s.settings.idleTimeout ≤ s.code.idle then [] else s.code.line } := by
  let counted := overCode (fun u => { u with idle := u.idle + 1 }) s
  have expired : (idleExpires counted).code = { counted.code with line := [] } := by
    unfold idleExpires
    split
    · rename_i empty
      rw [← empty]
    · exact pageEntry_touches _ .code (by decide)
  unfold idleSecond
  rw [if_pos counts]
  dsimp only
  split
  · rename_i past
    rw [if_pos (Nat.le_of_lt_succ past)]
    exact expired
  · rename_i early
    rw [if_neg fun past => early (Nat.lt_succ_of_le past)]
    rfl

theorem idleSecond_lock (s : State) :
    (idleSecond s).code.lock = s.code.lock ∧ (idleSecond s).code.failCount = s.code.failCount := by
  by_cases counts : idleCounts s.code = true
  · rw [idleSecond_code counts]
    exact ⟨rfl, rfl⟩
  · rw [idleSecond, if_neg counts]
    exact ⟨rfl, rfl⟩

theorem tickCounts_code (s : State) : (tickCounts s).code = (idleSecond (lockSecond (clockPage s))).code := by
  have later : OnlyTouches [.store, .clock, .supply] (idleSecond (lockSecond (clockPage s))) (tickCounts s) := by
    unfold tickCounts
    simp [apply_ite (OnlyTouches _ _)]
  exact later .code (by decide)

/-- The countdown of the reclose wait, whose last second is a work of the tick (R132). -/
def Overload.counted : Overload → Overload
  | .waiting r => if 1 < r then .waiting (r - 1) else .waiting r
  | o => o

/-- The tick's counts in the supply controller: the wait, and at a minute tick the history (R132). -/
theorem tickCounts_supply (s : State) :
    (tickCounts s).supply.overload = s.supply.overload.counted ∧ (tickCounts s).supply.causes = s.supply.causes ∧
    (tickCounts s).supply.trips = (if s.clock.count % 60 = 0
      then s.supply.trips.filter fun x => decide (s.clock.count ≤ x + 3600 ∧ x ≤ s.clock.count) else s.supply.trips) := by
  let before := idleSecond (lockSecond (clockPage s))
  have same : OnlyTouches [.store, .code] s before := by simp [before]
  have supply : before.supply = s.supply := same.supply_eq (by decide)
  have clock : before.clock = s.clock := same.clock_eq (by decide)
  let counted := (supplySecond before).withClock (supplySecond before).clock.announce
  have history : counted.supply = (supplySecond before).supply := rfl
  have count : counted.clock.count = s.clock.count := by
    have later : (supplySecond before).clock = before.clock := supplySecond_touches _ .clock (by decide)
    simp [counted, later, clock]
  have wait : (supplySecond before).supply.overload = s.supply.overload.counted ∧
      (supplySecond before).supply.causes = s.supply.causes ∧
      (supplySecond before).supply.trips = s.supply.trips := by
    unfold supplySecond
    dsimp only
    rw [pageSupply_supply, overSupply_supply, supply]
    refine ⟨?_, rfl, rfl⟩
    dsimp only
    cases s.supply.overload <;> rfl
  have tick : tickCounts s = if isMinute s.clock then pruneTrips counted else counted := rfl
  obtain ⟨overload, causes, trips⟩ := wait
  rw [tick]
  unfold isMinute
  by_cases minute : s.clock.count % 60 = 0
  · have pruned : (pruneTrips counted).supply = { counted.supply with
        trips := counted.supply.trips.filter fun x =>
          decide (counted.clock.count ≤ x + 3600 ∧ x ≤ counted.clock.count) } := by
      simp [pruneTrips]
    simp only [minute, decide_true, if_true]
    rw [pruned, history, count]
    exact ⟨overload, causes, by rw [← trips]⟩
  · simp only [minute, decide_false, if_false, Bool.false_eq_true]
    exact ⟨overload, causes, trips⟩

end Sys2Proof.Machine
end

section
/-! PROOF. What the second tick counts (R40, R41, R45, R89, R103). -/

namespace Sys2Proof.Machine

/-- The works of a tick leave the code unit. -/
theorem inAnyOrder_worksOf_touches (s u : State) :
    OnlyTouches [.store, .conv, .tariff, .credit, .supply, .link, .strip, .profile, .freeCount] u
      (inAnyOrder (worksOf s) u) :=
  inAnyOrder_touches _ (by simp) fun _ hw v => (tickWorks_touches hw v).mono (by decide)

theorem inAnyOrder_worksOf_code (s : State) :
    (inAnyOrder (worksOf s) (tickReady s)).code = (idleSecond (lockSecond (clockPage (ticked s)))).code := by
  have works : (inAnyOrder (worksOf s) (tickReady s)).code = (tickReady s).code :=
    inAnyOrder_worksOf_touches s _ .code (by decide)
  have ready : (tickReady s).code = (tickCounts (ticked s)).code := tickReady_counted s .code (by decide)
  rw [works, ready, tickCounts_code]

theorem inAnyOrder_worksOf_clock (s : State) :
    (inAnyOrder (worksOf s) (tickReady s)).clock = s.clock.tick.announce :=
  ((inAnyOrder_worksOf_touches s _).clock_eq (by decide)).trans (tickReady_clock s)

/-- The code unit in a tick: the lock, its failures, and the idle timer with the line (R89, R103). -/
theorem secondTick_code (s : State) :
    let t := inAnyOrder (worksOf s) (tickReady s)
    t.code.lock = s.code.lock - 1 ∧ t.code.failCount = (if s.code.lock = 1 then 0 else s.code.failCount) ∧
      (s.code.scanning = true → s.code.held = false → t.code.idle = s.code.idle + 1 ∧
        t.code.line = if s.settings.idleTimeout ≤ s.code.idle then [] else s.code.line) := by
  intro t
  have paged : OnlyTouches [.store, .clock] s (clockPage (ticked s)) := by simp [ticked]
  have code : (clockPage (ticked s)).code = s.code := paged .code (by decide)
  have locked := lockSecond_code (clockPage (ticked s))
  have settings : (lockSecond (clockPage (ticked s))).settings = s.settings :=
    (paged.mono (by decide)).trans ((lockSecond_touches _).mono (by decide : ∀ b ∈ [Block.store, .code], b ∈
      [Block.store, .clock, .code])) .settings (by decide)
  rw [code] at locked
  obtain ⟨lock, fails⟩ := idleSecond_lock (lockSecond (clockPage (ticked s)))
  rw [show t.code = _ from inAnyOrder_worksOf_code s]
  refine ⟨by rw [lock, locked], by rw [fails, locked], fun scanning free => ?_⟩
  have counts : idleCounts (lockSecond (clockPage (ticked s))).code = true := by
    rw [locked]
    simp [idleCounts, scanning, free]
  rw [idleSecond_code counts, settings, locked]
  exact ⟨rfl, rfl⟩

/-- A tick that is not offered moves the clock, and shows the end of the calendar alone (R40, R45). -/
theorem secondTick_unoffered (s : State) :
    let t := if endsCalendar s.clock then pageCalendar (ticked s) else ticked s
    t.clock = s.clock.tick ∧ OnlyTouches [.clock, .store] s t ∧
      (endsCalendar s.clock = false → t.store = s.store) ∧ (linkUp s = false → t.store = s.store) ∧
      (endsCalendar s.clock = true → linkUp s = true →
        peekBytes t 0x43 6 = [0, 0, 0, 0, 0, 0] ∧ SameBytes (fun a => a < 0x43 ∨ 0x49 ≤ a) s t) := by
  have invalid : endsCalendar s.clock = true → calendarBytes (ticked s).clock = [0, 0, 0, 0, 0, 0] := by
    intro ends
    have clock : (ticked s).clock.valid = false := by simp [ticked, Clock.tick, ends]
    simp [calendarBytes, clock]
    decide
  cases ends : endsCalendar s.clock with
  | false =>
    simp only [Bool.false_eq_true, if_false]
    exact ⟨rfl, (withClock_touches s _).mono (by decide), fun _ => rfl, fun _ => rfl, fun h => nomatch h⟩
  | true =>
    simp only [if_true]
    refine ⟨(pageCalendar_touches _).clock_eq (by decide), by simp [ticked], fun h => (nomatch h), fun down => ?_,
      fun _ up => ⟨?_, ?_⟩⟩
    · have still : linkUp (ticked s) = false := down
      simp [pageCalendar, poke, still]
      rfl
    · have shown := peekBytes_poke (s := ticked s) up 0x43 (calendarBytes (ticked s).clock)
      rw [invalid ends] at shown
      rw [pageCalendar, invalid ends]
      exact shown
    · rw [pageCalendar, invalid ends]
      exact poke_sameBytes (ticked s) fun b out => out

/-- Settles O16: the clock's move, and by the link state the counts of an offered tick or what an unoffered one shows. -/
theorem secondTickCounts : Obligations.SecondTickCounts := by
  unfold Obligations.SecondTickCounts
  intro s clock below
  have count : nextCount s.clock.count = s.clock.count + 1 := nextCount_of_lt below
  have moved : s.clock.tick.count = s.clock.count + 1 := count
  have valid : s.clock.tick.valid = true ↔ s.clock.valid = true ∧ s.clock.count + 1 < 3155760000 := by
    rw [Clock.tick_valid_iff, count]
    rfl
  have ends : endsCalendar s.clock = true ↔ s.clock.valid = true ∧ 3155760000 ≤ s.clock.count + 1 := by
    simp [endsCalendar, count, calendarEnd]
  cases running : isRunning s with
  | true =>
    refine ⟨_, exec_secondTick running clock, ?_⟩
    rw [inAnyOrder_worksOf_clock]
    exact ⟨by simpa using moved, by simpa [Clock.tick] using clock, by simpa using valid, fun _ => secondTick_code s,
      fun h => nomatch h⟩
  | false =>
    obtain ⟨ticks, touches, within, down, shows⟩ := secondTick_unoffered s
    refine ⟨_, exec_secondTick_unoffered running clock, ?_⟩
    rw [ticks]
    refine ⟨moved, clock, valid, fun h => (nomatch h), fun _ => ⟨rfl, touches, fun was last up => ?_, fun h => ?_⟩⟩
    · exact shows (ends.mpr ⟨was, by omega⟩) up
    · by_cases now : endsCalendar s.clock = true
      · obtain ⟨was, late⟩ := ends.mp now
        rcases h with h | h | h
        · simp [was] at h
        · omega
        · exact down h
      · exact within (by simpa using now)

end Sys2Proof.Machine
end

section
/-! SUPPORT. The overload and the trip history under the works of a tick (R132). -/

namespace Sys2Proof.Machine

/-- What the supply controller keeps of overloads: the overload, its cause, and the times of the trips (R132). -/
structure History where
  overload : Overload
  cause : Bool
  trips : List Nat

def Supply.history (u : Supply) : History := ⟨u.overload, u.causes.overload, u.trips⟩

/-- The overload ends, with its cause; the trips stay. -/
def History.ended (h : History) : History := { h with overload := .none, cause := false }

/-- Acting on the causes moves the machine and its attempt alone. -/
theorem actOnCauses_history (s : State) : (actOnCauses s).supply.history = s.supply.history := by
  have entered : ∀ x, (enterOpening x s).supply.history = s.supply.history := fun x => by simp [Supply.history]
  have changed : ∀ m x u, (changeMachine m x u s).supply.history = s.supply.history := fun m x u => by
    simp [Supply.history]
  unfold actOnCauses
  split
  · exact entered _
  · exact changed _ _ _
  · exact changed _ _ _
  · split
    · exact entered _
    · rfl
  · exact changed _ _ _
  · exact changed _ _ _
  · rfl

theorem Causes.put_of_has {c : Causes} {k : Cause} {b : Bool} (h : c.has k = b) : c.put k b = c := by
  subst h
  cases k <;> rfl

theorem setCause_history (k : Cause) (b : Bool) (s : State) :
    (setCause k b s).supply.history = { s.supply.history with cause := (s.supply.causes.put k b).overload } := by
  unfold setCause
  split
  · rename_i same
    rw [Causes.put_of_has same]
    rfl
  · dsimp only
    split
    · rw [actOnCauses_history]
      simp [Supply.history]
    · simp [Supply.history]

theorem endOverload_history (s : State) : (endOverload s).supply.history = s.supply.history.ended := by
  rw [endOverload, setCause_history]
  simp [Supply.history, History.ended, Causes.put]

theorem latchWork_history (s : State) :
    (latchWork s).supply.history =
      if s.supply.overload = .latched then s.supply.history.ended else s.supply.history := by
  unfold latchWork
  split
  · exact endOverload_history s
  · rfl

theorem recloseWork_history (s : State) :
    (recloseWork s).supply.history = if recloseDue s then s.supply.history.ended else s.supply.history := by
  unfold recloseWork
  split
  · exact endOverload_history s
  · rfl

theorem retryWork_history (s : State) : (retryWork s).supply.history = s.supply.history := by
  unfold retryWork retryExpires
  split
  · simp [Supply.history]
  · rfl

theorem evaluateCredit_history (x : CreditTrigger) (s : State) :
    (evaluateCredit x s).supply.history = s.supply.history := by
  have paged : (pageCredit (s.withCredit (s.credit.evaluated s.settings s.clock))).supply = s.supply :=
    OnlyTouches.supply_eq (bs := [.store, .credit]) (by simp) (by decide)
  have announced : ∀ old u, (raise .credit (creditStateNotice old x u)).supply = u.supply := fun old u =>
    OnlyTouches.supply_eq (bs := [.store, .link, .strip]) (by simp) (by decide)
  have credit : ∀ b u, (setCause .credit b u).supply.history = u.supply.history := fun b u => setCause_history _ _ _
  unfold evaluateCredit
  dsimp only
  split
  · rw [paged]
  · split
    · rw [credit, announced, paged]
    · split
      · rw [credit, announced, paged]
      · rw [announced, paged]

theorem tariffTick_history (minute : Bool) (s : State) : (tariffTick minute s).supply.history = s.supply.history := by
  have second : ∀ u, (tariffSecond u).supply = u.supply := fun u => (tariffSecond_touches u).supply_eq (by decide)
  have rolled : ∀ r u, (rollover r u).supply = u.supply := fun r u => (rollover_touches u r).supply_eq (by decide)
  have block : ∀ u, (pageBlockBand u).supply = u.supply := fun u => (pageBlockBand_touches u).supply_eq (by decide)
  have moved : ∀ (u : State) f, (pageTariff (u.withTariff f)).supply = u.supply := fun u f =>
    OnlyTouches.supply_eq (bs := [.store, .tariff]) (by simp) (by decide)
  have debit : ∀ a u, (dailyDebit a u).supply.history = u.supply.history := fun a u => by
    rw [dailyDebit, evaluateCredit_history,
      OnlyTouches.supply_eq (bs := [.store, .credit]) (s := u) (by simp) (by decide)]
  have charged : ∀ r u, (chargeDays r u).supply.history = u.supply.history := by
    intro r u
    unfold chargeDays
    dsimp only
    split
    · rw [moved]
    · split
      · rw [moved]
        split
        · exact debit _ u
        · rfl
      · rfl
  have minutes : ∀ u, (tariffMinute u).supply.history = u.supply.history := by
    intro u
    unfold tariffMinute
    split
    · split
      · rw [charged, rolled]
      · rfl
    · rfl
  unfold tariffTick
  split
  · rw [block, minutes, second]
  · rw [second]

/-- Each work of a tick leaves the history or ends the overload. -/
theorem work_history {s : State} {w : State → State} (mem : w ∈ worksOf s) (u : State) :
    (w u).supply.history = u.supply.history ∨ (w u).supply.history = u.supply.history.ended := by
  rcases mem_worksOf mem with rfl | mem | ⟨-, rfl | rfl⟩
  · exact .inl (tariffTick_history _ u)
  · rcases mem_supplyWorks mem with ⟨rfl, -⟩ | ⟨rfl, -⟩ | ⟨rfl, -⟩
    · rw [latchWork_history]
      split
      · exact .inr rfl
      · exact .inl rfl
    · rw [recloseWork_history]
      split
      · exact .inr rfl
      · exact .inl rfl
    · exact .inl (retryWork_history u)
  · exact .inl (evaluateCredit_history _ u)
  · exact .inl (congrArg Supply.history ((profileMinute_touches u).supply_eq (by decide)))

/-- Of the works of a tick only the latch's end and the wait's move the history. -/
theorem work_history_eq {s : State} {w : State → State} (mem : w ∈ worksOf s)
    (latch : (dayChanges s.clock.tick && decide (s.supply.overload = .latched)) = false) (reclose : recloseDue s = false)
    (u : State) : (w u).supply.history = u.supply.history := by
  rcases mem_worksOf mem with rfl | mem | ⟨-, rfl | rfl⟩
  · exact tariffTick_history _ u
  · rcases mem_supplyWorks mem with ⟨-, day, latched⟩ | ⟨-, wait⟩ | ⟨rfl, -⟩
    · simp [day, latched] at latch
    · simp [reclose] at wait
    · exact retryWork_history u
  · exact evaluateCredit_history _ u
  · exact congrArg Supply.history ((profileMinute_touches u).supply_eq (by decide))

/-- The trips are moved by the tick's counts alone. -/
theorem worksOf_trips (s u : State) : (inAnyOrder (worksOf s) u).supply.trips = u.supply.trips := by
  refine inAnyOrder_of (P := fun t => t.supply.trips = u.supply.trips) (fun _ _ h => h) (fun w mem t same => ?_) rfl
  rw [← same]
  rcases work_history mem t with history | history <;> exact congrArg History.trips history

theorem worksOf_history_eq {s : State}
    (latch : (dayChanges s.clock.tick && decide (s.supply.overload = .latched)) = false) (reclose : recloseDue s = false)
    (u : State) : (inAnyOrder (worksOf s) u).supply.history = u.supply.history :=
  inAnyOrder_of (P := fun t => t.supply.history = u.supply.history) (fun _ _ h => h)
    (fun _ mem t same => (work_history_eq mem latch reclose t).trans same) rfl

/-- Where the work that ends the overload is one of the tick's, the overload is over when the tick is. -/
theorem worksOf_history_ended {s : State} {w : State → State} (mem : w ∈ worksOf s) {u : State}
    (ends : ∀ t, t.supply.history = u.supply.history → (w t).supply.history = t.supply.history.ended) :
    (inAnyOrder (worksOf s) u).supply.history = u.supply.history.ended := by
  have stays : ∀ v ∈ worksOf s, ∀ t : State, t.supply.history = u.supply.history.ended →
      (v t).supply.history = u.supply.history.ended := by
    intro v hv t done
    rcases work_history hv t with same | same <;> rw [same, done]
    rfl
  refine inAnyOrder_establishes
    (P := fun t => t.supply.history = u.supply.history ∨ t.supply.history = u.supply.history.ended)
    (Q := fun t => t.supply.history = u.supply.history.ended) (fun _ _ h => h) mem ?_ ?_ stays (.inl rfl)
  · rintro v hv t (same | done)
    · rcases work_history hv t with h | h
      · exact .inl (h.trans same)
      · exact .inr (h.trans (congrArg History.ended same))
    · exact .inr (stays v hv t done)
  · rintro t (same | done)
    · exact (ends t same).trans (congrArg History.ended same)
    · exact stays w mem t done

theorem latchWork_mem {s : State} (day : dayChanges s.clock.tick = true) (latched : s.supply.overload = .latched) :
    latchWork ∈ worksOf s := by
  simp [worksOf, tickWorks_eq, supplyWorks, ticked, day, latched]

theorem recloseWork_mem {s : State} (due : recloseDue s = true) : recloseWork ∈ worksOf s := by
  simp [worksOf, tickWorks_eq, supplyWorks, due]

end Sys2Proof.Machine
end

section
/-! PROOF. The day, the overload, the trips and the profile period at a second tick (R42, R132, R197 to R199). -/

namespace Sys2Proof.Machine

/-- A day change at a tick (R42). -/
theorem dayChanges_iff (c : Clock) :
    dayChanges c = true ↔ c.valid = true ∧ ∃ d, c.announced = some d ∧ d < c.count / 86400 := by
  unfold dayChanges dayIndex
  cases c.announced <;> simp

theorem Clock.tick_announced (c : Clock) : c.tick.announced = c.announced := rfl

/-- What the works of a tick do together, over what its counts did: the history. -/
theorem secondTick_history (s : State) :
    let t := inAnyOrder (worksOf s) (tickReady s)
    (s.supply.overload = .latched → dayChanges s.clock.tick = true →
      t.supply.overload = .none ∧ t.supply.causes.overload = false) ∧
    (s.supply.overload = .latched → dayChanges s.clock.tick = false → t.supply.overload = .latched) ∧
    (∀ r, s.supply.overload = .waiting r →
      (1 < r → t.supply.overload = .waiting (r - 1)) ∧
      (r ≤ 1 → t.supply.overload = .none ∧ t.supply.causes.overload = false)) ∧
    t.supply.trips = (if s.clock.tick.count % 60 = 0
      then s.supply.trips.filter fun x => decide (s.clock.tick.count ≤ x + 3600 ∧ x ≤ s.clock.tick.count)
      else s.supply.trips) := by
  intro t
  have ready : (tickReady s).supply = (tickCounts (ticked s)).supply :=
    (tickReady_counted s).supply_eq (by decide)
  obtain ⟨overload, -, trips⟩ := tickCounts_supply (ticked s)
  rw [← ready] at overload trips
  have ended : t.supply.history = (tickReady s).supply.history.ended →
      t.supply.overload = .none ∧ t.supply.causes.overload = false := fun h =>
    ⟨congrArg History.overload h, congrArg History.cause h⟩
  refine ⟨fun latched day => ended ?_, fun latched same => ?_, fun r waits => ⟨fun more => ?_, fun last => ended ?_⟩, ?_⟩
  · refine worksOf_history_ended (latchWork_mem day latched) fun u same => ?_
    have still : u.supply.overload = .latched := by
      have h : u.supply.overload = (tickReady s).supply.overload := congrArg History.overload same
      rw [h, overload]
      simp [ticked, latched, Overload.counted]
    rw [latchWork_history, if_pos still]
  · have reclose : recloseDue s = false := by simp [recloseDue, latched]
    have h := congrArg History.overload (worksOf_history_eq (by simp [same]) reclose (tickReady s))
    refine h.trans (overload.trans ?_)
    simp [ticked, latched, Overload.counted]
  · have reclose : recloseDue s = false := by simp [recloseDue, waits, more]
    have h := congrArg History.overload (worksOf_history_eq (by simp [waits]) reclose (tickReady s))
    refine h.trans (overload.trans ?_)
    simp [ticked, waits, Overload.counted, more]
  · refine worksOf_history_ended (recloseWork_mem (by simp [recloseDue, waits, last])) fun u same => ?_
    have still : u.supply.overload = .waiting r := by
      have h : u.supply.overload = (tickReady s).supply.overload := congrArg History.overload same
      rw [h, overload]
      simp [ticked, waits, Overload.counted, Nat.not_lt.mpr last]
    rw [recloseWork_history, if_pos (by simp [recloseDue, still, last])]
  · exact (worksOf_trips s _).trans trips

/-! ### The profile channel's minute (R197 to R199) -/

/-- A period after a minute tick that does not close it (R197). -/
def Period.minuted (p : Period) (c : Clock) : Period :=
  { p with minutes := p.minutes + 1, clockInvalid := p.clockInvalid || !c.valid }

/-- A minute tick closes the period (R198). -/
def Period.due (p : Period) (d : Descriptor) (c : Clock) : Prop :=
  (c.valid = true ∧ ∃ k, p.slot = some k ∧ k < c.count / (60 * (d.d + 1))) ∨ (c.valid = false ∧ d.d + 1 ≤ p.minutes + 1)

/-- The channel after the minute tick has counted, before a close. -/
def minuteCounted (p : Period) (s : State) : State :=
  s.withProfile { s.profile with period := some (p.minuted s.clock) }

theorem profileMinute_eq {s : State} {d : Descriptor} {p : Period} (desc : s.profile.desc = some d)
    (period : s.profile.period = some p) [Decidable (p.due d s.clock)] :
    profileMinute s = if p.due d s.clock then turnPeriod false (minuteCounted p s) else minuteCounted p s := by
  have judged : (if s.clock.valid then
        (match p.slot with
         | some n => decide (n < slotOf d.d s.clock.count)
         | none => false)
      else decide (d.d + 1 ≤ p.minutes + 1)) = true ↔ p.due d s.clock := by
    unfold Period.due slotOf
    cases s.clock.valid <;> cases p.slot <;> simp
  unfold profileMinute
  rw [desc, period]
  exact if_congr judged rfl rfl

theorem profileMinute_none {s : State} (h : s.profile.desc = none ∨ s.profile.period = none) : profileMinute s = s := by
  unfold profileMinute
  split
  · rename_i desc period
    rw [desc, period] at h
    simp at h
  · rfl

theorem tariffTick_workFrame (minute : Bool) (s : State) : WorkFrame s (tariffTick minute s) := by
  have own : ∀ {u v : State}, OnlyTouches [.store, .tariff] u v → WorkFrame u v := fun h =>
    h.workFrame (by decide) (by decide)
  have activated : ∀ r x u, WorkFrame u (activateTariff r x u) := fun r x u =>
    (own (by simp)).trans (workFrame_holds.notice _ _ _ _)
  have moved : ∀ (u : State) f, WorkFrame u (pageTariff (u.withTariff f)) := fun u f => own (by simp)
  have second : ∀ u, WorkFrame u (tariffSecond u) := by
    intro u
    unfold tariffSecond
    split
    · split
      · exact activated _ _ u
      · exact workFrame_holds.refl u
    · exact workFrame_holds.refl u
  have charged : ∀ r u, WorkFrame u (chargeDays r u) := by
    intro r u
    unfold chargeDays
    dsimp only
    split
    · exact moved u _
    · split
      · refine WorkFrame.trans ?_ (moved _ _)
        split
        · exact workFrame_holds.dailyDebit _ u
        · exact workFrame_holds.refl u
      · exact workFrame_holds.refl u
  have minutes : ∀ u, WorkFrame u (tariffMinute u) := by
    intro u
    unfold tariffMinute
    split
    · split
      · exact (own ((rollover_touches u _).mono (by decide))).trans (charged _ _)
      · exact workFrame_holds.refl u
    · exact workFrame_holds.refl u
  unfold tariffTick
  split
  · exact ((second s).trans (minutes _)).trans (own ((pageBlockBand_touches _).mono (by decide)))
  · exact second s

/-- What the works of a tick beside the profile channel's leave of it. -/
structure BesideProfile (s t : State) : Prop where
  frame : WorkFrame s t
  clock : t.clock = s.clock
  power : t.power = s.power
  keeps : Keeps [.page, .strip] s t

theorem BesideProfile.refl (s : State) : BesideProfile s s :=
  ⟨workFrame_holds.refl s, rfl, rfl, Keeps.refl _ s⟩

theorem BesideProfile.trans {s t u : State} (h : BesideProfile s t) (g : BesideProfile t u) : BesideProfile s u :=
  ⟨h.frame.trans g.frame, g.clock.trans h.clock, g.power.trans h.power, h.keeps.trans g.keeps⟩

theorem OnlyTouches.besideProfile {bs : List Block} {s t : State} (h : OnlyTouches bs s t) (frame : WorkFrame s t)
    (keeps : Keeps [.page, .strip] s t) (clock : Block.clock ∉ bs) (power : Block.power ∉ bs) : BesideProfile s t :=
  ⟨frame, h.clock_eq clock, h.power_eq power, keeps⟩

theorem supplyWorks_besideProfile {day reclose retry : Bool} {s : State} {w : State → State}
    (mem : w ∈ supplyWorks day reclose retry s) (u : State) : BesideProfile u (w u) := by
  rcases mem_supplyWorks mem with ⟨rfl, -⟩ | ⟨rfl, -⟩ | ⟨rfl, -⟩
  · exact (latchWork_touches u).besideProfile (workFrame_holds.latchWork u) (latchWork_keeps u) (by decide) (by decide)
  · exact (recloseWork_touches u).besideProfile (workFrame_holds.recloseWork u) (recloseWork_keeps u) (by decide)
      (by decide)
  · exact (retryWork_touches u).besideProfile (workFrame_holds.retryWork u) (retryWork_keeps u) (by decide) (by decide)

theorem tariffTick_besideProfile (minute : Bool) (u : State) : BesideProfile u (tariffTick minute u) :=
  (tariffTick_touches u minute).besideProfile (tariffTick_workFrame _ u) (tariffTick_keeps u _) (by decide) (by decide)

theorem evaluateCredit_besideProfile (x : CreditTrigger) (u : State) : BesideProfile u (evaluateCredit x u) :=
  (evaluateCredit_touches u x).besideProfile (workFrame_holds.evaluateCredit _ u) (evaluateCredit_keeps u _) (by decide)
    (by decide)

theorem withFreeCount_besideProfile (t : State) (n : Nat) : BesideProfile t (t.withFreeCount n) :=
  (withFreeCount_touches t n).besideProfile ((withFreeCount_touches t n).workFrame (by decide) (by decide))
    (keeps_withFreeCount t n (Keeps.refl _ t)) (by decide) (by decide)

/-- A minute tick's profile work stands among the others. -/
theorem minuteTick_profile {s : State} (minute : isMinute s.clock.tick = true) (r : State) :
    ∃ u, BesideProfile r u ∧ BesideProfile (profileMinute u) (inAnyOrder (worksOf s) r) := by
  have beside : ∀ v ∈ tariffTick true :: supplyWorks (dayChanges s.clock.tick) (recloseDue s) (retryDue s) s ++
      [evaluateCredit .minute], ∀ u, BesideProfile u (v u) := by
    intro v mem u
    rcases List.mem_append.mp mem with mem | mem
    · rcases List.mem_cons.mp mem with rfl | mem
      · exact tariffTick_besideProfile true u
      · exact supplyWorks_besideProfile mem u
    · obtain rfl := List.mem_singleton.mp mem
      exact evaluateCredit_besideProfile _ u
  exact inAnyOrder_once (P := BesideProfile r) (Q := fun t => ∃ u, BesideProfile r u ∧ BesideProfile (profileMinute u) t)
    (fun t n ⟨u, before, after⟩ => ⟨u, before, after.trans (withFreeCount_besideProfile t n)⟩) (worksOf_profile minute)
    (fun v mem u before => before.trans (beside v mem u)) (fun u before => ⟨u, before, BesideProfile.refl _⟩)
    (fun v mem t ⟨u, before, after⟩ => ⟨u, before, after.trans (beside v mem t)⟩) (BesideProfile.refl r)

/-- Outside a minute tick no work is the profile channel's. -/
theorem secondTick_profile {s : State} (minute : isMinute s.clock.tick = false) (r : State) :
    BesideProfile r (inAnyOrder (worksOf s) r) := by
  refine inAnyOrder_of (P := BesideProfile r) (fun t n h => h.trans (withFreeCount_besideProfile t n))
    (fun w mem u before => before.trans ?_) (BesideProfile.refl r)
  rcases mem_worksOf mem with rfl | mem | ⟨now, -⟩
  · exact tariffTick_besideProfile _ u
  · exact supplyWorks_besideProfile mem u
  · simp [minute] at now

/-- The period in progress over a minute tick: it goes on, with the minute counted, or it closes and a new one opens. -/
theorem minuteTick_period {s : State} (running : isRunning s = true) (layout : layoutWell s) {d : Descriptor} {p : Period}
    (minute : isMinute s.clock.tick = true) (desc : s.profile.desc = some d) (period : s.profile.period = some p) :
    let t := inAnyOrder (worksOf s) (tickReady s)
    (¬ p.due d s.clock.tick → t.profile.desc = some d ∧ t.profile.unrecorded = s.profile.unrecorded ∧
      ∃ b, t.profile.period = some ((p.minuted s.clock.tick).opened b)) ∧
    (p.due d s.clock.tick → ∃ u b, u.clock = s.clock.tick.announce ∧ u.profile.unrecorded = s.profile.unrecorded ∧
      Turned d ((p.minuted s.clock.tick).opened b) false u t) := by
  intro t
  obtain ⟨u, before, after⟩ := minuteTick_profile minute (tickReady s)
  have frame := (tickReady_workFrame s).trans before.frame
  have clock : u.clock = s.clock.tick.announce := before.clock.trans (tickReady_clock s)
  have power : u.power = s.power := before.power.trans ((tickReady_touches s).power_eq (by decide))
  have index : u.strip.writeIndex ≤ 31 := (((tickReady_keeps s).trans before.keeps).2 layout.1).1
  have udesc : u.profile.desc = some d := frame.desc.trans desc
  obtain ⟨b, opened⟩ := frame.period
  have uperiod : u.profile.period = some (p.opened b) := by rw [opened, period]; rfl
  have counted : (p.opened b).minuted u.clock = (p.minuted s.clock.tick).opened b := by
    simp [Period.minuted, Period.opened, clock]
  have same : (p.opened b).due d u.clock ↔ p.due d s.clock.tick := by
    simp [Period.due, Period.opened, clock]
  classical
  have work := profileMinute_eq udesc uperiod
  unfold minuteCounted at work
  rw [counted] at work
  constructor
  · intro early
    rw [if_neg fun due => early (same.mp due)] at work
    rw [work] at after
    obtain ⟨c, later⟩ := after.frame.period
    refine ⟨after.frame.desc.trans udesc, after.frame.unrecorded.trans frame.unrecorded, b || c, later.trans ?_⟩
    simp [Period.opened, Bool.or_assoc]
  · intro due
    rw [if_pos (same.mpr due)] at work
    rw [work] at after
    generalize began : u.withProfile { u.profile with period := some ((p.minuted s.clock.tick).opened b) } = v at after
    have same_clock : v.clock = u.clock := by rw [← began]; rfl
    have same_count : v.profile.unrecorded = s.profile.unrecorded := by rw [← began]; exact frame.unrecorded
    have vdesc : v.profile.desc = some d := by rw [← began]; exact udesc
    have vperiod : v.profile.period = some ((p.minuted s.clock.tick).opened b) := by rw [← began]; rfl
    have up : linkUp v = true := by
      have still : linkUp v = linkUp s := by rw [← began]; simp [linkUp, power]
      rw [still, linkUp_of_isRunning running]
    have vlayout : layoutWell v := layoutWell_of layout (by rw [← began]; exact index) (vdesc.trans desc.symm)
    have turned := turnPeriod_turned up vlayout vdesc vperiod false
    have area : 0x800 ≤ d.offset := (layout.2 d desc).1
    exact ⟨v, b, same_clock.trans clock, same_count,
      turned.later area (turnPeriod_layoutWell vlayout false).1 after.frame (after.keeps.mono (by decide))⟩

/-- Settles O17: the day by the clock's announcement, the overload by the one work that can end it, the trips by the
tick's counts, and the period by the one work that can close it. -/
theorem secondTickTurnsDayHistoryAndProfile : Obligations.SecondTickTurnsDayHistoryAndProfile := by
  unfold Obligations.SecondTickTurnsDayHistoryAndProfile
  intro s running clock below layout
  refine ⟨_, exec_secondTick running clock, ?_⟩
  have count : s.clock.tick.count = s.clock.count + 1 := nextCount_of_lt below
  have valid : s.clock.tick.valid = true ↔ s.clock.valid = true ∧ s.clock.count + 1 < 3155760000 := by
    rw [Clock.tick_valid_iff, nextCount_of_lt below]
    rfl
  have day : dayChanges s.clock.tick = true ↔ (s.clock.valid = true ∧ s.clock.count + 1 < 3155760000) ∧
      ∃ d, s.clock.announced = some d ∧ d < (s.clock.count + 1) / 86400 := by
    rw [dayChanges_iff, valid, count]
    rfl
  have isMinute_eq : isMinute s.clock.tick = decide ((s.clock.count + 1) % 60 = 0) := by rw [isMinute, count]
  have announced := congrArg Clock.announced (inAnyOrder_worksOf_clock s)
  obtain ⟨latchEnds, latchStays, waits, trips⟩ := secondTick_history s
  rw [count] at trips
  refine ⟨fun invalid => announced.trans ?_, fun now => announced.trans ?_,
    fun latched changes => latchEnds latched (day.mpr changes), fun latched same => latchStays latched (by simpa using mt day.mp same), waits, trips, fun minute => ?_,
    fun d p minute desc period => ?_⟩
  · rw [Clock.announce, if_neg (mt valid.mp invalid)]
    rfl
  · rw [Clock.announce, if_pos (valid.mpr now), Clock.tick_announced, count]
    rfl
  · have beside := secondTick_profile (s := s) (by simpa [isMinute_eq] using minute) (tickReady s)
    have frame := (tickReady_workFrame s).trans beside.frame
    exact ⟨frame.desc, frame.unrecorded⟩
  · obtain ⟨stays, turns⟩ := minuteTick_period running layout (by simpa [isMinute_eq] using minute) desc period
    have due : p.due d s.clock.tick ↔
        ((s.clock.valid = true ∧ s.clock.count + 1 < 3155760000) ∧
          ∃ k, p.slot = some k ∧ k < (s.clock.count + 1) / (60 * (d.d + 1))) ∨
        (¬ (s.clock.valid = true ∧ s.clock.count + 1 < 3155760000) ∧ d.d + 1 ≤ p.minutes + 1) := by
      rw [Period.due, ← Bool.not_eq_true, valid, count]
    refine ⟨fun early => ?_, fun now => ?_⟩
    · obtain ⟨same, kept, b, period⟩ := stays (mt due.mp early)
      exact ⟨same, kept, _, period, rfl, rfl, rfl⟩
    · obtain ⟨u, b, uclock, kept, turned⟩ := turns (due.mpr now)
      have ucount : u.clock.count = s.clock.count + 1 := by rw [uclock, Clock.announce_count, count]
      have uvalid : u.clock.valid = true ↔ s.clock.valid = true ∧ s.clock.count + 1 < 3155760000 := by
        rw [uclock, Clock.announce_valid, valid]
      obtain ⟨q, opened, fresh⟩ := turned.fresh
      refine ⟨⟨q, opened, fresh.minutes, fresh.wh, fresh.minV, fresh.maxV, fresh.step, fun v => ?_, fun v => ?_⟩,
        fun none_left => kept ▸ turned.unrecorded none_left, turned.full, fun left => ?_⟩
      · rw [fresh.slot, if_pos (uvalid.mpr v), ucount]
      · rw [fresh.slot, if_neg (mt uvalid.mp v)]
      · obtain ⟨advanced, same, bytes⟩ := turned.recorded left
        refine ⟨same.trans kept, advanced, ?_⟩
        rw [peekBytes_take _ _ 10 6, bytes, ucount]
        rfl

end Sys2Proof.Machine
end

section
/-! SUPPORT. The tariff unit's tick as a function of its record and the clock, and the account it debits (R54, R55, R60,
R61). -/

namespace Sys2Proof.Machine

/-- The tariff unit after an activation (R54, R55). -/
def TariffUnit.activated (u : TariffUnit) (t : Tariff) (c : Clock) : TariffUnit :=
  { u with active := some t, pending := none, periodIndex := movedIndex u.periodIndex t.startDay c }

/-- The tariff unit after a second tick (R54). -/
def TariffUnit.seconded (u : TariffUnit) (c : Clock) : TariffUnit :=
  match u.pending with
  | some t => if c.valid && decide (t.activation ≤ c.count) then u.activated t c else u
  | none => u

/-- The tariff unit after its period is judged under `t` (R60). -/
def TariffUnit.rolled (u : TariffUnit) (t : Tariff) (c : Clock) : TariffUnit :=
  let turned := { u with periodIndex := some (periodIndexOf t.startDay c.count), periodEnergy := 0 }
  match u.periodIndex with
  | none => turned
  | some j => if j < periodIndexOf t.startDay c.count then turned else u

/-- The tariff unit after its days are judged (R61). -/
def TariffUnit.charged (u : TariffUnit) (c : Clock) : TariffUnit :=
  { u with chargedDay := some (match u.chargedDay with
      | none => dayIndex c.count
      | some k => max k (dayIndex c.count)) }

/-- The tariff unit after the rest of a minute tick (R60, R61). -/
def TariffUnit.minuted (u : TariffUnit) (c : Clock) : TariffUnit :=
  match u.active with
  | some t => if c.valid then (u.rolled t c).charged c else u
  | none => u

/-- The units of the days owed under `t` (R61). -/
def TariffUnit.owed (u : TariffUnit) (t : Tariff) (c : Clock) : Nat :=
  match u.chargedDay with
  | none => 0
  | some k => daysOwed k (dayIndex c.count) * t.daily

/-- The units a minute tick debits (R61). -/
def TariffUnit.debit (u : TariffUnit) (c : Clock) : Nat :=
  match u.active with
  | some t => if c.valid then u.owed t c else 0
  | none => 0

/-- What is in the account, without what an evaluation finds (R63, R71). -/
structure Account where
  balance : Int
  debitRem : Nat
  writtenOff : Nat

def Credit.account (c : Credit) : Account := ⟨c.balance, c.debitRem, c.writtenOff⟩

/-- An account after a debit of `n` units, where there is one. -/
def Credit.debited (c : Credit) (n : Nat) : Credit := if 0 < n then c.lower n else c

theorem Credit.standing_of_account {c d : Credit} (h : c.account = d.account) : c.standing = d.standing := by
  have balance : c.balance = d.balance := congrArg Account.balance h
  have rem : c.debitRem = d.debitRem := congrArg Account.debitRem h
  have written : c.writtenOff = d.writtenOff := congrArg Account.writtenOff h
  simp only [Credit.standing, balance, rem, written]

theorem Credit.debited_account {c d : Credit} (h : c.account = d.account) (n : Nat) :
    (c.debited n).account = (d.debited n).account := by
  have balance : c.balance = d.balance := congrArg Account.balance h
  have rem : c.debitRem = d.debitRem := congrArg Account.debitRem h
  have written : c.writtenOff = d.writtenOff := congrArg Account.writtenOff h
  unfold Credit.debited
  split
  · simp only [Credit.account, Credit.lower, balance, rem, written]
  · exact h

/-- A debit takes its units from the account, written-off units counted, while these have room (R66, R68). -/
theorem Credit.debited_standing {c : Credit} {n : Nat} (floor : balanceFloor ≤ c.balance)
    (room : c.writtenOff + n ≤ countTop) : (c.debited n).standing = c.standing - 1000 * n := by
  simp only [balanceFloor, countTop] at floor room
  unfold Credit.debited
  split
  · simp only [Credit.standing, Credit.lower, balanceFloor, countTop]
    omega
  · have none_owed : n = 0 := by omega
    simp [none_owed]

theorem evaluateCredit_account (x : CreditTrigger) (s : State) :
    (evaluateCredit x s).credit.account = s.credit.account := by
  rw [evaluateCredit_credit]
  rfl

/-! ### The operations -/

theorem pageTariff_tariff (s : State) : (pageTariff s).tariff = s.tariff := (pageTariff_touches s).tariff_eq (by decide)

theorem pageBlockBand_tariff (s : State) : (pageBlockBand s).tariff = s.tariff :=
  (pageBlockBand_touches s).tariff_eq (by decide)

theorem activateTariff_tariff (t : Tariff) (x : TariffSource) (s : State) :
    (activateTariff t x s).tariff = s.tariff.activated t s.clock := by
  have noted : ∀ k h d u, (notice k h d u).tariff = u.tariff := fun k h d u =>
    (notice_touches u k h d).tariff_eq (by decide)
  unfold activateTariff
  dsimp only
  rw [noted, pageBlockBand_tariff, pageTariff_tariff]
  rfl

theorem tariffSecond_tariff (s : State) : (tariffSecond s).tariff = s.tariff.seconded s.clock := by
  unfold tariffSecond TariffUnit.seconded pendingDue
  cases pending : s.tariff.pending with
  | none => rfl
  | some t =>
    dsimp only
    split
    · exact activateTariff_tariff t _ s
    · rfl

theorem rollover_tariff (t : Tariff) (s : State) : (rollover t s).tariff = s.tariff.rolled t s.clock := by
  have turned : ∀ f, (pageBlockBand (pageTariff (s.withTariff f))).tariff = f := fun f => by
    rw [pageBlockBand_tariff, pageTariff_tariff]
    rfl
  unfold rollover TariffUnit.rolled
  dsimp only
  cases s.tariff.periodIndex with
  | none => exact turned _
  | some j =>
    simp only [decide_eq_true_eq]
    split
    · exact turned _
    · rfl

theorem dailyDebit_tariff (n : Nat) (s : State) : (dailyDebit n s).tariff = s.tariff :=
  (dailyDebit_touches s n).tariff_eq (by decide)

theorem chargeDays_tariff (t : Tariff) (s : State) : (chargeDays t s).tariff = s.tariff.charged s.clock := by
  have moved : ∀ (u : State) f, (pageTariff (u.withTariff f)).tariff = f := fun u f => by
    rw [pageTariff_tariff]
    rfl
  unfold chargeDays TariffUnit.charged
  dsimp only
  cases stored : s.tariff.chargedDay with
  | none => exact moved s _
  | some k =>
    dsimp only
    split
    · rename_i later
      rw [moved, max_eq_right (Nat.le_of_lt later)]
      split
      · rw [dailyDebit_tariff]
      · rfl
    · rename_i same
      rw [max_eq_left (Nat.not_lt.mp same), ← stored]

theorem chargeDays_account (t : Tariff) (s : State) :
    (chargeDays t s).credit.account = (s.credit.debited (s.tariff.owed t s.clock)).account := by
  have moved : ∀ (u : State) f, (pageTariff (u.withTariff f)).credit = u.credit := fun u f =>
    OnlyTouches.credit_eq (bs := [.store, .tariff]) (by simp) (by decide)
  have debit : ∀ n, (dailyDebit n s).credit.account = (s.credit.lower n).account := fun n => by
    rw [dailyDebit, evaluateCredit_account, (pageCredit_touches _).credit_eq (by decide)]
    rfl
  unfold chargeDays TariffUnit.owed
  dsimp only
  cases s.tariff.chargedDay with
  | none => exact congrArg Credit.account (moved s _)
  | some k =>
    dsimp only
    split
    · rw [moved, Credit.debited]
      split
      · exact debit _
      · rfl
    · rename_i same
      have none_owed : daysOwed k (dayIndex s.clock.count) = 0 := by
        simp [daysOwed, Nat.sub_eq_zero_of_le (Nat.not_lt.mp same)]
      simp [none_owed, Credit.debited]

theorem tariffMinute_tariff (s : State) : (tariffMinute s).tariff = s.tariff.minuted s.clock := by
  unfold tariffMinute TariffUnit.minuted
  cases s.tariff.active with
  | none => rfl
  | some t =>
    dsimp only
    split
    · have clock : (rollover t s).clock = s.clock := (rollover_touches s t).clock_eq (by decide)
      rw [chargeDays_tariff, rollover_tariff, clock]
    · rfl

/-- A turn of the period leaves the days as they are owed. -/
theorem TariffUnit.rolled_owed (u : TariffUnit) (t r : Tariff) (c : Clock) : (u.rolled t c).owed r c = u.owed r c := by
  have same : (u.rolled t c).chargedDay = u.chargedDay := by
    unfold TariffUnit.rolled
    dsimp only
    split
    · rfl
    · split <;> rfl
  rw [TariffUnit.owed, same]
  rfl

theorem tariffMinute_account (s : State) :
    (tariffMinute s).credit.account = (s.credit.debited (s.tariff.debit s.clock)).account := by
  unfold tariffMinute TariffUnit.debit
  cases s.tariff.active with
  | none => rfl
  | some t =>
    dsimp only
    split
    · have clock : (rollover t s).clock = s.clock := (rollover_touches s t).clock_eq (by decide)
      have credit : (rollover t s).credit = s.credit := (rollover_touches s t).credit_eq (by decide)
      rw [chargeDays_account, rollover_tariff, clock, credit, TariffUnit.rolled_owed]
    · rfl

/-- The tariff unit's work of a tick: its record (R54, R55, R60, R61). -/
theorem tariffTick_tariff (minute : Bool) (s : State) :
    (tariffTick minute s).tariff =
      if minute then (s.tariff.seconded s.clock).minuted s.clock else s.tariff.seconded s.clock := by
  have clock : (tariffSecond s).clock = s.clock := (tariffSecond_touches s).clock_eq (by decide)
  cases minute with
  | false => exact tariffSecond_tariff s
  | true =>
    simp only [tariffTick, if_true]
    rw [pageBlockBand_tariff, tariffMinute_tariff, tariffSecond_tariff, clock]

/-- The same: the account (R61). -/
theorem tariffTick_account (minute : Bool) (s : State) :
    (tariffTick minute s).credit.account =
      (s.credit.debited (if minute then (s.tariff.seconded s.clock).debit s.clock else 0)).account := by
  have clock : (tariffSecond s).clock = s.clock := (tariffSecond_touches s).clock_eq (by decide)
  have credit : (tariffSecond s).credit = s.credit := (tariffSecond_touches s).credit_eq (by decide)
  cases minute with
  | false => exact congrArg Credit.account credit
  | true =>
    simp only [tariffTick, if_true]
    rw [(pageBlockBand_touches _).credit_eq (by decide), tariffMinute_account, tariffSecond_tariff, clock, credit]

/-- A minute tick's block and band, last of the tariff unit's work (R62). -/
theorem tariffTick_shows {s : State} (up : linkUp s = true) :
    peek (tariffTick true s) 0x4A = blockBandByte (tariffTick true s).tariff s.clock := by
  let judged := tariffMinute (tariffSecond s)
  have same : OnlyTouches [.store, .conv, .tariff, .credit, .supply, .link, .strip, .profile] s judged := by
    simp [judged]
  have still : linkUp judged = true := by rw [same.linkUp_eq (by decide), up]
  have shown : tariffTick true s = pageBlockBand judged := by simp [tariffTick, judged]
  have byte := peekBytes_poke still 0x4A [blockBandByte judged.tariff judged.clock]
  rw [shown, pageBlockBand_tariff, ← same.clock_eq (by decide)]
  exact (List.cons.inj byte).1

end Sys2Proof.Machine
end

section
/-! SUPPORT. The tariff unit's work of a tick among the others. -/

namespace Sys2Proof.Machine

theorem profileMinute_stands {s : State} (layout : layoutWell s) :
    layoutWell (profileMinute s) ∧ StoreStands s (profileMinute s) := by
  cases desc : s.profile.desc with
  | none =>
    rw [profileMinute_none (.inl desc)]
    exact ⟨layout, storeStands_holds.refl s⟩
  | some d =>
    cases period : s.profile.period with
    | none =>
      rw [profileMinute_none (.inr period)]
      exact ⟨layout, storeStands_holds.refl s⟩
    | some p =>
      classical
      have counted : StoreStands s (minuteCounted p s) := (withProfile_touches s _).storeStands (by decide) (by decide)
      have clayout : layoutWell (minuteCounted p s) := layoutWell_of layout layout.1 rfl
      rw [profileMinute_eq desc period]
      split
      · exact ⟨turnPeriod_layoutWell clayout false, counted.trans (turnPeriod_storeStands clayout false)⟩
      · exact ⟨clayout, counted⟩

/-- What the works of a tick beside the tariff unit's leave of what it works on and shows. -/
structure BesideTariff (s t : State) : Prop where
  tariff : t.tariff = s.tariff
  clock : t.clock = s.clock
  account : t.credit.account = s.credit.account
  power : t.power = s.power
  shown : layoutWell s → layoutWell t ∧ peek t 0x4A = peek s 0x4A

theorem BesideTariff.refl (s : State) : BesideTariff s s := ⟨rfl, rfl, rfl, rfl, fun layout => ⟨layout, rfl⟩⟩

theorem BesideTariff.trans {s t u : State} (h : BesideTariff s t) (g : BesideTariff t u) : BesideTariff s u := by
  refine ⟨g.tariff.trans h.tariff, g.clock.trans h.clock, g.account.trans h.account, g.power.trans h.power,
    fun layout => ?_⟩
  obtain ⟨tlayout, first⟩ := h.shown layout
  obtain ⟨ulayout, second⟩ := g.shown tlayout
  exact ⟨ulayout, second.trans first⟩

theorem StoreStands.shown {s t : State} (h : StoreStands s t) (desc : t.profile.desc = s.profile.desc)
    (layout : layoutWell s) : layoutWell t ∧ peek t 0x4A = peek s 0x4A := by
  obtain ⟨index, -, -, bytes⟩ := h layout.1
  exact ⟨layoutWell_of layout index desc, bytes 0x4A (.inl ⟨by decide, by decide⟩)⟩

theorem supplyWorks_besideTariff {day reclose retry : Bool} {s : State} {w : State → State}
    (mem : w ∈ supplyWorks day reclose retry s) (u : State) : BesideTariff u (w u) := by
  have beside : OnlyTouches [.store, .conv, .supply, .link, .strip, .profile] u (w u) → StoreStands u (w u) →
      WorkFrame u (w u) → BesideTariff u (w u) := fun touches stands frame =>
    ⟨touches.tariff_eq (by decide), touches.clock_eq (by decide),
      congrArg Credit.account (touches.credit_eq (by decide)), touches.power_eq (by decide), stands.shown frame.desc⟩
  rcases mem_supplyWorks mem with ⟨rfl, -⟩ | ⟨rfl, -⟩ | ⟨rfl, -⟩
  · exact beside (latchWork_touches u) (storeStands_holds.latchWork u) (workFrame_holds.latchWork u)
  · exact beside (recloseWork_touches u) (storeStands_holds.recloseWork u) (workFrame_holds.recloseWork u)
  · exact beside (retryWork_touches u) (storeStands_holds.retryWork u) (workFrame_holds.retryWork u)

theorem evaluateCredit_besideTariff (x : CreditTrigger) (u : State) : BesideTariff u (evaluateCredit x u) :=
  ⟨(evaluateCredit_touches u x).tariff_eq (by decide), (evaluateCredit_touches u x).clock_eq (by decide),
    evaluateCredit_account x u, (evaluateCredit_touches u x).power_eq (by decide),
    (storeStands_holds.evaluateCredit x u).shown (workFrame_holds.evaluateCredit x u).desc⟩

theorem profileMinute_besideTariff (u : State) : BesideTariff u (profileMinute u) := by
  have touches := profileMinute_touches u
  refine ⟨touches.tariff_eq (by decide), touches.clock_eq (by decide),
    congrArg Credit.account (touches.credit_eq (by decide)), touches.power_eq (by decide), fun layout => ?_⟩
  obtain ⟨later, stands⟩ := profileMinute_stands layout
  obtain ⟨-, -, -, bytes⟩ := stands layout.1
  exact ⟨later, bytes 0x4A (.inl ⟨by decide, by decide⟩)⟩

theorem withFreeCount_besideTariff (t : State) (n : Nat) : BesideTariff t (t.withFreeCount n) :=
  ⟨rfl, rfl, rfl, rfl, fun layout => ⟨layout, rfl⟩⟩

/-- Every work of a tick beside the tariff unit's leaves what that works on. -/
theorem others_besideTariff {s : State} {v : State → State}
    (mem : v ∈ supplyWorks (dayChanges s.clock.tick) (recloseDue s) (retryDue s) s ++
      if isMinute s.clock.tick then [evaluateCredit .minute, profileMinute] else []) (u : State) :
    BesideTariff u (v u) := by
  rcases List.mem_append.mp mem with mem | mem
  · exact supplyWorks_besideTariff mem u
  · split at mem
    · rcases List.mem_pair.mp mem with rfl | rfl
      · exact evaluateCredit_besideTariff _ u
      · exact profileMinute_besideTariff u
    · cases mem

/-- Before a pending tariff's time, or with the clock INVALID, a second tick leaves the tariff unit. -/
theorem TariffUnit.seconded_early {u : TariffUnit} {c : Clock}
    (early : ∀ p, u.pending = some p → c.valid = true → c.count < p.activation) : u.seconded c = u := by
  unfold TariffUnit.seconded
  split
  · rename_i p pending
    refine if_neg fun due => ?_
    obtain ⟨valid, came⟩ : c.valid = true ∧ p.activation ≤ c.count := by simpa using due
    exact Nat.not_lt.mpr came (early p pending valid)
  · rfl

/-- The second tick's tariff unit, account, and shown block and band, whatever the order of its works (R54, R60 to R62). -/
theorem secondTick_tariff (s : State) (running : isRunning s = true) :
    let t := inAnyOrder (worksOf s) (tickReady s)
    let c := s.clock.tick.announce
    let minute := isMinute s.clock.tick
    t.tariff = (if minute then (s.tariff.seconded c).minuted c else s.tariff.seconded c) ∧
    t.credit.account = (s.credit.debited (if minute then (s.tariff.seconded c).debit c else 0)).account ∧
    (minute = true → layoutWell s → peek t 0x4A = blockBandByte t.tariff c) := by
  intro t c minute
  have clock : (tickReady s).clock = c := tickReady_clock s
  have tariff : (tickReady s).tariff = s.tariff := (tickReady_touches s).tariff_eq (by decide)
  have credit : (tickReady s).credit = s.credit := (tickReady_touches s).credit_eq (by decide)
  have up : linkUp (tickReady s) = true := by
    rw [(tickReady_touches s).linkUp_eq (by decide), linkUp_of_isRunning running]
  have rlayout : layoutWell s → layoutWell (tickReady s) := fun layout =>
    layoutWell_of layout ((tickReady_keeps s).2 layout.1).1 (tickReady_workFrame s).desc
  by_cases due : (minute || pendingDue (ticked s)) = true
  · obtain ⟨u, before, after⟩ : ∃ u, BesideTariff (tickReady s) u ∧ BesideTariff (tariffTick minute u) t :=
      inAnyOrder_once (P := BesideTariff (tickReady s))
        (Q := fun t => ∃ u, BesideTariff (tickReady s) u ∧ BesideTariff (tariffTick minute u) t)
        (fun t n ⟨u, before, after⟩ => ⟨u, before, after.trans (withFreeCount_besideTariff t n)⟩)
        (.of_eq (worksOf_tariff due))
        (fun v mem u before => before.trans (others_besideTariff mem u))
        (fun u before => ⟨u, before, BesideTariff.refl _⟩)
        (fun v mem t ⟨u, before, after⟩ => ⟨u, before, after.trans (others_besideTariff mem t)⟩) (BesideTariff.refl _)
    have uclock : u.clock = c := before.clock.trans clock
    have utariff : u.tariff = s.tariff := before.tariff.trans tariff
    have uaccount : u.credit.account = s.credit.account := before.account.trans (congrArg Credit.account credit)
    refine ⟨?_, ?_, fun now layout => ?_⟩
    · rw [after.tariff, tariffTick_tariff, uclock, utariff]
    · rw [after.account, tariffTick_account, uclock, utariff]
      exact Credit.debited_account uaccount _
    · have uup : linkUp u = true := by rw [linkUp, before.power]; exact up
      have work : layoutWell (tariffTick minute u) := by
        obtain ⟨ulayout, -⟩ := before.shown (rlayout layout)
        exact layoutWell_of ulayout ((tariffTick_keeps u minute).2 ulayout.1).1 (tariffTick_workFrame minute u).desc
      rw [(after.shown work).2, after.tariff, now, tariffTick_shows uup, uclock]
  · obtain ⟨seconds, early⟩ : minute = false ∧ pendingDue (ticked s) = false := by simpa using due
    have beside : BesideTariff (tickReady s) t := by
      refine inAnyOrder_of (P := BesideTariff (tickReady s)) (fun t n h => h.trans (withFreeCount_besideTariff t n))
        (fun w mem u before => before.trans ?_) (BesideTariff.refl _)
      refine others_besideTariff (s := s) ?_ u
      have clock : isMinute (ticked s).clock = minute := rfl
      rw [worksOf, tickWorks_eq, clock, seconds, early] at mem
      rw [show isMinute s.clock.tick = false from seconds]
      have supply : ∀ day reclose retry, supplyWorks day reclose retry (ticked s) = supplyWorks day reclose retry s :=
        fun _ _ _ => rfl
      simpa [supply] using mem
    have same : s.tariff.seconded c = s.tariff := TariffUnit.seconded_early fun p pending now => by
      have waits : (ticked s).tariff.pending = some p := pending
      have valid : (ticked s).clock.valid = true := (Clock.announce_valid _).symm.trans now
      simp only [pendingDue, waits, valid, Bool.true_and] at early
      exact (Clock.announce_count _).symm ▸ Nat.not_le.mp (of_decide_eq_false early)
    rw [seconds]
    exact ⟨by rw [beside.tariff, tariff, if_neg (by decide), same],
      by rw [beside.account, credit]; rfl, fun now => nomatch now⟩

/-- The account of an offered second tick, as far as its debit has room (R66, R68). -/
theorem secondTick_standing {s : State} {n : Nat} {t : State} (account : t.credit.account = (s.credit.debited n).account)
    (range : s.credit.inRange) (room : s.credit.writtenOff + n ≤ countTop) :
    t.credit.standing = s.credit.standing - 1000 * n :=
  (Credit.standing_of_account account).trans (Credit.debited_standing range.1 room)

end Sys2Proof.Machine
end

section
/-! PROOF. A pending tariff at a second tick (R54, R55). -/

namespace Sys2Proof.Machine

theorem TariffUnit.seconded_due {u : TariffUnit} {c : Clock} {p : Tariff} (pending : u.pending = some p)
    (valid : c.valid = true) (came : p.activation ≤ c.count) : u.seconded c = u.activated p c := by
  simp [TariffUnit.seconded, pending, valid, came]

theorem movedIndex_some {c : Clock} (valid : c.valid = true) (i : Int) (r : Nat) :
    movedIndex (some i) r c = some (max i (periodIndexOf r c.count)) := by
  simp [movedIndex, valid]

/-- A period whose index is not behind stands (R60). -/
theorem TariffUnit.minuted_current {u : TariffUnit} {c : Clock} {a : Tariff} {j : Int} (active : u.active = some a)
    (valid : c.valid = true) (index : u.periodIndex = some j) (current : periodIndexOf a.startDay c.count ≤ j) :
    u.minuted c = u.charged c := by
  simp [TariffUnit.minuted, active, valid, TariffUnit.rolled, index, Int.not_lt.mpr current]

/-- A minute tick moves neither the active nor the pending tariff on from what the second tick makes them. -/
theorem TariffUnit.minuted_tariffs (u : TariffUnit) (c : Clock) :
    (u.minuted c).active = u.active ∧ (u.minuted c).pending = u.pending := by
  have rolled : ∀ t, (u.rolled t c).active = u.active ∧ (u.rolled t c).pending = u.pending := by
    intro t
    unfold TariffUnit.rolled
    dsimp only
    split
    · exact ⟨rfl, rfl⟩
    · split <;> exact ⟨rfl, rfl⟩
  unfold TariffUnit.minuted
  split
  · split
    · exact rolled _
    · exact ⟨rfl, rfl⟩
  · exact ⟨rfl, rfl⟩

/-- Settles O22: the tariff unit's record after the tick, by whether the pending tariff's time has come. -/
theorem secondTickActivatesAPendingTariff : Obligations.SecondTickActivatesAPendingTariff := by
  unfold Obligations.SecondTickActivatesAPendingTariff
  intro s p running clock valid early pending
  refine ⟨_, exec_secondTick running clock, ?_⟩
  obtain ⟨tariff, -, -⟩ := secondTick_tariff s running
  generalize inAnyOrder (worksOf s) (tickReady s) = t at tariff
  have next : nextCount s.clock.count = s.clock.count + 1 := nextCount_of_lt (by unfold calendarEnd at early; omega)
  have count : s.clock.tick.announce.count = s.clock.count + 1 := (Clock.announce_count _).trans next
  have cvalid : s.clock.tick.announce.valid = true := by
    rw [Clock.announce_valid, Clock.tick_valid_iff, next]
    exact ⟨valid, early⟩
  have minute : isMinute s.clock.tick = decide ((s.clock.count + 1) % 60 = 0) := by
    rw [isMinute, show s.clock.tick.count = _ from next]
  generalize s.clock.tick.announce = c at *
  have tariffs : t.tariff.active = (s.tariff.seconded c).active ∧ t.tariff.pending = (s.tariff.seconded c).pending := by
    rw [tariff]
    split
    · exact TariffUnit.minuted_tariffs _ _
    · exact ⟨rfl, rfl⟩
  have seconds : (s.clock.count + 1) % 60 ≠ 0 → t.tariff = s.tariff.seconded c := fun second => by
    rw [tariff, minute, if_neg (by simpa using second)]
  refine ⟨fun came => ?_, fun waits => ?_⟩
  · have due : s.tariff.seconded c = s.tariff.activated p c := TariffUnit.seconded_due pending cvalid (by omega)
    rw [due] at tariff tariffs seconds
    refine ⟨tariffs.1, tariffs.2, fun i index => ?_, fun index second => ?_, fun second => ?_⟩
    · have moved : (s.tariff.activated p c).periodIndex = some (max i (periodIndexOf p.startDay c.count)) := by
        rw [← movedIndex_some cvalid, ← index]
        rfl
      rw [tariff, TariffUnit.minuted_current rfl cvalid moved (le_max_right _ _), ← count]
      split <;> exact ⟨moved, rfl⟩
    · rw [seconds second]
      exact ⟨by simp [TariffUnit.activated, movedIndex, index], rfl⟩
    · rw [seconds second]
      rfl
  · have same : s.tariff.seconded c = s.tariff := TariffUnit.seconded_early fun q isPending _ => by
      obtain rfl : p = q := Option.some.inj (pending.symm.trans isPending)
      omega
    rw [same] at tariffs seconds
    exact ⟨tariffs.1, tariffs.2.trans pending, seconds⟩

end Sys2Proof.Machine
end

section
/-! PROOF. The period and the daily charge at a minute tick (R60 to R62). -/

namespace Sys2Proof.Machine

theorem TariffUnit.minuted_some {u : TariffUnit} {c : Clock} {a : Tariff} (active : u.active = some a)
    (valid : c.valid = true) : u.minuted c = (u.rolled a c).charged c ∧ u.debit c = u.owed a c := by
  simp [TariffUnit.minuted, TariffUnit.debit, active, valid]

theorem TariffUnit.minuted_none {u : TariffUnit} {c : Clock} (h : c.valid = false ∨ u.active = none) :
    u.minuted c = u ∧ u.debit c = 0 := by
  unfold TariffUnit.minuted TariffUnit.debit
  rcases h with invalid | inactive
  · simp only [invalid, Bool.false_eq_true, if_false]
    split <;> exact ⟨rfl, rfl⟩
  · simp [inactive]

/-- An unset period index is set, and the period begins (R60). -/
theorem TariffUnit.rolled_unset {u : TariffUnit} {a : Tariff} {c : Clock} (index : u.periodIndex = none) :
    u.rolled a c = { u with periodIndex := some (periodIndexOf a.startDay c.count), periodEnergy := 0 } := by
  simp [TariffUnit.rolled, index]

/-- A stored period index turns the period over where it is behind (R60). -/
theorem TariffUnit.rolled_set {u : TariffUnit} {a : Tariff} {c : Clock} {j : Int} (index : u.periodIndex = some j) :
    u.rolled a c = if j < periodIndexOf a.startDay c.count
      then { u with periodIndex := some (periodIndexOf a.startDay c.count), periodEnergy := 0 } else u := by
  simp [TariffUnit.rolled, index]

/-- The period after a minute tick under a tariff that is active before it (R60). -/
theorem TariffUnit.minuted_period {u : TariffUnit} {a : Tariff} {c : Clock} (active : u.active = some a)
    (valid : c.valid = true) :
    let i := periodIndexOf a.startDay c.count
    (∀ j, u.periodIndex = some j → j < i → (u.minuted c).periodIndex = some i ∧ (u.minuted c).periodEnergy = 0) ∧
    (∀ j, u.periodIndex = some j → ¬ j < i →
      (u.minuted c).periodIndex = some j ∧ (u.minuted c).periodEnergy = u.periodEnergy) ∧
    (u.periodIndex = none → (u.minuted c).periodIndex = some i ∧ (u.minuted c).periodEnergy = 0) := by
  rw [(minuted_some active valid).1]
  refine ⟨fun j index behind => ?_, fun j index current => ?_, fun index => ?_⟩
  · rw [rolled_set index, if_pos behind]
    exact ⟨rfl, rfl⟩
  · rw [rolled_set index, if_neg current]
    exact ⟨index, rfl⟩
  · rw [rolled_unset index]
    exact ⟨rfl, rfl⟩

/-- The days after a minute tick, and what it debits (R61). -/
theorem TariffUnit.minuted_days {u : TariffUnit} {a : Tariff} {c : Clock} (active : u.active = some a)
    (valid : c.valid = true) :
    (u.minuted c).chargedDay = some (match u.chargedDay with
      | none => dayIndex c.count
      | some k => max k (dayIndex c.count)) ∧ u.debit c = u.owed a c := by
  obtain ⟨record, debit⟩ := minuted_some active valid
  have same : (u.rolled a c).chargedDay = u.chargedDay := by
    unfold TariffUnit.rolled
    dsimp only
    split
    · rfl
    · split <;> rfl
  rw [record, debit, TariffUnit.charged, same]
  exact ⟨rfl, rfl⟩

/-- At most 31 days of at most 100,000 units are owed (R49, R61). -/
theorem TariffUnit.owed_le (u : TariffUnit) {a : Tariff} (daily : a.daily ≤ 100000) (c : Clock) :
    u.owed a c ≤ 3100000 := by
  unfold TariffUnit.owed
  split
  · omega
  · exact Nat.mul_le_mul (Nat.min_le_right _ 31) daily

/-- Settles O21: the tariff unit's record after the tick and its debit, by the tariff that the second tick leaves active,
and the block and band written last. -/
theorem minuteTickTurnsPeriodAndChargesDays : Obligations.MinuteTickTurnsPeriodAndChargesDays := by
  unfold Obligations.MinuteTickTurnsPeriodAndChargesDays
  constructor
  · intro s a due running clock valid early minute held daily range writtenOff
    refine ⟨_, exec_secondTick running clock, ?_⟩
    obtain ⟨tariff, account, shown⟩ := secondTick_tariff s running
    have tclock := inAnyOrder_worksOf_clock s
    generalize inAnyOrder (worksOf s) (tickReady s) = t at tariff account shown tclock
    have next : nextCount s.clock.count = s.clock.count + 1 := nextCount_of_lt (by unfold calendarEnd at early; omega)
    have count : s.clock.tick.announce.count = s.clock.count + 1 := (Clock.announce_count _).trans next
    have cvalid : s.clock.tick.announce.valid = true := by
      rw [Clock.announce_valid, Clock.tick_valid_iff, next]
      exact ⟨valid, early⟩
    have isMinute_eq : isMinute s.clock.tick = true := by
      simp [isMinute, show s.clock.tick.count = _ from next, minute]
    rw [if_pos isMinute_eq] at tariff account
    replace shown := shown isMinute_eq
    generalize s.clock.tick.announce = c at *
    generalize seconded : s.tariff.seconded c = u at tariff account
    have tariffs : u.active = some a ∧ u.pending = (if due = true then none else s.tariff.pending) ∧
        u.chargedDay = s.tariff.chargedDay ∧ u.periodEnergy = s.tariff.periodEnergy ∧
        u.periodIndex = if due = true then movedIndex s.tariff.periodIndex a.startDay c else s.tariff.periodIndex := by
      rw [← seconded]
      cases due with
      | true =>
        obtain ⟨pending, came⟩ := held
        rw [TariffUnit.seconded_due pending cvalid (by omega)]
        exact ⟨rfl, rfl, rfl, rfl, rfl⟩
      | false =>
        obtain ⟨active, waits⟩ := held
        rw [TariffUnit.seconded_early fun p pending _ => by have := waits p pending; omega]
        exact ⟨active, rfl, rfl, rfl, rfl⟩
    obtain ⟨active, pending, charged, energy, index⟩ := tariffs
    obtain ⟨sameActive, samePending⟩ := u.minuted_tariffs c
    obtain ⟨behind, current, unset⟩ := TariffUnit.minuted_period active cvalid
    obtain ⟨days, debit⟩ := TariffUnit.minuted_days active cvalid
    have standing : t.credit.standing = s.credit.standing - 1000 * (u.owed a c : Nat) := by
      rw [debit] at account
      refine secondTick_standing account range ?_
      have owed := u.owed_le daily c
      unfold countTop
      omega
    rw [count] at behind current unset days
    dsimp only
    rw [tariff, sameActive, samePending, days, standing, charged]
    refine ⟨active, pending, ?_, ?_, fun layout => ?_⟩
    · cases stored : s.tariff.periodIndex with
      | none =>
        refine unset (index.trans ?_)
        rw [stored]
        split <;> rfl
      | some j =>
        dsimp only
        rw [stored] at index
        cases due with
        | false =>
          split
          · exact behind j index ‹_›
          · rw [← energy]
            exact current j index ‹_›
        | true =>
          rw [if_pos rfl, movedIndex_some cvalid, count] at index
          obtain ⟨moved, kept⟩ := current _ index (by omega)
          rw [moved, kept, energy]
          split
          · rename_i later
            rw [max_eq_right (Int.le_of_lt later)]
            exact ⟨rfl, rfl⟩
          · rename_i same
            rw [max_eq_left (Int.not_lt.mp same)]
            exact ⟨rfl, rfl⟩
    · rw [TariffUnit.owed, charged, count]
      cases s.tariff.chargedDay with
      | none => exact ⟨rfl, by simp⟩
      | some k => exact ⟨rfl, rfl⟩
    · rw [shown layout, blockBandByte, tariff, sameActive, active, tclock]
  · intro s running clock below minute still
    refine ⟨_, exec_secondTick running clock, ?_⟩
    obtain ⟨tariff, account, shown⟩ := secondTick_tariff s running
    generalize inAnyOrder (worksOf s) (tickReady s) = t at tariff account shown
    have next : nextCount s.clock.count = s.clock.count + 1 := nextCount_of_lt below
    have count : s.clock.tick.announce.count = s.clock.count + 1 := (Clock.announce_count _).trans next
    have cvalid : s.clock.tick.announce.valid = true ↔ s.clock.valid = true ∧ s.clock.count + 1 < 3155760000 := by
      rw [Clock.announce_valid, Clock.tick_valid_iff, next]
      rfl
    have isMinute_eq : isMinute s.clock.tick = true := by
      simp [isMinute, show s.clock.tick.count = _ from next, minute]
    rw [if_pos isMinute_eq] at tariff account
    replace shown := shown isMinute_eq
    generalize s.clock.tick.announce = c at *
    have idle : c.valid = false ∨ s.tariff.active = none := by
      rcases still with invalid | past | ⟨inactive, -⟩
      · exact .inl (by simp [← Bool.not_eq_true, cvalid, invalid])
      · exact .inl (by rw [← Bool.not_eq_true, cvalid]; omega)
      · exact .inr inactive
    have same : s.tariff.seconded c = s.tariff := TariffUnit.seconded_early fun p pending valid => by
      obtain ⟨was, inside⟩ := cvalid.mp valid
      rcases still with invalid | past | ⟨-, waits⟩
      · simp [was] at invalid
      · omega
      · have := waits p pending
        omega
    obtain ⟨record, debit⟩ := TariffUnit.minuted_none idle
    rw [same, record] at tariff
    rw [same, debit] at account
    refine ⟨tariff, Credit.standing_of_account account, fun layout => ?_⟩
    rw [shown layout, tariff, blockBandByte]
    cases active : s.tariff.active with
    | none => rfl
    | some a =>
      have invalid : c.valid = false := by simpa [active] using idle
      simp [bandOf, invalid]

end Sys2Proof.Machine
end

section
/-! SUPPORT. A slip filled and posted by the host, its taking and its completion (R176, R178 to R181). -/

namespace Sys2Proof.Machine

/-- A number written little-endian is read back as far as its bytes hold it. -/
theorem leNat_leBytes (n v : Nat) : leNat (leBytes n v) = v % 256 ^ n := by
  induction n generalizing v with
  | zero => simp [leBytes, leNat, Nat.mod_one]
  | succ n ih =>
    have step : leNat (leBytes (n + 1) v) = v % 2 ^ 8 + 256 * leNat (leBytes n (v / 256)) := rfl
    have power : 256 ^ (n + 1) = 256 * 256 ^ n := Nat.pow_succ'
    rw [step, ih, power, Nat.mod_mul]
    rfl

/-- Bytes one after another are one write. -/
theorem poke_cons {s : State} (up : linkUp s = true) (a : Nat) (b : Byte) (l : List Byte) :
    poke (a + 1) l (poke a [b] s) = poke a (b :: l) s := by
  have still : linkUp (poke a [b] s) = true := by rw [(poke_touches s a [b]).linkUp_eq (by decide), up]
  rw [poke, if_pos still, poke, if_pos up, poke, if_pos up]
  rfl

theorem poke_nil (a : Nat) (s : State) : poke a [] s = s := by
  unfold poke
  split <;> rfl

theorem slipState_eq {s t : State} (n : Fin 16) (h : peek t (slipBase n) = peek s (slipBase n)) :
    slipState t n = slipState s n := by
  rw [slipState, h]
  rfl

/-- A state byte reads back as the state it was written for. -/
theorem ofByte_code (x : SlipState) : SlipState.ofByte (byteOf x.code) = x := by
  cases x <;> rfl

/-- Outside slip `n`. -/
def OffSlip (n : Fin 16) (a : Nat) : Prop := ¬ slipPlace n a

/-- A write within slip `n` leaves every byte off it. -/
theorem poke_offSlip (n : Fin 16) {a : Nat} {l : List Byte} (s : State) (low : slipBase n ≤ a)
    (high : a + l.length ≤ slipBase n + 64) : SameBytes (OffSlip n) s (poke a l s) :=
  poke_sameBytes s fun b off => by
    unfold OffSlip slipPlace at off
    omega

/-- While slip `n` is FREE, the host's bytes in its body are stored as they come (R176, R177). -/
theorem hostBytes_body {n : Fin 16} {l : List Byte} {a : Nat} {s : State} (running : isRunning s = true)
    (free : slipState s n = .free) (low : slipBase n < a) (high : a + l.length ≤ slipBase n + 64) :
    hostBytes a l s = poke a l s := by
  induction l generalizing a s with
  | nil => rw [poke_nil]; rfl
  | cons b l ih =>
    have slips := n.isLt
    simp only [slipBase, List.length_cons] at low high
    have place : slipOf a = n := by
      unfold slipOf
      apply Fin.ext
      simp only [Fin.ofNat_eq_cast, Fin.val_natCast]
      omega
    have body : hostBody s n = true := by simp [hostBody, free]
    have byte : hostByte a b s = poke a [b] s := by
      unfold hostByte
      rw [if_neg (by simp [running]), if_neg (by omega), if_neg (by omega), if_neg (by omega), if_pos (by omega),
        if_neg (by omega), place, if_pos body]
      rfl
    have outside : peek (poke a [b] s) (slipBase n) = peek s (slipBase n) :=
      peek_poke_outside s (.inl (by simp only [slipBase]; omega))
    rw [hostBytes, Nat.mod_eq_of_lt (show a < 4096 by omega), byte]
    cases l with
    | nil => rfl
    | cons c l =>
      rw [List.length_cons] at high
      rw [Nat.mod_eq_of_lt (by omega), ih ((poke_touches s a [b]).isRunning_eq (by decide) ▸ running)
        ((slipState_eq n outside).trans free) (by simp only [slipBase]; omega)
        (by simp only [slipBase, List.length_cons]; omega), poke_cons (linkUp_of_isRunning running)]

/-- Slip `n` with its kind and arguments filled in (spec/09 section 9.3). -/
def slipFilled (n : Fin 16) (kind : Byte) (args : List Byte) (s : State) : State :=
  poke (slipBase n + 4) args (poke (slipBase n + 1) [kind] (withDataOut [] s))

/-- Slip `n` filled in, POSTED and at the tail of the waiting list (R180). -/
def slipPosted (n : Fin 16) (kind : Byte) (args : List Byte) (s : State) : State :=
  let filled := slipFilled n kind args s
  putSlipState n .posted (filled.withLink { filled.link with waiting := filled.link.waiting ++ [n] })

theorem hostByte_posts {n : Fin 16} {s : State} (running : isRunning s = true) (free : slipState s n = .free) :
    hostBytes (slipBase n) [byteOf SlipState.posted.code] s = postSlip n s := by
  have slips := n.isLt
  have place : slipOf (slipBase n) = n := by
    unfold slipOf slipBase
    apply Fin.ext
    simp only [Fin.ofNat_eq_cast, Fin.val_natCast]
    omega
  have state : hostState n (byteOf SlipState.posted.code) s = postSlip n s := by
    unfold hostState
    rw [free]
    rfl
  rw [hostBytes, hostBytes, Nat.mod_eq_of_lt (by unfold slipBase; omega), hostByte, if_neg (by simp [running]),
    if_neg (by unfold slipBase; omega), if_neg (by unfold slipBase; omega), if_neg (by unfold slipBase; omega),
    if_pos (by unfold slipBase; omega), if_pos (by unfold slipBase; omega), place, state]

theorem withDataOut_offSlip (n : Fin 16) (bytes : List Byte) (s : State) :
    SameBytes (OffSlip n) s (withDataOut bytes s) := fun _ _ => rfl

section
variable (n : Fin 16) (kind : Byte) {args : List Byte} {s : State}

/-- A slip the host may post is filled and posted (R178). -/
theorem postFilled_eq (free : Postable s n) (short : args.length ≤ 60) :
    postFilled n kind args s =
      if accepts (slipPosted n kind args s) n then takeSlip n (slipPosted n kind args s)
      else slipPosted n kind args s := by
  obtain ⟨running, isFree, -⟩ := free
  have first : hostBytes (slipBase n + 1) [kind] (withDataOut [] s) = poke (slipBase n + 1) [kind] (withDataOut [] s) :=
    hostBytes_body (n := n) running isFree (by omega) (by simp)
  have firstTouches : OnlyTouches [.store, .link] s (poke (slipBase n + 1) [kind] (withDataOut [] s)) := by simp
  have runs := firstTouches.isRunning_eq (by decide) ▸ running
  have stays : slipState (poke (slipBase n + 1) [kind] (withDataOut [] s)) n = .free :=
    (slipState_eq n (peek_poke_outside _ (.inl (by omega)))).trans isFree
  have second : hostBytes (slipBase n + 4) args (poke (slipBase n + 1) [kind] (withDataOut [] s)) =
      slipFilled n kind args s := hostBytes_body runs stays (by omega) (by omega)
  have filledTouches : OnlyTouches [.store, .link] s (slipFilled n kind args s) := by simp [slipFilled]
  have filledFree : slipState (slipFilled n kind args s) n = .free :=
    (slipState_eq n (peek_poke_outside _ (.inl (by omega)))).trans stays
  unfold postFilled
  dsimp only
  rw [if_pos (linkUp_of_isRunning running), first, second,
    hostByte_posts (filledTouches.isRunning_eq (by decide) ▸ running) filledFree]
  rfl

theorem slipPosted_touches : OnlyTouches [.store, .link] s (slipPosted n kind args s) := by
  simp [slipPosted, slipFilled]

theorem slipPosted_offSlip (short : args.length ≤ 60) : SameBytes (OffSlip n) s (slipPosted n kind args s) := by
  have filled : SameBytes (OffSlip n) s (slipFilled n kind args s) :=
    ((withDataOut_offSlip n [] s).trans (poke_offSlip n _ (by omega) (by simp))).trans
      (poke_offSlip n _ (by omega) (by omega))
  have listed : SameBytes (OffSlip n) (slipFilled n kind args s)
      ((slipFilled n kind args s).withLink { (slipFilled n kind args s).link with
        waiting := (slipFilled n kind args s).link.waiting ++ [n] }) := fun _ _ => rfl
  exact (filled.trans listed).trans (poke_offSlip n _ (by omega) (by simp))

theorem slipPosted_link :
    (slipPosted n kind args s).link.waiting = s.link.waiting ++ [n] ∧
      (slipPosted n kind args s).link.latched = s.link.latched := by
  have poked : ∀ a l u, (poke a l u).link = u.link := fun a l u => poke_touches u a l .link (by decide)
  have filled : (slipFilled n kind args s).link = (withDataOut [] s).link := by
    rw [slipFilled, poked, poked]
  have waiting : (slipFilled n kind args s).link.waiting = s.link.waiting := by rw [filled]; rfl
  have latched : (slipFilled n kind args s).link.latched = s.link.latched := by rw [filled]; rfl
  rw [slipPosted, putSlipState, poked]
  exact ⟨congrArg (· ++ [n]) waiting, latched⟩

theorem slipPosted_up (running : isRunning s = true) : linkUp (slipPosted n kind args s) = true := by
  rw [(slipPosted_touches n kind).linkUp_eq (by decide), linkUp_of_isRunning running]

theorem slipPosted_state (running : isRunning s = true) : slipState (slipPosted n kind args s) n = .posted := by
  have touches : OnlyTouches [.store, .link] s (slipFilled n kind args s) := by simp [slipFilled]
  have up : linkUp ((slipFilled n kind args s).withLink { (slipFilled n kind args s).link with
      waiting := (slipFilled n kind args s).link.waiting ++ [n] }) = true := by
    rw [((withLink_touches _ _).linkUp_eq (by decide)), touches.linkUp_eq (by decide), linkUp_of_isRunning running]
  have shown := peekBytes_poke up (slipBase n) [byteOf SlipState.posted.code]
  rw [slipState, slipPosted, putSlipState, peek, (List.cons.inj shown).1, ofByte_code]

/-- The posted slip's kind and arguments are read back. -/
theorem slipPosted_body (running : isRunning s = true) :
    slipKind (slipPosted n kind args s) n = kind.toNat ∧
      peekBytes (slipPosted n kind args s) (slipBase n + 4) args.length = args := by
  have up : linkUp (withDataOut [] s) = true := linkUp_of_isRunning running
  have stillUp : linkUp (poke (slipBase n + 1) [kind] (withDataOut [] s)) = true := by
    rw [(poke_touches _ _ _).linkUp_eq (by decide), up]
  have posted : SameBytes (fun a => slipBase n < a) (slipFilled n kind args s) (slipPosted n kind args s) :=
    poke_sameBytes _ fun b above => .inr above
  constructor
  · have shown := peekBytes_poke up (slipBase n + 1) [kind]
    rw [slipKind, posted _ (Nat.lt_succ_self _), slipFilled, peek_poke_outside _ (.inl (by omega)), peek,
      (List.cons.inj shown).1]
  · rw [posted.peekBytes_eq fun b low _ => by omega]
    exact peekBytes_poke stillUp _ _

end

/-! ### The taking and the completion (R179) -/

theorem markTaken_offSlip (n : Fin 16) (s : State) : SameBytes (OffSlip n) s (markTaken n s) :=
  SameBytes.trans (t := poke (slipBase n + 2) [byteOf Verdict.none.code]
      (s.withLink { s.link with waiting := s.link.waiting.erase n }))
    (poke_offSlip n _ (by omega) (by simp)) (poke_offSlip n _ (by omega) (by simp))

theorem markTaken_link (n : Fin 16) (s : State) :
    (markTaken n s).link.waiting = s.link.waiting.erase n ∧ (markTaken n s).link.latched = s.link.latched := by
  have poked : ∀ a l u, (poke a l u).link = u.link := fun a l u => poke_touches u a l .link (by decide)
  rw [markTaken, poked, poked]
  exact ⟨rfl, rfl⟩

theorem markTaken_taken (n : Fin 16) {s : State} (up : linkUp s = true) : SlipTaken (markTaken n s) n := by
  let outcome := poke (slipBase n + 2) [byteOf Verdict.none.code]
    (s.withLink { s.link with waiting := s.link.waiting.erase n })
  have listed : linkUp (s.withLink { s.link with waiting := s.link.waiting.erase n }) = true := up
  have still : linkUp outcome = true := by rw [(poke_touches _ _ _).linkUp_eq (by decide), listed]
  have state := peekBytes_poke still (slipBase n) [byteOf SlipState.taken.code]
  have verdict := peekBytes_poke listed (slipBase n + 2) [byteOf Verdict.none.code]
  have marked : markTaken n s = poke (slipBase n) [byteOf SlipState.taken.code] outcome := rfl
  constructor
  · rw [marked, slipState, peek, (List.cons.inj state).1, ofByte_code]
  · rw [marked, peek_poke_outside _ (.inr (by simp)), peek, (List.cons.inj verdict).1]

theorem attnUpdate_sameBytes (p : Nat → Prop) (s : State) : SameBytes p s (attnUpdate s) :=
  (attnUpdate_touches s).sameBytes (by decide) p

theorem completeSlip_offSlip (n : Fin 16) (v : Verdict) (r : List Byte) (s : State) :
    SameBytes (OffSlip n) s (completeSlip n v r s) := by
  have result := poke_offSlip n (a := slipBase n + 28) (l := padTo 36 r) s (by omega) (by simp)
  have outcome := result.trans (poke_offSlip n (a := slipBase n + 2) (l := [byteOf v.code]) _ (by omega) (by simp))
  exact (outcome.trans (poke_offSlip n (a := slipBase n) (l := [byteOf SlipState.done.code]) _ (by omega)
    (by simp))).trans (attnUpdate_sameBytes _ _)

theorem completeSlip_link (n : Fin 16) (v : Verdict) (r : List Byte) (s : State) :
    (completeSlip n v r s).link.waiting = s.link.waiting ∧ (completeSlip n v r s).link.latched = s.link.latched := by
  have poked : ∀ a l u, (poke a l u).link = u.link := fun a l u => poke_touches u a l .link (by decide)
  rw [completeSlip, attnUpdate_waiting, attnUpdate_latched, poked, poked, poked]
  exact ⟨rfl, rfl⟩

/-- A completed slip shows its outcome and its result (R179). -/
theorem completeSlip_shows (n : Fin 16) (v : Verdict) (r : List Byte) {s : State} (up : linkUp s = true) :
    SlipShows (completeSlip n v r s) n v r := by
  let filled := poke (slipBase n + 28) (padTo 36 r) s
  let judged := poke (slipBase n + 2) [byteOf v.code] filled
  let done := poke (slipBase n) [byteOf SlipState.done.code] judged
  have filledUp : linkUp filled = true := by rw [(poke_touches _ _ _).linkUp_eq (by decide), up]
  have judgedUp : linkUp judged = true := by rw [(poke_touches _ _ _).linkUp_eq (by decide), filledUp]
  have result := peekBytes_poke up (slipBase n + 28) (padTo 36 r)
  rw [length_padTo] at result
  have verdict := peekBytes_poke filledUp (slipBase n + 2) [byteOf v.code]
  have state := peekBytes_poke judgedUp (slipBase n) [byteOf SlipState.done.code]
  have later : SameBytes (fun a => slipBase n + 3 ≤ a) filled done :=
    SameBytes.trans (t := judged) (poke_sameBytes _ fun b above => .inr above)
      (poke_sameBytes _ fun b above => .inr (by simp only [List.length_singleton]; omega))
  have same : SameBytes (fun _ => True) done (completeSlip n v r s) := attnUpdate_sameBytes _ done
  have noted : ∀ a, peek (completeSlip n v r s) a = peek done a := fun a => same a trivial
  refine ⟨?_, ?_, ?_⟩
  · rw [slipState, noted, peek, (List.cons.inj state).1, ofByte_code]
  · rw [noted, peek_poke_outside _ (.inr (by simp)), peek, (List.cons.inj verdict).1]
  · rw [same.peekBytes_eq fun _ _ _ => trivial,
      later.peekBytes_eq fun b low _ => by omega, result]

/-- What leaves slip `n` leaves what it shows. -/
theorem SlipShows.later {s t : State} {n : Fin 16} {v : Verdict} {r : List Byte} (h : SlipShows s n v r)
    (same : SameBytes (slipPlace n) s t) : SlipShows t n v r := by
  obtain ⟨state, verdict, result⟩ := h
  refine ⟨(slipState_eq n (same _ ⟨le_rfl, by omega⟩)).trans state, (same _ ⟨by omega, by omega⟩).trans verdict, ?_⟩
  rw [same.peekBytes_eq fun b low high => ⟨by omega, by omega⟩, result]

/-- The slip's places lie apart. -/
theorem slipPlace_offSlip {n m : Fin 16} (apart : n ≠ m) {a : Nat} (h : slipPlace n a) : OffSlip m a := by
  intro g
  obtain ⟨nlow, nhigh⟩ := h
  obtain ⟨mlow, mhigh⟩ := g
  unfold slipBase at *
  exact apart (Fin.ext (by omega))

theorem erase_posted {n : Fin 16} {l : List (Fin 16)} (absent : n ∉ l) : (l ++ [n]).erase n = l := by
  rw [List.erase_append_right _ absent]
  simp

end Sys2Proof.Machine
end

section
/-! SUPPORT. A slip the host posts that its block accepts at once (R179, R180). -/

namespace Sys2Proof.Machine

/-- From `s` to `m` slip `n` has been filled, posted and taken, or posted alone; nothing else has moved. -/
structure SlipFrame (n : Fin 16) (s m : State) : Prop where
  touches : OnlyTouches [.store, .link] s m
  bytes : SameBytes (OffSlip n) s m
  latched : m.link.latched = s.link.latched
  up : linkUp m = true

theorem slipPosted_frame (n : Fin 16) (kind : Byte) {args : List Byte} {s : State} (running : isRunning s = true)
    (short : args.length ≤ 60) : SlipFrame n s (slipPosted n kind args s) :=
  ⟨slipPosted_touches n kind, slipPosted_offSlip n kind short, (slipPosted_link n kind).2,
    slipPosted_up n kind running⟩

theorem SlipFrame.marked {n : Fin 16} {s m : State} (h : SlipFrame n s m) : SlipFrame n s (markTaken n m) :=
  ⟨h.touches.trans (markTaken_touches m n), h.bytes.trans (markTaken_offSlip n m),
    (markTaken_link n m).2.trans h.latched, by rw [(markTaken_touches m n).linkUp_eq (by decide), h.up]⟩

theorem SlipFrame.completed {n : Fin 16} {s m : State} (h : SlipFrame n s m) (v : Verdict) (r : List Byte) :
    SlipFrame n s (completeSlip n v r m) :=
  ⟨h.touches.trans (completeSlip_touches m n v r), h.bytes.trans (completeSlip_offSlip n v r m),
    (completeSlip_link n v r m).2.trans h.latched, by
      rw [(completeSlip_touches m n v r).linkUp_eq (by decide), h.up]⟩

/-- A posted slip that is taken is off the waiting list again. -/
theorem markTaken_posted (n : Fin 16) (kind : Byte) {args : List Byte} {s : State} (free : Postable s n) :
    (markTaken n (slipPosted n kind args s)).link.waiting = s.link.waiting := by
  obtain ⟨-, -, absent⟩ := free
  rw [(markTaken_link n _).1, (slipPosted_link n kind).1, erase_posted absent]

/-- The posted slip's argument as a number. -/
theorem slipPosted_arg (n : Fin 16) (kind : Byte) {k v : Nat} {s : State} (running : isRunning s = true)
    (small : v < 256 ^ k) : slipArg (slipPosted n kind (leBytes k v) s) n 4 k = v := by
  have body := (slipPosted_body (args := leBytes k v) n kind running).2
  rw [length_leBytes] at body
  rw [slipArg, peekNat, body, leNat_leBytes, Nat.mod_eq_of_lt small]

theorem offSlip_above (n : Fin 16) {a : Nat} (h : 0x600 ≤ a) : OffSlip n a := by
  have slips := n.isLt
  unfold OffSlip slipPlace slipBase
  omega

theorem offSlip_below (n : Fin 16) {a : Nat} (h : a < 0x200) : OffSlip n a := by
  unfold OffSlip slipPlace slipBase
  omega

end Sys2Proof.Machine
end

section
/-! PROOF. TARIFF_LOAD at its posting (R50, R180). -/

namespace Sys2Proof.Machine

/-- The load's answer to a slip it takes (R50). -/
theorem takeTariffLoad_eq (n : Fin 16) (s : State) :
    takeTariffLoad n s =
      if loadRefused s (slipArg s n 4 2) then completeSlip n .badArgument [] (markTaken n s)
      else (markTaken n s).withTariff { (markTaken n s).tariff with
        load := some ⟨peekBytes s (slipArg s n 4 2) 96, some (slipArg s n 4 2), some n⟩ } := rfl

theorem loadRefused_iff (s : State) (off : Nat) :
    loadRefused s off = true ↔ inOpenArea off 96 = false ∨ meets off 96 (profileArea s) = true := by
  simp [loadRefused]

theorem exec_tariffLoad {n : Fin 16} {s : State} (off : BitVec 16) (free : Postable s n) :
    let p := slipPosted n 3 (leBytes 2 off.toNat) s
    exec (.tariffLoad n off) s = .next (if s.tariff.load.isNone then takeTariffLoad n p else p) := by
  intro p
  obtain ⟨running, -, -⟩ := id free
  obtain ⟨kind, -⟩ := slipPosted_body (args := leBytes 2 off.toNat) n 3 running
  have kind_eq : slipKind p n = 3 := kind
  have load : p.tariff = s.tariff := (slipPosted_touches n 3).tariff_eq (by decide)
  have accept : accepts p n = s.tariff.load.isNone := by
    simp [accepts, isCodeSlip, isLoadSlip, kind_eq, load]
  have take : takeSlip n p = takeTariffLoad n p := by
    unfold takeSlip
    rw [kind_eq]
    rfl
  have run : exec (.tariffLoad n off) s = .next (postFilled n 3 (leBytes 2 off.toNat) s) := rfl
  rw [run, postFilled_eq n 3 free (by simp), accept, take]

theorem tariffLoad_posted (n : Fin 16) (off : BitVec 16) (s : State) (free : Postable s n) :
    (s.tariff.load = none → inOpenArea off.toNat 96 = true → meets off.toNat 96 (profileArea s) = false →
      ∃ t, exec (.tariffLoad n off) s = .next t ∧ SlipTaken t n ∧ t.link.waiting = s.link.waiting ∧
        t.tariff = { s.tariff with load := some ⟨peekBytes s off.toNat 96, some off.toNat, some n⟩ }) ∧
    (s.tariff.load = none → (inOpenArea off.toNat 96 = false ∨ meets off.toNat 96 (profileArea s) = true) →
      ∃ t, exec (.tariffLoad n off) s = .next t ∧ SlipShows t n .badArgument [] ∧
        t.link.waiting = s.link.waiting ∧ t.tariff = s.tariff) ∧
    (s.tariff.load ≠ none →
      ∃ t, exec (.tariffLoad n off) s = .next t ∧ slipState t n = .posted ∧
        t.link.waiting = s.link.waiting ++ [n] ∧ t.tariff = s.tariff) := by
  obtain ⟨running, -, -⟩ := id free
  have run := exec_tariffLoad off free
  have posted := slipPosted_frame n 3 (args := leBytes 2 off.toNat) running (by simp)
  have arg := slipPosted_arg n 3 (k := 2) (v := off.toNat) running off.isLt
  have state := slipPosted_state n 3 (args := leBytes 2 off.toNat) running
  have waits := slipPosted_link n 3 (args := leBytes 2 off.toNat) (s := s)
  have erased := markTaken_posted n 3 (args := leBytes 2 off.toNat) free
  generalize slipPosted n 3 (leBytes 2 off.toNat) s = p at run posted arg state waits erased
  have same : loadRefused p off.toNat = loadRefused s off.toNat := by
    have profile : p.profile = s.profile := posted.touches .profile (by decide)
    simp [loadRefused, profileArea, profile]
  have marked := posted.marked
  have tariff : (markTaken n p).tariff = s.tariff := marked.touches.tariff_eq (by decide)
  refine ⟨fun idle inside clear => ?_, fun idle refused => ?_, fun busy => ?_⟩
  · have accepted : ¬ loadRefused s off.toNat = true := by simp [loadRefused_iff, inside, clear]
    have area : 0x800 ≤ off.toNat := by
      simp only [inOpenArea, decide_eq_true_eq] at inside
      exact inside.1
    have image : peekBytes p off.toNat 96 = peekBytes s off.toNat 96 :=
      posted.bytes.peekBytes_eq fun b low _ => offSlip_above n (by omega)
    refine ⟨_, run, ?_⟩
    rw [idle, Option.isNone_none, if_pos rfl, takeTariffLoad_eq, arg, same, if_neg accepted, image, tariff]
    exact ⟨markTaken_taken n posted.up, erased, rfl⟩
  · refine ⟨_, run, ?_⟩
    rw [idle, Option.isNone_none, if_pos rfl, takeTariffLoad_eq, arg, same, if_pos ((loadRefused_iff s _).mpr refused)]
    exact ⟨completeSlip_shows n _ _ marked.up, (completeSlip_link n _ _ _).1.trans erased,
      (marked.completed _ _).touches.tariff_eq (by decide)⟩
  · refine ⟨_, run, ?_⟩
    rw [if_neg (by simpa using busy)]
    exact ⟨state, waits.1, posted.touches.tariff_eq (by decide)⟩

end Sys2Proof.Machine
end

section
/-! PROOF. TARIFF_LOAD at its completion (R51 to R55), and the loads that wait behind it (R180; assumption log 30). -/

namespace Sys2Proof.Machine

/-! ### The loads behind it -/

/-- The waiting loads that a completion takes leave the tariffs, the strip, and every byte off the waiting slips. -/
structure Drained (s t : State) : Prop where
  tariff : t.tariff = { s.tariff with load := t.tariff.load }
  strip : t.strip = s.strip
  waiting : t.link.waiting ⊆ s.link.waiting
  bytes : SameBytes (fun a => ∀ n ∈ s.link.waiting, OffSlip n a) s t

theorem Drained.refl (s : State) : Drained s s := ⟨rfl, rfl, List.Subset.refl _, SameBytes.refl _ s⟩

theorem Drained.trans {s t u : State} (h : Drained s t) (g : Drained t u) : Drained s u := by
  refine ⟨?_, g.strip.trans h.strip, fun _ mem => h.waiting (g.waiting mem),
    h.bytes.trans (g.bytes.mono fun _ off n mem => off n (h.waiting mem))⟩
  rw [g.tariff, h.tariff]

theorem takeTariffLoad_drained {n : Fin 16} {s : State} (mem : n ∈ s.link.waiting) : Drained s (takeTariffLoad n s) := by
  have off : ∀ a, (∀ m ∈ s.link.waiting, OffSlip m a) → OffSlip n a := fun _ h => h n mem
  have touches := markTaken_touches s n
  have marked : Drained s (markTaken n s) := by
    refine ⟨by rw [touches.tariff_eq (by decide)], touches .strip (by decide), ?_, (markTaken_offSlip n s).mono off⟩
    rw [(markTaken_link n s).1]
    exact List.erase_subset
  rw [takeTariffLoad_eq]
  generalize markTaken n s = m at marked
  obtain ⟨tariff, strip, waiting, bytes⟩ := marked
  split
  · have completed := completeSlip_touches m n .badArgument []
    have still : (completeSlip n .badArgument [] m).strip = m.strip := completed .strip (by decide)
    refine ⟨?_, still.trans strip, ?_, bytes.trans ((completeSlip_offSlip n _ _ _).mono off)⟩
    · rw [completed.tariff_eq (by decide)]
      exact tariff
    · rw [(completeSlip_link n _ _ _).1]
      exact waiting
  · generalize (some (Load.mk _ _ _) : Option Load) = load
    have loaded := withTariff_touches m { m.tariff with load := load }
    exact ⟨by rw [State.withTariff_tariff, tariff], strip, waiting, bytes.trans (loaded.sameBytes (by decide) _)⟩

theorem drainLoads_drained (fuel : Nat) (s : State) : Drained s (drainLoads fuel s) := by
  induction fuel generalizing s with
  | zero => exact Drained.refl s
  | succ fuel ih =>
    unfold drainLoads
    split
    · exact Drained.refl s
    · split
      · rename_i n found
        exact (takeTariffLoad_drained (List.mem_of_find?_eq_some found)).trans (ih _)
      · exact Drained.refl s

theorem drainLoads_none (fuel : Nat) {s : State} (none_waits : s.link.waiting = []) : drainLoads fuel s = s := by
  cases fuel with
  | zero => rfl
  | succ fuel => simp [drainLoads, none_waits]

/-- A slip that is not waiting keeps what it shows. -/
theorem Drained.shows {s t : State} (h : Drained s t) {n : Fin 16} (absent : n ∉ s.link.waiting) {v : Verdict}
    {r : List Byte} (shown : SlipShows s n v r) : SlipShows t n v r :=
  shown.later (h.bytes.mono fun _ inside _ mem => slipPlace_offSlip (fun same => absent (by rwa [same])) inside)

/-! ### The completion -/

/-- The load's slip is completed, or it has been freed (R53, R189). -/
def answerLoad (l : Load) (v : Verdict) (result : List Byte) (s : State) : State :=
  match l.slip with
  | some n => completeSlip n v result s
  | none => s

/-- The image area is returned. -/
def loadFreed (s : State) : State := s.withTariff { s.tariff with load := none }

theorem finishLoad_good {l : Load} {r : Tariff} (good : judgeTariff l.image = .good r) (s : State) :
    finishLoad l s = answerLoad l .ok
      (loadResult 0 0 false r.id (!activeAtLoad r s.clock).toNat (s.tariff.active.map Tariff.id)
        (s.tariff.pending.map Tariff.id)) (loadFreed (installTariff r s)) := by
  unfold finishLoad
  rw [good]
  rfl

theorem finishLoad_bad {l : Load} {field index : Nat} {count : Bool} (bad : judgeTariff l.image = .bad field index count)
    (s : State) :
    finishLoad l s = answerLoad l .badTariff
      (loadResult field index count (imageNat l.image 0 2) 0 (s.tariff.active.map Tariff.id) none) (loadFreed s) := by
  unfold finishLoad
  rw [bad]
  rfl

theorem answerLoad_touches (l : Load) (v : Verdict) (r : List Byte) (s : State) :
    OnlyTouches [.store, .link] s (answerLoad l v r s) := by
  unfold answerLoad
  split <;> simp

theorem answerLoad_waiting (l : Load) (v : Verdict) (r : List Byte) (s : State) :
    (answerLoad l v r s).link.waiting = s.link.waiting := by
  unfold answerLoad
  split
  · exact (completeSlip_link _ _ _ _).1
  · rfl

theorem answerLoad_bytes (l : Load) (v : Verdict) (r : List Byte) (s : State) :
    SameBytes (fun a => 0x600 ≤ a) s (answerLoad l v r s) := by
  unfold answerLoad
  split
  · exact (completeSlip_offSlip _ _ _ _).mono fun _ above => offSlip_above _ above
  · exact SameBytes.refl _ _

theorem answerLoad_shows {l : Load} {n : Fin 16} (slip : l.slip = some n) (v : Verdict) (r : List Byte) {s : State}
    (up : linkUp s = true) : SlipShows (answerLoad l v r s) n v r := by
  have answer : answerLoad l v r s = completeSlip n v r s := by simp [answerLoad, slip]
  rw [answer]
  exact completeSlip_shows n v r up

theorem answerLoad_freed {l : Load} (slip : l.slip = none) (v : Verdict) (r : List Byte) (s : State) :
    answerLoad l v r s = s := by
  simp [answerLoad, slip]

/-- What the completion does after the judgement: the answer, and the loads that waited. -/
theorem answered_drained (l : Load) (v : Verdict) (r : List Byte) {g : State} (up : linkUp g = true) :
    let t := drainLoads 16 (answerLoad l v r g)
    t.tariff = { g.tariff with load := t.tariff.load } ∧ t.strip = g.strip ∧ SameBytes (fun a => 0x600 ≤ a) g t ∧
    (∀ n, l.slip = some n → n ∉ g.link.waiting → SlipShows t n v r) ∧
    (l.slip = none → g.link.waiting = [] → t = g) := by
  intro t
  have drained : Drained (answerLoad l v r g) t := drainLoads_drained 16 _
  have answer := answerLoad_touches l v r g
  refine ⟨?_, drained.strip.trans (answer .strip (by decide)), ?_, fun n slip absent => ?_, fun slip idle => ?_⟩
  · rw [drained.tariff, answer.tariff_eq (by decide)]
  · exact (answerLoad_bytes l v r g).trans (drained.bytes.mono fun _ above n _ => offSlip_above n above)
  · exact drained.shows (answerLoad_waiting l v r g ▸ absent) (answerLoad_shows slip v r up)
  · have whole : t = drainLoads 16 g := congrArg (drainLoads 16) (answerLoad_freed slip v r g)
    rw [whole, drainLoads_none 16 idle]

/-! ### The installation -/

theorem activeAtLoad_iff (r : Tariff) (c : Clock) :
    activeAtLoad r c = true ↔ r.activation = 0 ∨ (c.valid = true ∧ r.activation ≤ c.count) := by
  simp [activeAtLoad]

/-- A notice writes the strip and its items on the page, and so leaves the slips. -/
theorem writeNotice_slips (k : NoticeKind) (head : Nat) (x : Stamp) (d : List Byte) (s : State) :
    SameBytes (fun a => 0x100 ≤ a ∧ a < 0x600) s (writeNotice k head x d s) := by
  have strip : ∀ u, SameBytes (fun a => 0x100 ≤ a ∧ a < 0x600) u (pageStrip u) := fun u =>
    poke_sameBytes u fun b mem => by
      simp only [List.length_cons, length_leBytes]
      omega
  have entry : SameBytes (fun a => 0x100 ≤ a ∧ a < 0x600) s (noticeWritten k head x d s) :=
    poke_sameBytes s fun b mem => by omega
  unfold writeNotice
  split
  · split
    · refine SameBytes.trans ?_ (attnUpdate_sameBytes _ _)
      refine SameBytes.trans ?_ (strip _)
      exact entry.trans ((withStrip_touches _ _).sameBytes (by decide) _)
    · exact SameBytes.trans ((withStrip_touches _ _).sameBytes (by decide) _) (strip _)
  · exact SameBytes.refl _ s

theorem page_slips {a : Nat} {l : List Byte} (s : State) (h : a + l.length ≤ 0x100) :
    SameBytes (fun a => 0x100 ≤ a ∧ a < 0x600) s (poke a l s) :=
  poke_sameBytes s fun b mem => by omega

/-- The stored index after an activation, as a map (R55). -/
theorem movedIndex_eq (stored : Option Int) (r : Nat) (c : Clock) :
    movedIndex stored r c = stored.map fun i => if c.valid = true then max i (periodIndexOf r c.count) else i := by
  unfold movedIndex
  cases stored with
  | none => rfl
  | some i => exact (apply_ite some _ _ _).symm

/-- The state an activation announces: the tariff is active, and the page shows it. -/
def activationPaged (r : Tariff) (s : State) : State :=
  pageBlockBand (pageTariff (s.withTariff (s.tariff.activated r s.clock)))

theorem activateTariff_eq (r : Tariff) (x : TariffSource) (s : State) :
    activateTariff r x s = notice .tariffActive x.code
      (leBytes 2 r.id ++ [flagsByte [s.tariff.active.isSome]] ++ optBytes 2 (s.tariff.active.map Tariff.id) ++
        leBytes 4 r.activation) (activationPaged r s) := rfl

theorem activationPaged_touches (r : Tariff) (s : State) : OnlyTouches [.store, .tariff] s (activationPaged r s) := by
  simp [activationPaged]

theorem activationPaged_keeps (r : Tariff) (s : State) : Keeps [.page] s (activationPaged r s) := by
  have first : Keeps [.page] s (s.withTariff (s.tariff.activated r s.clock)) :=
    ((withTariff_touches s _).keeps (by decide) (by decide)).mono (by simp)
  simp [activationPaged, first]

theorem activateTariff_waiting (r : Tariff) (x : TariffSource) (s : State) :
    (activateTariff r x s).link.waiting = s.link.waiting := by
  have link : (activationPaged r s).link = s.link := activationPaged_touches r s .link (by decide)
  rw [activateTariff_eq, notice, writeNotice_waiting, link]

theorem pageTariff_slips (s : State) : SameBytes (fun a => 0x100 ≤ a ∧ a < 0x600) s (pageTariff s) :=
  (page_slips s (by simp)).trans (page_slips _ (by simp [tariffBytes, leInt]))

theorem activateTariff_slips (r : Tariff) (x : TariffSource) (s : State) :
    SameBytes (fun a => 0x100 ≤ a ∧ a < 0x600) s (activateTariff r x s) := by
  have set : SameBytes (fun a => 0x100 ≤ a ∧ a < 0x600) s (s.withTariff (s.tariff.activated r s.clock)) :=
    (withTariff_touches s _).sameBytes (by decide) _
  have paged : SameBytes (fun a => 0x100 ≤ a ∧ a < 0x600) s (activationPaged r s) :=
    (set.trans (pageTariff_slips _)).trans (page_slips _ (by simp))
  exact paged.trans (writeNotice_slips _ _ _ _ _)

/-- TARIFF_ACTIVE: its kind, its source with the clock's validity, its time and the id (R54; assumption log 16). -/
theorem activateTariff_shows (r : Tariff) (x : TariffSource) {s : State} (up : linkUp s = true)
    (index : s.strip.writeIndex ≤ 31) (room : unread s < 31) :
    peekBytes (activateTariff r x s) (0x600 + 16 * s.strip.writeIndex) 8 =
      [byteOf NoticeKind.tariffActive.code, byteOf (x.code + 128 * s.clock.valid.toNat)] ++
      leBytes 4 s.clock.count ++ leBytes 2 r.id := by
  have touches := activationPaged_touches r s
  have strip : (activationPaged r s).strip = s.strip := touches .strip (by decide)
  have read : readIndex (activationPaged r s) = readIndex s := by
    simp [readIndex, ((activationPaged_keeps r s).2 index).2 0x100 (by decide)]
  have pagedRoom : unread (activationPaged r s) < 31 := by rwa [unread, strip, read]
  have pagedUp : linkUp (activationPaged r s) = true := by rw [touches.linkUp_eq (by decide), up]
  have pagedIndex : (activationPaged r s).strip.writeIndex ≤ 31 := by rwa [strip]
  obtain ⟨shown, -⟩ := writeNotice_shows .tariffActive x.code (now (activationPaged r s))
    (leBytes 2 r.id ++ [flagsByte [s.tariff.active.isSome]] ++ optBytes 2 (s.tariff.active.map Tariff.id) ++
      leBytes 4 r.activation) pagedUp pagedIndex pagedRoom
  rw [strip] at shown
  rw [activateTariff_eq, peekBytes_take _ _ 8 8, notice, shown, now, touches.clock_eq (by decide)]
  rfl

theorem installTariff_active {r : Tariff} {s : State} (at_once : activeAtLoad r s.clock = true) :
    installTariff r s = activateTariff r .load s := if_pos at_once

theorem installTariff_pending {r : Tariff} {s : State} (later : activeAtLoad r s.clock = false) :
    installTariff r s = pageTariff (s.withTariff { s.tariff with pending := some r }) :=
  if_neg (by simp [later])

theorem installTariff_touches_only (r : Tariff) (s : State) :
    OnlyTouches [.store, .tariff, .link, .strip] s (loadFreed (installTariff r s)) := by
  simp [loadFreed]

/-- An installation leaves the waiting list and the slips. -/
theorem installTariff_slips (r : Tariff) (s : State) :
    (loadFreed (installTariff r s)).link.waiting = s.link.waiting ∧
      SameBytes (fun a => 0x100 ≤ a ∧ a < 0x600) s (loadFreed (installTariff r s)) := by
  have freed : ∀ u, (loadFreed u).link = u.link ∧ SameBytes (fun a => 0x100 ≤ a ∧ a < 0x600) u (loadFreed u) :=
    fun u => ⟨rfl, (withTariff_touches u _).sameBytes (by decide) _⟩
  obtain ⟨link, bytes⟩ := freed (installTariff r s)
  rw [link]
  cases installs : activeAtLoad r s.clock with
  | true =>
    rw [installTariff_active installs] at bytes ⊢
    exact ⟨activateTariff_waiting r _ s, (activateTariff_slips r _ s).trans bytes⟩
  | false =>
    rw [installTariff_pending installs] at bytes ⊢
    have set := withTariff_touches s { s.tariff with pending := some r }
    have paged : OnlyTouches [.store, .tariff] s (pageTariff (s.withTariff { s.tariff with pending := some r })) := by
      simp
    refine ⟨congrArg Link.waiting (paged .link (by decide)), ?_⟩
    exact ((set.sameBytes (by decide) _).trans (pageTariff_slips _)).trans bytes

theorem exec_tariffLoadCompletion {s : State} {l : Load} (running : isRunning s = true) (load : s.tariff.load = some l) :
    exec .tariffLoadCompletion s = .next (drainLoads 16 (finishLoad l s)) := by
  have run : exec .tariffLoadCompletion s = .next (match s.tariff.load with
    | some l => if isRunning s then drainLoads 16 (finishLoad l s) else s
    | none => s) := rfl
  rw [run, load]
  simp [running]

/-- A good image: installed at once or pending, its slip answered (R51 to R55). -/
theorem tariffLoad_installs {s : State} {l : Load} (running : isRunning s = true) (load : s.tariff.load = some l)
    (works : ∀ n, l.slip = some n → n ∉ s.link.waiting) {r : Tariff} (good : judgeTariff l.image = .good r) :
    ∃ t, exec .tariffLoadCompletion s = .next t ∧
      (if r.activation = 0 ∨ (s.clock.valid = true ∧ r.activation ≤ s.clock.count)
        then t.tariff = { s.tariff with
            active := some r, pending := none, load := t.tariff.load
            periodIndex := s.tariff.periodIndex.map fun i =>
              if s.clock.valid = true then max i (periodIndexOf r.startDay s.clock.count) else i } ∧
          (s.strip.writeIndex ≤ 31 → unread s < 31 →
            peekBytes t (0x600 + 16 * s.strip.writeIndex) 8 =
              [byteOf NoticeKind.tariffActive.code, byteOf (1 + 128 * s.clock.valid.toNat)] ++
              leBytes 4 s.clock.count ++ leBytes 2 r.id) ∧
          (∀ n, l.slip = some n →
            SlipShows t n .ok (loadResult 0 0 false r.id 0 (s.tariff.active.map Tariff.id)
              (s.tariff.pending.map Tariff.id)))
        else t.tariff = { s.tariff with pending := some r, load := t.tariff.load } ∧ t.strip = s.strip ∧
          (∀ n, l.slip = some n →
            SlipShows t n .ok (loadResult 0 0 false r.id 1 (s.tariff.active.map Tariff.id)
              (s.tariff.pending.map Tariff.id)))) ∧
      (l.slip = none → s.link.waiting = [] →
        t.tariff.load = none ∧ t.link.waiting = [] ∧ SameBytes (fun a => ∃ n, slipPlace n a) s t) := by
  have up := linkUp_of_isRunning running
  obtain ⟨waits, slips⟩ := installTariff_slips r s
  have installedUp : linkUp (loadFreed (installTariff r s)) = true := by
    rw [(installTariff_touches_only r s).linkUp_eq (by decide), up]
  obtain ⟨tariff, strip, bytes, shows, rests⟩ := answered_drained l .ok
    (loadResult 0 0 false r.id (!activeAtLoad r s.clock).toNat (s.tariff.active.map Tariff.id)
      (s.tariff.pending.map Tariff.id)) installedUp
  refine ⟨_, exec_tariffLoadCompletion running load, ?_⟩
  rw [finishLoad_good good]
  generalize drainLoads 16 _ = t at tariff strip bytes shows rests
  refine ⟨?_, fun freed idle => ?_⟩
  · cases installs : activeAtLoad r s.clock with
    | true =>
      rw [if_pos ((activeAtLoad_iff r _).mp installs)]
      rw [installs] at shows
      have record : (loadFreed (installTariff r s)).tariff = { s.tariff.activated r s.clock with load := none } := by
        rw [installTariff_active installs, loadFreed, State.withTariff_tariff, activateTariff_tariff]
      refine ⟨?_, fun index room => ?_, fun n slip => shows n slip (waits ▸ works n slip)⟩
      · rw [tariff, record, TariffUnit.activated, movedIndex_eq]
      · rw [bytes.peekBytes_eq fun b low _ => by omega]
        have shown := activateTariff_shows r .load up index room
        rw [← installTariff_active installs] at shown
        exact shown
    | false =>
      rw [if_neg fun now => by simp [(activeAtLoad_iff r _).mpr now] at installs]
      rw [installs] at shows
      have record : (loadFreed (installTariff r s)).tariff = { s.tariff with pending := some r, load := none } := by
        rw [installTariff_pending installs, loadFreed, State.withTariff_tariff, pageTariff_tariff]
        rfl
      have same : (loadFreed (installTariff r s)).strip = s.strip := by
        rw [installTariff_pending installs]
        have touches : OnlyTouches [.store, .tariff] s
            (loadFreed (pageTariff (s.withTariff { s.tariff with pending := some r }))) := by simp [loadFreed]
        exact touches .strip (by decide)
      refine ⟨?_, strip.trans same, fun n slip => shows n slip (waits ▸ works n slip)⟩
      rw [tariff, record]
  · have whole := rests freed (waits.trans idle)
    rw [whole]
    refine ⟨rfl, waits.trans idle, slips.mono fun a place => ?_⟩
    obtain ⟨n, low, high⟩ := place
    have slip := n.isLt
    unfold slipBase at low high
    omega

/-- The first two result bytes of an answered load: the field and the index. -/
theorem loadResult_fields {t : State} {n : Fin 16} {v : Verdict} {field index : Nat} {count : Bool} {id at_once : Nat}
    {before discarded : Option Nat}
    (shows : SlipShows t n v (loadResult field index count id at_once before discarded)) :
    peek t (slipBase n + 28) = byteOf field ∧ peek t (slipBase n + 29) = byteOf index := by
  obtain ⟨-, -, result⟩ := shows
  have first := (List.cons.inj result)
  exact ⟨first.1, (List.cons.inj first.2).1⟩

/-- Settles O23: the posting by the load in flight, the completion by the judgement of its image. -/
theorem tariffLoadsAreTakenAndComplete : Obligations.TariffLoadsAreTakenAndComplete := by
  unfold Obligations.TariffLoadsAreTakenAndComplete
  refine ⟨tariffLoad_posted, fun s l running load works => ⟨fun r good => tariffLoad_installs running load works good,
    fun field index count bad => ?_⟩⟩
  have up := linkUp_of_isRunning running
  have freedTouches : OnlyTouches [.tariff] s (loadFreed s) := withTariff_touches s _
  have freedUp : linkUp (loadFreed s) = true := by rw [freedTouches.linkUp_eq (by decide), up]
  obtain ⟨tariff, -, -, shows, rests⟩ := answered_drained l .badTariff
    (loadResult field index count (imageNat l.image 0 2) 0 (s.tariff.active.map Tariff.id) none) freedUp
  refine ⟨_, exec_tariffLoadCompletion running load, ?_⟩
  rw [finishLoad_bad bad]
  generalize drainLoads 16 _ = t at tariff shows rests
  refine ⟨tariff, fun n slip => ?_, fun freed idle => ?_⟩
  · have shown := shows n slip (works n slip)
    obtain ⟨state, verdict, -⟩ := id shown
    exact ⟨state, verdict, loadResult_fields shown⟩
  · rw [rests freed idle]
    exact ⟨rfl, freedTouches⟩

end Sys2Proof.Machine
end

section
/-! SUPPORT. The class of a set, and the effects it hands on, one after another (R46, R47). -/

namespace Sys2Proof.Machine

/-- The class and CLOCK_BACK, by the clock as it stood (R46). -/
theorem setClass_cases (c : Clock) (new : Nat) :
    (c.valid = false → setClass c new = .firstSet ∧ setsBack c new = false) ∧
    (c.valid = true → new ≤ c.count + 60 → c.count ≤ new + 60 → setClass c new = .trim ∧ setsBack c new = false) ∧
    (c.valid = true → c.count + 60 < new → setClass c new = .forward ∧ setsBack c new = false) ∧
    (c.valid = true → new + 60 < c.count → c.count ≤ new + 3600 →
      setClass c new = .backward ∧ setsBack c new = false) ∧
    (c.valid = true → new + 3600 < c.count → setClass c new = .backward ∧ setsBack c new = true) := by
  unfold setClass setsBack setStep
  refine ⟨fun invalid => ?_, fun valid low high => ?_, fun valid later => ?_, fun valid earlier near => ?_,
    fun valid earlier => ?_⟩
  · simp [invalid]
  · rw [if_neg (by simp [valid]), if_neg (by omega), if_neg (by omega)]
    simp [valid]
    omega
  · rw [if_neg (by simp [valid]), if_pos (by omega)]
    simp [valid]
    omega
  · rw [if_neg (by simp [valid]), if_neg (by omega), if_pos (by omega)]
    simp [valid]
    omega
  · rw [if_neg (by simp [valid]), if_neg (by omega), if_pos (by omega)]
    simp [valid]
    omega

theorem setsBack_iff (c : Clock) (new : Nat) : setsBack c new = true ↔ c.valid = true ∧ new + 3600 < c.count := by
  rw [setsBack, Bool.and_eq_true, decide_eq_true_eq, setStep]
  exact and_congr_right fun _ => by omega

theorem setsBack_of_trim {c : Clock} {new : Nat} (trim : setClass c new = .trim) : setsBack c new = false := by
  rw [← Bool.not_eq_true, setsBack_iff]
  rintro ⟨valid, earlier⟩
  obtain ⟨-, -, -, -, back⟩ := setClass_cases c new
  rw [(back valid earlier).1] at trim
  cases trim

/-- A step on a VALID clock, as reported (R46, R47; assumption logs 17 and 57). -/
theorem setResult_eq (c : Clock) (new : Nat) :
    setResult c new = leBytes 4 c.count ++ [if c.valid = true then 1 else 0] ++ leBytes 4 new ++
      [byteOf (setClass c new).code, if c.valid = true ∧ new < c.count then 1 else 0] ++
      leBytes 4 (if c.valid = true then ((new : Int) - (c.count : Int)).natAbs else 0) := by
  have flag : ∀ b : Bool, flagsByte [b] = if b = true then 1 else 0 := by decide
  have direction : byteOf (stepDirection c new) = if c.valid = true ∧ new < c.count then 1 else 0 := by
    unfold stepDirection
    simp only [Bool.and_eq_true, decide_eq_true_eq]
    split <;> rfl
  rw [setResult, flag, direction]
  rfl

/-- The clock set and shown, with the block and band of its minute (R62). -/
def setPaged (new : Nat) (s : State) : State :=
  pageBlockBand (pageCalendar (pageClock (s.withClock { s.clock with count := new, valid := true })))

/-- Then, unless it is a TRIM, CLOCK_STEP is written. -/
def setNoticed (new : Nat) (s : State) : State :=
  if setClass s.clock new = .trim then setPaged new s else clockStepNotice s.clock new (setPaged new s)

/-- Then a long step back is handed to the tamper watch. -/
def setWarned (new : Nat) (s : State) : State :=
  if setsBack s.clock new then clockBack (stepMagnitude s.clock new) (setNoticed new s) else setNoticed new s

/-- Then, unless it is a TRIM, the profile period is closed. -/
def setTurned (new : Nat) (s : State) : State :=
  if setClass s.clock new = .trim then setWarned new s else turnPeriod true (setWarned new s)

theorem setClock_eq (new : Nat) (s : State) : setClock new s = evaluateCredit .clockSet (setTurned new s) := rfl

theorem setPaged_touches (new : Nat) (s : State) : OnlyTouches [.store, .clock] s (setPaged new s) := by
  simp [setPaged]

theorem setPaged_keeps (new : Nat) (s : State) : Keeps [.page] s (setPaged new s) := by
  have clocked : ∀ c, Keeps [.page] s (s.withClock c) := fun c =>
    ((withClock_touches s c).keeps (by decide) (by decide)).mono (by simp)
  exact (((clocked _).trans (pageClock_keeps _)).trans (pageCalendar_keeps _)).trans (pageBlockBand_keeps _)

theorem setPaged_clock (new : Nat) (s : State) :
    (setPaged new s).clock = { s.clock with count := new, valid := true } := by
  have later : ∀ u, OnlyTouches [.store] u (pageBlockBand (pageCalendar (pageClock u))) := by simp
  exact (later _).clock_eq (by decide)

theorem setPaged_shows (new : Nat) {s : State} (up : linkUp s = true) :
    peek (setPaged new s) 0x4A = blockBandByte s.tariff { s.clock with count := new, valid := true } := by
  let shown := pageCalendar (pageClock (s.withClock { s.clock with count := new, valid := true }))
  have touches : OnlyTouches [.store, .clock] s shown := by simp [shown]
  have later : OnlyTouches [.store] (s.withClock { s.clock with count := new, valid := true }) shown := by simp [shown]
  have still : linkUp shown = true := by rw [touches.linkUp_eq (by decide), up]
  have byte := peekBytes_poke still 0x4A [blockBandByte shown.tariff shown.clock]
  rw [touches.tariff_eq (by decide), later.clock_eq (by decide)] at byte
  refine Eq.trans ?_ (List.cons.inj byte).1
  rw [setPaged, pageBlockBand, touches.tariff_eq (by decide), later.clock_eq (by decide)]
  rfl

/-- What a set writes of notices, attention causes and the tamper record stands beside the rest. -/
theorem setWarned_holds {R : State → State → Prop} (works : HoldsOfWorks R) (new : Nat) (s : State) :
    R (setNoticed new s) (setWarned new s) := by
  unfold setWarned
  split
  · exact works.clockBack _ _
  · exact works.refl _

theorem setNoticed_holds {R : State → State → Prop} (works : HoldsOfWorks R) (new : Nat) (s : State) :
    R (setPaged new s) (setNoticed new s) := by
  unfold setNoticed
  split
  · exact works.refl _
  · exact works.notice _ _ _ _

theorem setWarned_touches (new : Nat) (s : State) :
    OnlyTouches [.store, .clock, .tamper, .link, .strip] s (setWarned new s) := by
  have paged : OnlyTouches [.store, .clock, .tamper, .link, .strip] s (setPaged new s) :=
    (setPaged_touches new s).mono (by decide)
  simp [setWarned, setNoticed, apply_ite (OnlyTouches _ _), paged]

theorem setWarned_keeps (new : Nat) (s : State) : Keeps [.page, .strip] s (setWarned new s) := by
  have paged : Keeps [.page, .strip] s (setPaged new s) := (setPaged_keeps new s).mono (by decide)
  simp [setWarned, setNoticed, apply_ite (Keeps _ _), paged]

theorem setWarned_clock (new : Nat) (s : State) :
    (setWarned new s).clock = { s.clock with count := new, valid := true } := by
  have later : OnlyTouches [.store, .tamper, .link, .strip] (setPaged new s) (setWarned new s) := by
    simp [setWarned, setNoticed, apply_ite (OnlyTouches _ _)]
  rw [later.clock_eq (by decide), setPaged_clock]

theorem setWarned_layoutWell (new : Nat) {s : State} (layout : layoutWell s) : layoutWell (setWarned new s) := by
  have profile : (setWarned new s).profile = s.profile := setWarned_touches new s .profile (by decide)
  exact layoutWell_of layout ((setWarned_keeps new s).2 layout.1).1 (by rw [profile])

theorem setTurned_touches (new : Nat) (s : State) :
    OnlyTouches [.store, .clock, .tamper, .link, .strip, .profile] s (setTurned new s) := by
  have warned : OnlyTouches [.store, .clock, .tamper, .link, .strip, .profile] s (setWarned new s) :=
    (setWarned_touches new s).mono (by decide)
  simp [setTurned, apply_ite (OnlyTouches _ _), warned]

theorem setTurned_clock (new : Nat) (s : State) :
    (setTurned new s).clock = { s.clock with count := new, valid := true } := by
  have turned : OnlyTouches [.store, .link, .strip, .profile] (setWarned new s) (setTurned new s) := by
    simp [setTurned, apply_ite (OnlyTouches _ _)]
  rw [turned.clock_eq (by decide), setWarned_clock]

theorem setTurned_trim {new : Nat} {s : State} (trim : setClass s.clock new = .trim) :
    setTurned new s = setPaged new s := by
  simp [setTurned, setWarned, setNoticed, trim, setsBack_of_trim trim]

theorem setTurned_step {new : Nat} {s : State} (step : setClass s.clock new ≠ .trim) :
    setTurned new s = turnPeriod true (setWarned new s) := if_neg step

theorem setTurned_stands (new : Nat) {s : State} (layout : layoutWell s) :
    layoutWell (setTurned new s) ∧ StoreStands (setWarned new s) (setTurned new s) := by
  have warned := setWarned_layoutWell new layout
  unfold setTurned
  split
  · exact ⟨warned, storeStands_holds.refl _⟩
  · exact ⟨turnPeriod_layoutWell warned true, turnPeriod_storeStands warned true⟩

/-- After a set's clock and page, no notice is lost and no latched cause cleared. -/
theorem setClock_linkGrows (new : Nat) (s : State) : LinkGrows (setWarned new s) (setClock new s) := by
  have turned : LinkGrows (setWarned new s) (setTurned new s) := by
    unfold setTurned
    split
    · exact (workFrame_holds.refl _).link
    · exact turnPeriod_linkGrows true _
  exact turned.trans (workFrame_holds.evaluateCredit _ _).link

theorem setWarned_linkGrows (new : Nat) (s : State) : LinkGrows s (setWarned new s) :=
  (((setPaged_touches new s).linkGrows (by decide)).trans (setNoticed_holds workFrame_holds new s).link).trans
    (setWarned_holds workFrame_holds new s).link

/-! ### The effects -/

/-- CLOCK_BACK's record after a long step back (R139, R155). -/
theorem setWarned_records (new : Nat) (s : State) :
    (setWarned new s).tamper.records =
      if setsBack s.clock new then
        s.tamper.records.set .clockBack (s.tamper.records.clockBack.stepped ⟨new, true⟩)
      else s.tamper.records := by
  have noticed : OnlyTouches [.store, .clock, .link, .strip] s (setNoticed new s) := by
    have paged : OnlyTouches [.store, .clock, .link, .strip] s (setPaged new s) :=
      (setPaged_touches new s).mono (by decide)
    simp [setNoticed, apply_ite (OnlyTouches _ _), paged]
  have tamper : (setNoticed new s).tamper = s.tamper := noticed .tamper (by decide)
  have clock : (setNoticed new s).clock = { s.clock with count := new, valid := true } := by
    have later : OnlyTouches [.store, .link, .strip] (setPaged new s) (setNoticed new s) := by
      simp [setNoticed, apply_ite (OnlyTouches _ _)]
    rw [later.clock_eq (by decide), setPaged_clock]
  have back : ∀ m u, (clockBack m u).tamper.records =
      u.tamper.records.set .clockBack (u.tamper.records.clockBack.stepped (now u)) := by
    intro m u
    have told : ∀ v k b x o a c l, (raise .tamper (tamperOn k b x o a c l v)).tamper = v.tamper := by
      intro v k b x o a c l
      have touches : OnlyTouches [.store, .link, .strip] v (raise .tamper (tamperOn k b x o a c l v)) := by simp
      exact touches .tamper (by decide)
    have stored : ∀ r, (putRecord .clockBack r u).tamper.records = u.tamper.records.set .clockBack r := by
      intro r
      have later : ∀ v, OnlyTouches [.store] v (pageLamp (pageRecord .clockBack v)) := by simp
      exact congrArg Tamper.records (later _ .tamper (by decide))
    unfold clockBack
    dsimp only
    rw [told, stored]
    rfl
  unfold setWarned
  split
  · rw [back, tamper, now, clock]
  · rw [tamper]

theorem setWarned_raises {new : Nat} {s : State} (up : linkUp s = true) (back : setsBack s.clock new = true) :
    (setWarned new s).link.latched.getLsbD 4 = true := by
  have told : ∀ m u, linkUp u = true → (clockBack m u).link.latched.getLsbD 4 = true := by
    intro m u uup
    unfold clockBack
    dsimp only
    rw [raise_latched]
    · simp [AttnCause.mask, AttnCause.bit]
    · rw [OnlyTouches.linkUp_eq (bs := [.store, .tamper, .link, .strip]) (s := u) (by simp) (by decide), uup]
  have noticed : OnlyTouches [.store, .clock, .link, .strip] s (setNoticed new s) := by
    have paged : OnlyTouches [.store, .clock, .link, .strip] s (setPaged new s) :=
      (setPaged_touches new s).mono (by decide)
    simp [setNoticed, apply_ite (OnlyTouches _ _), paged]
  rw [setWarned, if_pos back]
  exact told _ _ (by rw [noticed.linkUp_eq (by decide), up])

/-- CLOCK_STEP: its kind, the class, the time, and the two times (R47; assumption log 16). -/
theorem setNoticed_shows {new : Nat} {s : State} (up : linkUp s = true) (index : s.strip.writeIndex ≤ 31)
    (room : unread s < 31) (step : setClass s.clock new ≠ .trim) :
    peekBytes (setNoticed new s) (0x600 + 16 * s.strip.writeIndex) 15 =
      [byteOf NoticeKind.clockStep.code, byteOf ((setClass s.clock new).code + 128)] ++ leBytes 4 new ++
      leBytes 4 s.clock.count ++ leBytes 4 new ++ [if s.clock.valid = true then 0 else 1] ∧
    ∀ b, 0x600 + 16 * s.strip.writeIndex ≤ b → b < 0x600 + 16 * s.strip.writeIndex + 16 →
      Held (setNoticed new s) b := by
  have touches := setPaged_touches new s
  have strip : (setPaged new s).strip = s.strip := touches .strip (by decide)
  have read : readIndex (setPaged new s) = readIndex s := by
    simp [readIndex, ((setPaged_keeps new s).2 index).2 0x100 (by decide)]
  have pagedUp : linkUp (setPaged new s) = true := by rw [touches.linkUp_eq (by decide), up]
  have flag : flagsByte [!s.clock.valid] = if s.clock.valid = true then 0 else 1 := by
    cases s.clock.valid <;> rfl
  obtain ⟨shown, held⟩ := writeNotice_shows .clockStep (setClass s.clock new).code (now (setPaged new s))
    (leBytes 4 s.clock.count ++ leBytes 4 new ++ [flagsByte [!s.clock.valid]]) pagedUp (by rwa [strip])
    (by rwa [unread, strip, read])
  rw [strip] at shown held
  have noticed : setNoticed new s = writeNotice .clockStep (setClass s.clock new).code (now (setPaged new s))
      (leBytes 4 s.clock.count ++ leBytes 4 new ++ [flagsByte [!s.clock.valid]]) (setPaged new s) := if_neg step
  rw [noticed]
  refine ⟨?_, held⟩
  rw [peekBytes_take _ _ 15 1, shown, now, setPaged_clock, flag]
  rfl

end Sys2Proof.Machine
end

section
/-! SUPPORT. The CREDIT cause and the credit state (R73). -/

namespace Sys2Proof.Machine

/-- Acting on the causes leaves them. -/
theorem actOnCauses_causes (s : State) : (actOnCauses s).supply.causes = s.supply.causes := by
  have entered : ∀ x, (enterOpening x s).supply.causes = s.supply.causes := fun x => by simp
  have changed : ∀ m x u, (changeMachine m x u s).supply.causes = s.supply.causes := fun m x u => by simp
  unfold actOnCauses
  split
  · exact entered _
  · exact changed _ _ _
  · exact changed _ _ _
  · split
    · exact entered _
    · rfl
  · exact changed _ _ _
  · exact changed _ _ _
  · rfl

theorem setCause_causes (k : Cause) (b : Bool) (s : State) :
    (setCause k b s).supply.causes = s.supply.causes.put k b := by
  unfold setCause
  split
  · rename_i same
    rw [Causes.put_of_has same]
  · dsimp only
    split
    · rw [actOnCauses_causes]
      simp
    · simp

/-- What an evaluation does beyond its finding, by the states before and after (R73). -/
theorem evaluateCredit_effects (x : CreditTrigger) (s : State) :
    ((evaluateCredit x s).credit.state = s.credit.state → OnlyTouches [.store, .credit] s (evaluateCredit x s)) ∧
    (s.credit.state ≠ .exhausted → (evaluateCredit x s).credit.state = .exhausted →
      (evaluateCredit x s).supply.causes.credit = true) ∧
    (s.credit.state = .exhausted → (evaluateCredit x s).credit.state ≠ .exhausted →
      (evaluateCredit x s).supply.causes.credit = false) := by
  have found : (pageCredit (s.withCredit (s.credit.evaluated s.settings s.clock))).credit.state =
      (evaluateCredit x s).credit.state := by
    rw [evaluateCredit_credit, (pageCredit_touches _).credit_eq (by decide)]
    rfl
  have paged : OnlyTouches [.store, .credit] s (pageCredit (s.withCredit (s.credit.evaluated s.settings s.clock))) := by
    simp
  have whole : evaluateCredit x s =
      let s1 := pageCredit (s.withCredit (s.credit.evaluated s.settings s.clock))
      if s1.credit.state = s.credit.state then s1
      else
        let s2 := raise .credit (creditStateNotice s.credit.state x s1)
        if s1.credit.state = .exhausted then setCause .credit true s2
        else if s.credit.state = .exhausted then setCause .credit false s2
        else s2 := rfl
  generalize (evaluateCredit x s).credit.state = st at found
  rw [whole]
  dsimp only
  rw [found]
  refine ⟨fun same => ?_, fun was ends => ?_, fun was ends => ?_⟩
  · rw [if_pos same]
    exact paged
  · rw [if_neg (by rw [ends]; exact fun h => was h.symm), if_pos ends, setCause_causes]
    rfl
  · rw [if_neg (by rw [was]; exact ends), if_neg ends, if_pos was, setCause_causes]
    rfl

end Sys2Proof.Machine
end

section
/-! PROOF. CLOCK_SET (R46, R47). -/

namespace Sys2Proof.Machine

theorem exec_clockSet {n : Fin 16} {s : State} (time : BitVec 32) (free : Postable s n) :
    let p := slipPosted n 4 (leBytes 4 time.toNat) s
    exec (.clockSet n time) s = .next (takeClockSet n p) := by
  intro p
  obtain ⟨running, -, -⟩ := id free
  obtain ⟨kind, -⟩ := slipPosted_body (args := leBytes 4 time.toNat) n 4 running
  have kind_eq : slipKind p n = 4 := kind
  have accept : accepts p n = true := by simp [accepts, isCodeSlip, isLoadSlip, kind_eq]
  have take : takeSlip n p = takeClockSet n p := by
    unfold takeSlip
    rw [kind_eq]
    rfl
  have run : exec (.clockSet n time) s = .next (postFilled n 4 (leBytes 4 time.toNat) s) := rfl
  rw [run, postFilled_eq n 4 free (by simp), if_pos accept, take]

/-- A posted CLOCK_SET as it is taken: the answer, over the slip taken and nothing else moved. -/
theorem clockSet_taken {n : Fin 16} {s : State} (time : BitVec 32) (free : Postable s n) :
    ∃ m, SlipFrame n s m ∧ m.link.waiting = s.link.waiting ∧
      exec (.clockSet n time) s = .next (if calendarEnd ≤ time.toNat then completeSlip n .badArgument [] m
        else completeSlip n .ok (setResult s.clock time.toNat) (setClock time.toNat m)) := by
  obtain ⟨running, -, -⟩ := id free
  have posted := slipPosted_frame n 4 (args := leBytes 4 time.toNat) running (by simp)
  have arg := slipPosted_arg n 4 (k := 4) (v := time.toNat) running time.isLt
  have run := exec_clockSet time free
  refine ⟨markTaken n (slipPosted n 4 (leBytes 4 time.toNat) s), posted.marked, markTaken_posted n 4 free, ?_⟩
  rw [run, takeClockSet, arg, posted.touches.clock_eq (by decide)]

/-- The set and its answer over the taken slip. -/
def clockSetDone (n : Fin 16) (result : List Byte) (new : Nat) (m : State) : State :=
  completeSlip n .ok result (setClock new m)

section
variable {n : Fin 16} {s m : State}

theorem SlipFrame.layoutWell (frame : SlipFrame n s m) (layout : layoutWell s) : layoutWell m := by
  have strip : m.strip = s.strip := frame.touches .strip (by decide)
  have profile : m.profile = s.profile := frame.touches .profile (by decide)
  exact layoutWell_of layout (by rw [strip]; exact layout.1) (by rw [profile])

theorem SlipFrame.unread (frame : SlipFrame n s m) : unread m = unread s := by
  have strip : m.strip = s.strip := frame.touches .strip (by decide)
  have read : readIndex m = readIndex s := by
    simp [readIndex, frame.bytes 0x100 (offSlip_below n (by decide))]
  rw [Machine.unread, strip, read]
  rfl

/-- Held bytes stand from the notice of a set to its end. -/
theorem clockSetDone_held (result : List Byte) (new : Nat) (layout : Machine.layoutWell m) :
    SameBytes (Held (setNoticed new m)) (setNoticed new m) (clockSetDone n result new m) := by
  obtain ⟨-, turned⟩ := setTurned_stands new layout
  have stands : StoreStands (setNoticed new m) (setClock new m) :=
    ((setWarned_holds storeStands_holds new m).trans turned).trans (storeStands_holds.evaluateCredit _ _)
  have index : (setNoticed new m).strip.writeIndex ≤ 31 := by
    have paged : (setPaged new m).strip.writeIndex ≤ 31 := ((setPaged_keeps new m).2 layout.1).1
    exact (setNoticed_holds storeStands_holds new m paged).1
  obtain ⟨-, -, -, bytes⟩ := stands index
  refine bytes.trans ((completeSlip_offSlip n _ _ _).mono fun a held => ?_)
  rcases held with ⟨-, page⟩ | ⟨strip, -⟩
  · exact offSlip_below n (by omega)
  · exact offSlip_above n strip

/-- The block and band follow the clock that is set (R62). -/
theorem clockSetDone_band (result : List Byte) (new : Nat) (up : linkUp m = true) (layout : Machine.layoutWell m) :
    peek (clockSetDone n result new m) 0x4A = blockBandByte m.tariff { m.clock with count := new, valid := true } := by
  have paged : (setPaged new m).strip.writeIndex ≤ 31 := ((setPaged_keeps new m).2 layout.1).1
  obtain ⟨-, -, -, noticed⟩ := setNoticed_holds storeStands_holds new m paged
  rw [clockSetDone_held result new layout 0x4A (.inl ⟨by decide, by decide⟩), noticed 0x4A (.inl ⟨by decide, by decide⟩),
    setPaged_shows new up]

/-- The notice of a set stands at its end. -/
theorem clockSetDone_notice (result : List Byte) {new : Nat} (up : linkUp m = true) (layout : Machine.layoutWell m)
    (room : Machine.unread m < 31) (step : setClass m.clock new ≠ .trim) :
    peekBytes (clockSetDone n result new m) (0x600 + 16 * m.strip.writeIndex) 15 =
      [byteOf NoticeKind.clockStep.code, byteOf ((setClass m.clock new).code + 128)] ++ leBytes 4 new ++
      leBytes 4 m.clock.count ++ leBytes 4 new ++ [if m.clock.valid = true then 0 else 1] := by
  obtain ⟨shown, held⟩ := setNoticed_shows up layout.1 room step
  rw [← shown]
  exact (clockSetDone_held result new layout).peekBytes_eq fun b low high => held b low (by omega)

theorem completeSlip_workFrame (n : Fin 16) (v : Verdict) (r : List Byte) (u : State) :
    WorkFrame u (completeSlip n v r u) := by
  obtain ⟨waiting, latched⟩ := completeSlip_link n v r u
  exact LinkGrows.workFrame ⟨waiting, fun i set => by rwa [latched]⟩ (completeSlip_touches u n v r .profile (by decide))

/-- The close of the period in progress, with STEP (R47, R198, R199). -/
theorem clockSetDone_turned (result : List Byte) {new : Nat} (up : linkUp m = true) (layout : Machine.layoutWell m)
    (step : setClass m.clock new ≠ .trim) {d : Descriptor} {p : Period} (desc : m.profile.desc = some d)
    (period : m.profile.period = some p) :
    Turned d p true (setWarned new m) (clockSetDone n result new m) := by
  have profile : (setWarned new m).profile = m.profile := setWarned_touches new m .profile (by decide)
  have warned := setWarned_layoutWell new layout
  have warnedUp : linkUp (setWarned new m) = true := by rw [(setWarned_touches new m).linkUp_eq (by decide), up]
  have turned := turnPeriod_turned warnedUp warned (by rw [profile, desc]) (by rw [profile, period]) true
  rw [← setTurned_step step] at turned
  have area : 0x800 ≤ d.offset := (layout.2 d desc).1
  obtain ⟨⟨index, -⟩, -⟩ := setTurned_stands new layout
  have evaluated := turned.later area index (workFrame_holds.evaluateCredit .clockSet _)
    ((evaluateCredit_keeps _ .clockSet).mono (by decide))
  have evaluatedIndex := ((evaluateCredit_keeps (setTurned new m) .clockSet).2 index).1
  rw [← setClock_eq] at evaluated evaluatedIndex
  exact evaluated.later area evaluatedIndex (completeSlip_workFrame n .ok result _)
    ((completeSlip_keeps _ n .ok result).mono (by decide))

theorem clockSetDone_touches (result : List Byte) (new : Nat) :
    OnlyTouches [.store, .link] (setClock new m) (clockSetDone n result new m) := by
  simp [clockSetDone]

/-- The credit unit evaluates with the clock that is set (R47, R73). -/
theorem clockSetDone_credit (result : List Byte) (new : Nat) :
    let t := clockSetDone n result new m
    t.credit = m.credit.evaluated m.settings { m.clock with count := new, valid := true } ∧
    (m.credit.state ≠ .exhausted → t.credit.state = .exhausted → t.supply.causes.credit = true) ∧
    (m.credit.state = .exhausted → t.credit.state ≠ .exhausted → t.supply.causes.credit = false) := by
  intro t
  have turned := setTurned_touches new m
  have credit : (setTurned new m).credit = m.credit := turned.credit_eq (by decide)
  have settings : (setTurned new m).settings = m.settings := turned .settings (by decide)
  have done : t.credit = (setClock new m).credit := (clockSetDone_touches result new).credit_eq (by decide)
  have supply : t.supply = (setClock new m).supply := (clockSetDone_touches result new).supply_eq (by decide)
  obtain ⟨-, places, removes⟩ := evaluateCredit_effects .clockSet (setTurned new m)
  rw [done, supply, setClock_eq]
  rw [credit] at places removes
  refine ⟨?_, places, removes⟩
  rw [evaluateCredit_credit, credit, settings, setTurned_clock]

/-- A TRIM leaves the profile channel; only an evaluation that changes the credit state does more (R47). -/
theorem setClock_trim {new : Nat} (trim : setClass m.clock new = .trim) :
    (setClock new m).profile.desc = m.profile.desc ∧ (setClock new m).profile.unrecorded = m.profile.unrecorded ∧
    ((setClock new m).credit.state = m.credit.state →
      (setClock new m).profile = m.profile ∧ (setClock new m).strip = m.strip) := by
  have paged := setPaged_touches new m
  have whole : setClock new m = evaluateCredit .clockSet (setPaged new m) := by rw [setClock_eq, setTurned_trim trim]
  rw [whole]
  generalize setPaged new m = u at paged
  have profile : u.profile = m.profile := paged .profile (by decide)
  have strip : u.strip = m.strip := paged .strip (by decide)
  have frame := workFrame_holds.evaluateCredit .clockSet u
  obtain ⟨quiet, -, -⟩ := evaluateCredit_effects .clockSet u
  rw [paged.credit_eq (by decide)] at quiet
  exact ⟨frame.desc.trans (congrArg Profile.desc profile), frame.unrecorded.trans (congrArg Profile.unrecorded profile),
    fun same => ⟨Eq.trans (quiet same .profile (by decide)) profile, Eq.trans (quiet same .strip (by decide)) strip⟩⟩

/-- CLOCK_BACK after a set: its record, and the attention cause (R47, R155). -/
theorem clockSetDone_tamper (result : List Byte) (new : Nat) (up : linkUp m = true) :
    (clockSetDone n result new m).tamper.records =
      (if setsBack m.clock new then
        m.tamper.records.set .clockBack (m.tamper.records.clockBack.stepped ⟨new, true⟩)
      else m.tamper.records) ∧
    (setsBack m.clock new = true → (clockSetDone n result new m).link.latched.getLsbD 4 = true) := by
  have turned : OnlyTouches [.store, .link, .strip, .profile] (setWarned new m) (setTurned new m) := by
    simp [setTurned, apply_ite (OnlyTouches _ _)]
  have set : (setClock new m).tamper = (setWarned new m).tamper :=
    Eq.trans (evaluateCredit_touches (setTurned new m) .clockSet .tamper (by decide)) (turned .tamper (by decide))
  have done : (clockSetDone n result new m).tamper = (setClock new m).tamper :=
    clockSetDone_touches result new .tamper (by decide)
  refine ⟨by rw [done, set, setWarned_records], fun back => ?_⟩
  rw [clockSetDone, (completeSlip_link n _ _ _).2]
  exact (setClock_linkGrows new m).latched 4 (setWarned_raises up back)

theorem clockSetDone_waiting (result : List Byte) (new : Nat) :
    (clockSetDone n result new m).link.waiting = m.link.waiting := by
  rw [clockSetDone, (completeSlip_link n _ _ _).1]
  exact ((setWarned_linkGrows new m).trans (setClock_linkGrows new m)).waiting

theorem clockSetDone_clock (result : List Byte) (new : Nat) :
    (clockSetDone n result new m).clock = { m.clock with count := new, valid := true } := by
  rw [(clockSetDone_touches result new).clock_eq (by decide), setClock_clock]

theorem clockSetDone_shows (result : List Byte) (new : Nat) (up : linkUp m = true) :
    SlipShows (clockSetDone n result new m) n .ok result :=
  completeSlip_shows n .ok result (by rw [(setClock_touches m new).linkUp_eq (by decide), up])

end

/-- Settles O15: the set over the taken slip, effect by effect, the refusal, and the classes. -/
theorem clockSetSetsTheClock : Obligations.ClockSetSetsTheClock := by
  unfold Obligations.ClockSetSetsTheClock
  refine ⟨fun n time s free early => ?_, fun n time s free late => ?_, setClass_cases⟩
  · obtain ⟨m, frame, waits, run⟩ := clockSet_taken time free
    rw [if_neg (Nat.not_le.mpr early)] at run
    have clock : m.clock = s.clock := frame.touches.clock_eq (by decide)
    have tamper : m.tamper = s.tamper := frame.touches .tamper (by decide)
    have credit : m.credit = s.credit := frame.touches.credit_eq (by decide)
    have settings : m.settings = s.settings := frame.touches .settings (by decide)
    have profile : m.profile = s.profile := frame.touches .profile (by decide)
    have strip : m.strip = s.strip := frame.touches .strip (by decide)
    have tariff : m.tariff = s.tariff := frame.touches.tariff_eq (by decide)
    generalize time.toNat = new at run
    have shows := clockSetDone_shows (n := n) (setResult s.clock new) new frame.up
    have tclock := clockSetDone_clock (n := n) (m := m) (setResult s.clock new) new
    have twaits := clockSetDone_waiting (n := n) (m := m) (setResult s.clock new) new
    obtain ⟨records, raises⟩ := clockSetDone_tamper (n := n) (setResult s.clock new) new frame.up
    obtain ⟨evaluated, places, removes⟩ := clockSetDone_credit (n := n) (m := m) (setResult s.clock new) new
    have band := clockSetDone_band (n := n) (setResult s.clock new) new frame.up
    have noticed := clockSetDone_notice (n := n) (setResult s.clock new) (new := new) frame.up
    have turned := clockSetDone_turned (n := n) (setResult s.clock new) (new := new) frame.up
    have done := clockSetDone_touches (n := n) (m := m) (setResult s.clock new) new
    have trim := setClock_trim (m := m) (new := new)
    rw [clock] at tclock records raises evaluated band noticed turned trim
    rw [tamper] at records
    rw [credit, settings] at evaluated
    rw [credit] at places removes trim
    rw [tariff] at band
    rw [frame.unread, strip] at noticed
    rw [profile] at turned trim
    rw [strip] at trim
    have warnedClock := setWarned_clock new m
    have warnedCount : (setWarned new m).profile.unrecorded = s.profile.unrecorded := by
      rw [show (setWarned new m).profile = m.profile from setWarned_touches new m .profile (by decide), profile]
    rw [clock] at warnedClock
    change exec (.clockSet n time) s = .next (clockSetDone n (setResult s.clock new) new m) at run
    generalize clockSetDone n (setResult s.clock new) new m = t at *
    refine ⟨t, run, tclock, ?_, twaits.trans waits, ?_, fun valid back => raises ((setsBack_iff _ _).mpr ⟨valid, back⟩),
      by rw [evaluated, tclock], places, removes, fun isTrim => ?_,
      fun layout => by rw [band (frame.layoutWell layout), tclock],
      fun step layout room => noticed (frame.layoutWell layout) room step, fun d p step layout desc period => ?_⟩
    · rw [setResult_eq] at shows
      exact shows
    · rw [records]
      exact if_congr (setsBack_iff _ _) rfl rfl
    · obtain ⟨desc, count, quiet⟩ := trim isTrim
      have tprofile : t.profile = (setClock new m).profile := done .profile (by decide)
      have tstrip : t.strip = (setClock new m).strip := done .strip (by decide)
      rw [tprofile, tstrip, done.credit_eq (by decide)]
      refine ⟨desc, count, fun same => ?_⟩
      obtain ⟨sameProfile, sameStrip⟩ := quiet same
      exact ⟨by rw [sameProfile], sameStrip⟩
    · obtain ⟨⟨q, opened, fresh⟩, none_left, recorded, -⟩ := turned (frame.layoutWell layout) step desc period
      rw [warnedClock] at fresh recorded
      rw [warnedCount] at none_left recorded
      refine ⟨⟨q, opened, fresh.wh, fresh.minV, fresh.maxV, fresh.step, fresh.minutes, fresh.clockInvalid, fresh.slot⟩,
        none_left, fun left => ?_⟩
      obtain ⟨advanced, count, bytes⟩ := recorded left
      refine ⟨count, advanced, ?_⟩
      rw [peekBytes_take _ _ 11 5, bytes, profileRecordBytes_take, Bool.or_true]
  · obtain ⟨m, frame, waits, run⟩ := clockSet_taken time free
    rw [if_pos late] at run
    exact ⟨_, run, completeSlip_shows n _ _ frame.up, (completeSlip_link n _ _ _).1.trans waits,
      (frame.completed _ _).touches⟩

end Sys2Proof.Machine
end

section
/-! SUPPORT. What a work keeps, packaged once for any property of the account, the cause set, the contactor machine and
the tamper records: a property that the works these parts are moved by keep is kept by every step. -/

namespace Sys2Proof.Machine

/-- The account, the supply controller, the tamper records, the power state and the start-up's stage stand. -/
structure CoreStands (s t : State) : Prop where
  credit : t.credit = s.credit
  supply : t.supply = s.supply
  records : t.tamper.records = s.tamper.records
  state : t.power.state = s.power.state
  stage : t.power.stage = s.power.stage

/-- After the step the cause set is not yet rebuilt, and the account, the causes and the overload stand (R127, R157). -/
structure CoreUnlit (s t : State) : Prop where
  credit : t.credit = s.credit
  causes : t.supply.causes = s.supply.causes
  overload : t.supply.overload = s.supply.overload
  unlit : lampDriven t = false

/-- A property of states that each work keeps by which the account, the cause set, the machine and the tamper records
move. Every other work leaves all these as they stand. -/
structure KeptByWorks (P : State → Prop) : Prop where
  stands : ∀ {s t}, CoreStands s t → P s → P t
  unlit : ∀ {s t}, CoreUnlit s t → P s → P t
  /-- An account in its ranges, before its evaluation. -/
  account : ∀ {s} {c : Credit}, (s.credit.inRange → c.inRange) → c.state = s.credit.state → P s → P (s.withCredit c)
  evaluate : ∀ x {s}, P s → P (evaluateCredit x s)
  order : ∀ b {s}, P s → P (setCause .order b s)
  /-- Records of which CASE and BYPASS are both CLEAR exactly where they were. -/
  records : ∀ {s} {r : TamperRecords}, disconnects r = disconnects s.tamper.records → P s →
    P (s.withTamper { s.tamper with records := r })
  kindOn : ∀ k more {s}, P s → P (kindOn k more s)
  clearTamper : ∀ named sequence {s}, P s → P (clearTamper named sequence s)
  /-- Timers, limits and the attempt; a verify window begins only where no cause stands against a close (R118). -/
  supply : ∀ {s} {p : Supply}, p.causes = s.supply.causes → p.machine = s.supply.machine →
    (p.overload = .none ↔ s.supply.overload = .none) →
    (inVerify p = true →
      inVerify s.supply = true ∨ (s.supply.machine = .closing → s.supply.causes.isEmpty = true)) →
    P s → P (s.withSupply p)
  /-- CLOSED and AWAIT_CONFIRM are entered over an empty cause set, or by a verified close (R114, R118). -/
  change : ∀ m x u {s},
    (m = .closed ∨ m = .awaitConfirm →
      s.supply.causes.isEmpty = true ∨ s.supply.machine = .closing ∧ inVerify s.supply = true) →
    P s → P (changeMachine m x u s)
  endOverload : ∀ {s}, P s → P (endOverload s)
  overloadTrip : ∀ power {s}, P s → P (overloadTrip power s)
  startStep1 : ∀ {s}, P s → P (startStep1 s)
  startStep4 : ∀ {s}, P s → P (startStep4 s)
  startStep56 : ∀ v {s}, s.power.state = .mains → s.power.stage = .recomputed → P s → P (startStep56 v s)

/-- The four parts in which the account, the cause set and what they follow from lie. -/
def coreBlocks : List Block := [.credit, .supply, .tamper, .power]

theorem OnlyTouches.coreStands {bs : List Block} {s t : State} (h : OnlyTouches bs s t)
    (m : ∀ b ∈ coreBlocks, b ∉ bs) : CoreStands s t := by
  have tamper : t.tamper = s.tamper := h .tamper (m _ (by decide))
  have power : t.power = s.power := h .power (m _ (by decide))
  exact ⟨h .credit (m _ (by decide)), h .supply (m _ (by decide)), by rw [tamper], by rw [power], by rw [power]⟩

/-! ### The account's ranges under a debit and an addition (R63 to R67, R107) -/

theorem Credit.lower_inRange {c : Credit} (units : Nat) (range : c.inRange) : (c.lower units).inRange := by
  obtain ⟨floor, cap, rem, written, amount⟩ := range
  refine ⟨le_max_right _ _, ?_, rem, Nat.min_le_right _ _, amount⟩
  simp only [Credit.lower, balanceFloor]
  omega

theorem Credit.energyDebit_inRange {c : Credit} (rate : Nat) (range : c.inRange) : (c.energyDebit rate).inRange := by
  obtain ⟨floor, cap, -, written, amount⟩ := Credit.lower_inRange ((c.debitRem + rate) / 1000) range
  exact ⟨floor, cap, Nat.le_of_lt_succ (Nat.mod_lt _ (by decide)), written, amount⟩

theorem Credit.added_inRange {c : Credit} {value : Nat} (room : overCap c value = false) (range : c.inRange) :
    { c with balance := c.balance + value }.inRange := by
  obtain ⟨floor, -, rest⟩ := range
  have room := of_decide_eq_false room
  simp only [balanceCap] at room
  exact ⟨by dsimp only; omega, by dsimp only; omega, rest⟩

/-- A code that passes step 9 leaves room under the cap for what it adds (R67, R100). -/
theorem overCap_of_judgeFields {c : Code} {accepted : List Nat} {credit : Credit}
    (passed : judgeFields c accepted credit = .ok) (cls : c.cls = 1) : overCap credit c.value = false := by
  unfold judgeFields at passed
  split_ifs at passed with _ _ _ exceeds
  exact Bool.eq_false_of_not_eq_true fun h => exceeds ⟨cls, h⟩

theorem judgeCode_ok {chars : List Byte} {s : State} {c : Code} (passed : judgeCode chars s = (.ok, some c)) :
    judgeFields c s.code.accepted s.credit = .ok := by
  unfold judgeCode at passed
  split at passed
  · simp at passed
  · dsimp only at passed
    split_ifs at passed <;> simp at passed
    obtain ⟨fields, rfl⟩ := passed
    exact fields

/-! ### The tamper records (R112, R137, R139) -/

theorem disconnects_iff (r : TamperRecords) :
    disconnects r = true ↔ r.caseOpen.status ≠ .clear ∨ r.bypass.status ≠ .clear := by
  simp [disconnects]

/-- A record that is CLEAR exactly where its kind's was. -/
theorem disconnects_set {r : TamperRecords} {k : TamperKind} {x : TamperRecord}
    (clear : x.status = .clear ↔ (r.get k).status = .clear) : disconnects (r.set k x) = disconnects r := by
  rw [Bool.eq_iff_iff, disconnects_iff, disconnects_iff]
  cases k with
  | caseOpen => exact or_congr (not_congr clear) Iff.rfl
  | bypass => exact or_congr Iff.rfl (not_congr clear)
  | _ => exact Iff.rfl

theorem TamperRecord.ceased_clear (r : TamperRecord) (x : Stamp) (b : Bool) :
    (r.ceased x b).status = .clear ↔ r.status = .clear := by
  unfold TamperRecord.ceased
  split <;> simp_all

theorem lampDriven_of_mainsOperation {s : State} (early : mainsOperation s = false) : lampDriven s = false := by
  simp only [mainsOperation, lampDriven, Bool.and_eq_false_iff, decide_eq_false_iff_not] at early ⊢
  exact early.imp id fun _ => by omega

namespace KeptByWorks

variable {P : State → Prop}

theorem beside (h : KeptByWorks P) {bs : List Block} {s t : State} (only : OnlyTouches bs s t)
    (m : ∀ b ∈ coreBlocks, b ∉ bs) (p : P s) : P t := h.stands (only.coreStands m) p

/-! ### The credit unit -/

/-- The account moved within its ranges, and evaluated. -/
theorem paid (h : KeptByWorks P) (x : CreditTrigger) {s : State} {c : Credit} (range : s.credit.inRange → c.inRange)
    (state : c.state = s.credit.state) (p : P s) : P (evaluateCredit x (pageCredit (s.withCredit c))) :=
  h.evaluate x (h.beside (pageCredit_touches _) (by decide) (h.account range state p))

theorem energyDebit (h : KeptByWorks P) (rate : Nat) {s : State} (p : P s) : P (energyDebit rate s) :=
  h.paid _ (Credit.energyDebit_inRange rate) rfl p

theorem dailyDebit (h : KeptByWorks P) (amount : Nat) {s : State} (p : P s) : P (dailyDebit amount s) :=
  h.paid _ (Credit.lower_inRange amount) rfl p

theorem addCredit (h : KeptByWorks P) {value : Nat} {s : State} (room : overCap s.credit value = false) (p : P s) :
    P (addCredit value s) :=
  h.paid _ (Credit.added_inRange room) rfl p

theorem setEmergencyAmount (h : KeptByWorks P) (value : Nat) {s : State} (p : P s) :
    P (setEmergencyAmount (clampEmergency value) s) :=
  h.paid _ (fun ⟨floor, cap, rem, written, _⟩ => ⟨floor, cap, rem, written, Nat.min_le_right _ _⟩) rfl p

theorem resetCredit (h : KeptByWorks P) {s : State} (p : P s) : P (resetCredit s) :=
  h.paid _ (fun ⟨_, _, _, _, amount⟩ => ⟨by simp, by simp, by simp, by simp, amount⟩) rfl p

/-- Emergency credit taken: the notice stands before the evaluation's or after it (assumption log 14). -/
theorem takeEmergency (h : KeptByWorks P) {s : State} (p : P s) : P (takeEmergency s) := by
  have noted : ∀ c u, P u → P (emergencyNotice c u) := fun c u => h.beside (emergencyNotice_touches u c) (by decide)
  have taken : P (pageCredit (s.withCredit { s.credit with emergency := .taken })) :=
    h.beside (pageCredit_touches _) (by decide) (h.account id rfl p)
  unfold Machine.takeEmergency
  split
  · refine freePick_of (fun u n => h.beside (withFreeCount_touches u n) (by decide)) p fun r hr => ?_
    rcases List.mem_pair.mp hr with rfl | rfl
    · exact noted _ _ (h.evaluate _ taken)
    · exact h.evaluate _ (noted _ _ taken)
  · exact p

/-! ### The supply controller -/

/-- An attempt begins in its pulse. -/
theorem pulsed (h : KeptByWorks P) (d : Direction) {s : State} {a : Attempt} (phase : a.phase = .pulse) (p : P s) :
    P (beginPulse d (overSupply (fun u => { u with attempt := some a }) s)) := by
  have begun : P (s.withSupply { s.supply with attempt := some a, coil := some d }) :=
    h.supply rfl rfl Iff.rfl (by simp [inVerify, phase]) p
  exact h.beside (withConv_touches _ s.conv.pulseBegins) (by decide) begun

theorem beginAttempt (h : KeptByWorks P) (d : Direction) {s : State} (p : P s) : P (beginAttempt d s) :=
  h.beside (pageSupply_touches _) (by decide) (h.pulsed d rfl p)

theorem enterOpening (h : KeptByWorks P) (x : SupplyTrigger) {s : State} (p : P s) : P (enterOpening x s) :=
  h.beginAttempt _ (h.change .opening _ _ (by simp) p)

theorem takeConfirm (h : KeptByWorks P) {s : State} (p : P s) : P (takeConfirm s) := by
  unfold Machine.takeConfirm
  split
  · exact h.beginAttempt _ (h.change .closing _ _ (by simp) p)
  · exact p

/-- An update of the supply controller that leaves the causes, the machine and the overload, and enters no verify
window. -/
theorem counted (h : KeptByWorks P) (f : Supply → Supply) {s : State} (causes : (f s.supply).causes = s.supply.causes)
    (machine : (f s.supply).machine = s.supply.machine)
    (overload : (f s.supply).overload = .none ↔ s.supply.overload = .none)
    (verify : inVerify (f s.supply) = true → inVerify s.supply = true) (p : P s) : P (overSupply f s) :=
  h.supply causes machine overload (fun v => .inl (verify v)) p

theorem countedPage (h : KeptByWorks P) (f : Supply → Supply) {s : State}
    (causes : (f s.supply).causes = s.supply.causes) (machine : (f s.supply).machine = s.supply.machine)
    (overload : (f s.supply).overload = .none ↔ s.supply.overload = .none)
    (verify : inVerify (f s.supply) = true → inVerify s.supply = true) (p : P s) : P (pageSupply (overSupply f s)) :=
  h.beside (pageSupply_touches _) (by decide) (h.counted f causes machine overload verify p)

theorem markUnverified (h : KeptByWorks P) {s : State} (p : P s) : P (markUnverified s) :=
  h.counted _ rfl rfl Iff.rfl (by simp [inVerify]) p

theorem endPulse (h : KeptByWorks P) {s : State} (p : P s) : P (endPulse s) := by
  have still : P (overSupply (fun u => { u with coil := none }) s) := h.counted _ rfl rfl Iff.rfl id p
  have resumed : ∀ c, P ((overSupply (fun u => { u with coil := none }) s).withConv c) := fun c =>
    h.beside (withConv_touches _ c) (by decide) still
  unfold Machine.endPulse
  dsimp only
  split
  · split
    · exact h.enterOpening _ (resumed _)
    · rename_i free
      refine h.beside (pageSupply_touches _) (by decide) (h.supply rfl rfl Iff.rfl (fun _ => .inr fun closing => ?_)
        (resumed _))
      exact Bool.eq_true_of_not_eq_false fun cause => free ⟨closing, cause⟩
  · exact h.markUnverified still

theorem failAttempt (h : KeptByWorks P) (a : Attempt) {s : State} (p : P s) : P (failAttempt a s) := by
  have noted : P (relayFaultNotice a s) := h.beside (relayFaultNotice_touches s a) (by decide) p
  unfold Machine.failAttempt
  dsimp only
  split
  · exact h.change .stuckOpen _ _ (by simp) noted
  · have stuck := h.change .stuckClosed .fault false (by simp) noted
    split
    · rename_i empty
      exact h.change .closed _ _ (fun _ => .inl empty) stuck
    · exact h.countedPage _ rfl rfl Iff.rfl id stuck

/-- A verify window of the attempt in progress expires. -/
theorem windowExpires (h : KeptByWorks P) {a : Attempt} {s : State} (attempt : s.supply.attempt = some a) (p : P s) :
    P (windowExpires a s) := by
  unfold Machine.windowExpires
  split
  · exact h.countedPage _ rfl rfl Iff.rfl (by simp [inVerify, attempt]) p
  · split
    · exact h.beside (pageSupply_touches _) (by decide) (h.pulsed _ rfl p)
    · exact h.failAttempt a p

theorem overloadFrame (h : KeptByWorks P) (f : Frame) (power : Nat) {s : State} (p : P s) :
    P (overloadFrame f power s) := by
  have count : ∀ n, P (pageSupply (overSupply (fun u => { u with overCount := n }) s)) := fun n =>
    h.countedPage _ rfl rfl Iff.rfl id p
  unfold Machine.overloadFrame
  dsimp only
  exact iteInduction (fun _ => iteInduction (fun _ => iteInduction (fun _ => h.overloadTrip power p) fun _ => count _)
    fun _ => count 0) fun _ => p

theorem noteLoadV (h : KeptByWorks P) (f : Frame) {s : State} (p : P s) : P (noteLoadV f s) := by
  unfold Machine.noteLoadV
  refine iteInduction (fun _ => h.counted _ rfl rfl Iff.rfl ?_ p) fun _ => p
  cases attempt : s.supply.attempt <;> simp [inVerify, attempt]

theorem supplyFrame (h : KeptByWorks P) (f : Frame) (power : Nat) {s : State} (p : P s) : P (supplyFrame f power s) := by
  have noted := h.noteLoadV f p
  unfold Machine.supplyFrame
  split
  · exact h.overloadFrame f power p
  · dsimp only
    split
    · have opened := h.change .opened .verified false (by simp) noted
      split
      · rename_i empty
        exact h.change .awaitConfirm _ _ (fun _ => .inl empty) opened
      · exact opened
    · exact noted
  · rename_i closing
    dsimp only
    split
    · rename_i live
      have machine : (Machine.noteLoadV f s).supply.machine = .closing := by
        rw [← closing]
        unfold Machine.noteLoadV
        split <;> rfl
      exact h.change .closed _ _ (fun _ => .inr ⟨machine, (Bool.and_eq_true_iff.mp live).1⟩) noted
    · exact noted
  · exact iteInduction (fun _ => h.change .opened _ _ (by simp) p) fun _ => p
  all_goals exact p

theorem applyPowerLimit (h : KeptByWorks P) (w : Nat) {s : State} (p : P s) : P (applyPowerLimit w s) := by
  have limited := h.countedPage (fun u => { u with limit := w, trips := [], overCount := 0 }) rfl rfl Iff.rfl id p
  exact iteInduction (fun _ => h.endOverload limited) fun _ => limited

/-! ### The tamper watch -/

/-- A record that is CLEAR exactly where its kind was. -/
theorem putRecord (h : KeptByWorks P) (k : TamperKind) {r : TamperRecord} {s : State}
    (clear : r.status = .clear ↔ (s.tamper.records.get k).status = .clear) (p : P s) : P (putRecord k r s) :=
  h.beside (pageLamp_touches _) (by decide) (h.beside (pageRecord_touches _ k) (by decide)
    (h.records (disconnects_set clear) p))

theorem kindOff (h : KeptByWorks P) (k : TamperKind) {s : State} (p : P s) : P (kindOff k s) :=
  h.beside (tamperOff_touches _ _ _ _ _ _ _) (by decide) (h.putRecord k (TamperRecord.ceased_clear _ _ _) p)

/-- CLOCK_BACK does not disconnect (R137). -/
theorem clockBack (h : KeptByWorks P) (magnitude : Nat) {s : State} (p : P s) : P (clockBack magnitude s) := by
  have put : ∀ r, P (Machine.putRecord .clockBack r s) := fun r =>
    h.beside (pageLamp_touches _) (by decide) (h.beside (pageRecord_touches _ .clockBack) (by decide)
      (h.records (r := s.tamper.records.set .clockBack r) rfl p))
  exact h.beside (raise_touches _ _) (by decide) (h.beside (tamperOn_touches _ _ _ _ _ _ _ _) (by decide) (put _))

theorem tamperBeside (h : KeptByWorks P) {s : State} {x : Tamper} (records : x.records = s.tamper.records) (p : P s) :
    P (s.withTamper x) := h.stands (s := s) ⟨rfl, rfl, records, rfl, rfl⟩ p

theorem judgeKind (h : KeptByWorks P) (f : Frame) (k : FrameKind) {s : State} (p : P s) : P (judgeKind f k s) := by
  have window : ∀ w, P (s.withTamper { s.tamper with windows := w }) := fun _ => h.tamperBeside rfl p
  unfold Machine.judgeKind
  dsimp only
  exact iteInduction (fun _ => h.kindOn _ _ (window _)) fun _ =>
    iteInduction (fun _ => h.kindOff _ (window _)) fun _ => window _

theorem tamperFrame (h : KeptByWorks P) (f : Frame) {s : State} (p : P s) : P (tamperFrame f s) :=
  h.beside (pageWindows_touches _) (by decide)
    (List.foldlRecOn _ _ p fun _ q k _ => h.judgeKind f k q)

theorem switchSettles (h : KeptByWorks P) (w : SwitchId) (x : Position) {s : State} (p : P s) :
    P (switchSettles w x s) := by
  have settled : P (s.withTamper (s.tamper.settle w (some x))) := h.tamperBeside (by cases w <;> rfl) p
  unfold Machine.switchSettles
  dsimp only
  split
  · refine h.beside (pageSwitches_touches _) (by decide) ?_
    split
    · exact h.kindOn _ _ settled
    · exact h.kindOff _ settled
    all_goals exact settled
  · rename_i early
    have listed : ∀ e u, (appendEvent e u).power.state = u.power.state ∧
        (appendEvent e u).power.stage = u.power.stage := by
      intro e u
      unfold appendEvent
      split <;> exact ⟨rfl, rfl⟩
    have only := switchOnBattery_touches (s.withTamper (s.tamper.settle w (some x))) w x
    have unlit := lampDriven_of_mainsOperation (Bool.eq_false_of_not_eq_true early)
    have supply := only.supply_eq (by decide)
    refine h.unlit ⟨only.credit_eq (by decide), by rw [supply], by rw [supply], ?_⟩ settled
    have put : ∀ k r u, (Machine.putRecord k r u).power = u.power := fun k r u =>
      (putRecord_touches u k r).power_eq (by decide)
    unfold switchOnBattery
    dsimp only
    rw [lampDriven, (listed _ _).1, (listed _ _).2, put]
    exact unlit

/-! ### The energy register block, the tariff unit and the clock -/

theorem carry (h : KeptByWorks P) {s : State} (p : P s) : P (carry s) := by
  let counted := countWattHour (s.withEnergy { s.energy with billed :=
    { s.energy.billed with wh := (s.energy.billed.wh + 1) % 1000000000 } })
  have count : P counted := h.beside (bs := [.energy, .tariff]) (by simp [counted]) (by decide) p
  exact h.beside (owePulse_touches _) (by decide) (h.beside (profileWattHour_touches _) (by decide)
    (h.energyDebit (unitRate s.tariff s.clock) count))

theorem carries (h : KeptByWorks P) (n : Nat) {s : State} (p : P s) : P (carries n s) := by
  induction n generalizing s with
  | zero => exact p
  | succ n ih => exact ih (h.carry p)

theorem energyFrame (h : KeptByWorks P) (f : Frame) {s : State} (p : P s) : P (energyFrame f s) :=
  h.beside (energyFrame_carries f s) (by decide) (h.carries _ (h.beside (withEnergy_touches s _) (by decide) p))

theorem chargeDays (h : KeptByWorks P) (t : Tariff) {s : State} (p : P s) : P (chargeDays t s) := by
  have move : ∀ x u, P u → P (pageTariff (u.withTariff x)) := fun x u =>
    h.beside (bs := [.store, .tariff]) (by simp) (by decide)
  unfold Machine.chargeDays
  dsimp only
  split
  · exact move _ _ p
  · exact iteInduction (fun _ => move _ _ (iteInduction (fun _ => h.dailyDebit _ p) fun _ => p)) fun _ => p

theorem tariffMinute (h : KeptByWorks P) {s : State} (p : P s) : P (tariffMinute s) := by
  unfold Machine.tariffMinute
  split
  · exact iteInduction (fun _ => h.chargeDays _ (h.beside (rollover_touches s _) (by decide) p)) fun _ => p
  · exact p

theorem tariffTick (h : KeptByWorks P) (minute : Bool) {s : State} (p : P s) : P (tariffTick minute s) := by
  have second : P (tariffSecond s) := h.beside (tariffSecond_touches s) (by decide) p
  exact iteInduction (fun _ => h.beside (pageBlockBand_touches _) (by decide) (h.tariffMinute second)) fun _ => second

theorem setClock (h : KeptByWorks P) (new : Nat) {s : State} (p : P s) : P (setClock new s) := by
  unfold Machine.setClock
  dsimp only
  have paged : P (pageBlockBand (pageCalendar (pageClock (s.withClock { s.clock with count := new, valid := true })))) :=
    h.beside (bs := [.store, .clock]) (by simp) (by decide) p
  have noticed := iteInduction (c := setClass s.clock new = .trim) (motive := P) (fun _ => paged) fun _ =>
    h.beside (clockStepNotice_touches _ s.clock new) (by decide) paged
  have warned := iteInduction (c := setsBack s.clock new = true) (motive := P)
    (fun _ => h.clockBack (stepMagnitude s.clock new) noticed) fun _ => noticed
  exact h.evaluate _ (iteInduction (fun _ => warned) fun _ => h.beside (turnPeriod_touches _ _) (by decide) warned)

/-! ### The second tick -/

theorem supplySecond (h : KeptByWorks P) {s : State} (p : P s) : P (supplySecond s) := by
  refine h.countedPage _ rfl rfl ?_ id p
  cases s.supply.overload with
  | none => rfl
  | latched => rfl
  | waiting r => dsimp only; split <;> simp

theorem recloseWork (h : KeptByWorks P) {s : State} (p : P s) : P (recloseWork s) :=
  iteInduction (fun _ => h.endOverload p) fun _ => p

theorem retryWork (h : KeptByWorks P) {s : State} (p : P s) : P (retryWork s) :=
  iteInduction (fun _ => h.enterOpening _ p) fun _ => p

theorem latchWork (h : KeptByWorks P) {s : State} (p : P s) : P (latchWork s) :=
  iteInduction (fun _ => h.endOverload p) fun _ => p

theorem tickCounts (h : KeptByWorks P) {s : State} (p : P s) : P (tickCounts s) := by
  have counted : P (Machine.supplySecond (idleSecond (lockSecond (clockPage s)))) :=
    h.supplySecond (h.beside (bs := [.store, .code]) (by simp) (by decide) p)
  have announced := h.beside (withClock_touches _
    (Machine.supplySecond (idleSecond (lockSecond (clockPage s)))).clock.announce) (by decide) counted
  exact iteInduction (fun _ => h.countedPage _ rfl rfl Iff.rfl id announced) fun _ => announced

theorem offerTick (h : KeptByWorks P) (ended : Bool) {s : State} (p : P s) : P (offerTick ended s) := by
  have counted : P (if ended then calendarEndNotice (Machine.tickCounts s) else Machine.tickCounts s) :=
    iteInduction (fun _ => h.beside (calendarEndNotice_touches _) (by decide) (h.tickCounts p)) fun _ => h.tickCounts p
  refine inAnyOrder_of (fun u n => h.beside (withFreeCount_touches u n) (by decide)) (fun w hw u q => ?_) counted
  rcases mem_tickWorks s hw with rfl | rfl | rfl | rfl | rfl | rfl
  · exact h.tariffTick _ q
  · exact h.latchWork q
  · exact h.recloseWork q
  · exact h.retryWork q
  · exact h.evaluate _ q
  · exact h.beside (profileMinute_touches u) (by decide) q

theorem advanceClock (h : KeptByWorks P) {s : State} (p : P s) : P (advanceClock s) := by
  have ticked : P (s.withClock s.clock.tick) := h.beside (withClock_touches _ _) (by decide) p
  exact iteInduction (fun _ => h.offerTick _ ticked) fun _ =>
    iteInduction (fun _ => h.beside (pageCalendar_touches _) (by decide) ticked) fun _ => ticked

/-! ### Frames -/

theorem batteryFrame (h : KeptByWorks P) (f : Frame) {s : State} (p : P s) : P (batteryFrame f s) := by
  have only := batteryFrame_touches s f
  have tamper : (Machine.batteryFrame f s).tamper = s.tamper := only .tamper (by decide)
  obtain ⟨-, state, stage⟩ := batteryFrame_frameStands f s
  exact h.stands ⟨only.credit_eq (by decide), only.supply_eq (by decide), by rw [tamper], state, stage⟩ p

theorem offerFrame (h : KeptByWorks P) (f : Frame) {s : State} (p : P s) : P (offerFrame f s) := by
  have picked : P (freePick ((takingOrders f s).map fun o => runAll o s) s) := by
    refine freePick_of (fun u n => h.beside (withFreeCount_touches u n) (by decide)) p fun r hr => ?_
    obtain ⟨o, ho, rfl⟩ := List.mem_map.mp hr
    refine runAll_of (fun w hw u q => ?_) p
    rcases mem_takingOrders ho hw with rfl | rfl | rfl | rfl
    · exact h.tamperFrame f q
    · exact h.energyFrame f q
    · exact h.batteryFrame f q
    · exact h.supplyFrame f _ q
  exact h.beside (bs := [.store, .profile]) (by simp [Machine.offerFrame]) (by decide) picked

theorem closeFrame (h : KeptByWorks P) (m : Means) {s : State} (p : P s) : P (closeFrame m s) :=
  h.offerFrame _ (h.beside (bs := [.front, .conv]) (by simp) (by decide) p)

theorem closeFinalFrame (h : KeptByWorks P) (elapsed : Nat) (m : Means) {s : State} (p : P s) :
    P (closeFinalFrame elapsed m s) := by
  unfold Machine.closeFinalFrame
  dsimp only
  have put : P (putFrame (makeFrame (gather elapsed m s)) (gather elapsed m s)) :=
    h.beside (bs := [.front, .conv]) (by simp) (by decide) p
  exact h.beside (profileFrame_touches _ _) (by decide) (h.batteryFrame _ (h.energyFrame _ (h.tamperFrame _ put)))

end KeptByWorks
end Sys2Proof.Machine
end

section
/-! SUPPORT. A property kept by the works of the account, the cause set, the machine and the tamper records is kept by
requests, codes, the keypad, the power logic, and so by every command and every step. -/

namespace Sys2Proof.Machine.KeptByWorks

variable {P : State → Prop}

/-! ### Posted slips and host writes (R176 to R185) -/

theorem takeClockSet (h : KeptByWorks P) (n : Fin 16) {s : State} (p : P s) : P (takeClockSet n s) := by
  have taken : P (markTaken n s) := h.beside (markTaken_touches s n) (by decide) p
  exact iteInduction (fun _ => h.beside (completeSlip_touches _ _ _ _) (by decide) taken) fun _ =>
    h.beside (completeSlip_touches _ _ _ _) (by decide) (h.setClock _ taken)

theorem takeSupplyOrder (h : KeptByWorks P) (n : Fin 16) {s : State} (p : P s) : P (takeSupplyOrder n s) := by
  have taken : P (markTaken n s) := h.beside (markTaken_touches s n) (by decide) p
  exact iteInduction (fun _ => h.beside (completeSlip_touches _ _ _ _) (by decide) (h.order _ taken)) fun _ =>
    h.beside (completeSlip_touches _ _ _ _) (by decide) taken

theorem installSettings (h : KeptByWorks P) (g : Settings) {s : State} (p : P s) : P (installSettings g s) := by
  have cleared : P (clearWindows s.settings g (s.withSettings g)) := by
    have installed : P (s.withSettings g) := h.beside (withSettings_touches s g) (by decide) p
    exact iteInduction (fun _ => h.tamperBeside rfl installed) fun _ => installed
  exact h.evaluate _ (h.beside (judgeIdle_touches _) (by decide) cleared)

theorem settingsWrite (h : KeptByWorks P) (n : Fin 16) (off : Nat) {s : State} (p : P s) :
    P (settingsWrite n off s) := by
  unfold Machine.settingsWrite
  dsimp only
  split
  · exact h.beside (completeSlip_touches _ _ _ _) (by decide) p
  · exact h.beside (completeSlip_touches _ _ _ _) (by decide) (h.installSettings _ p)

theorem takeSettings (h : KeptByWorks P) (n : Fin 16) {s : State} (p : P s) : P (takeSettings n s) := by
  have taken : P (markTaken n s) := h.beside (markTaken_touches s n) (by decide) p
  have refused : P (completeSlip n .badArgument [] (markTaken n s)) :=
    h.beside (completeSlip_touches _ _ _ _) (by decide) taken
  exact iteInduction (fun _ => iteInduction (fun _ => h.settingsWrite _ _ taken) fun _ =>
    iteInduction (fun _ => h.beside (settingsFetch_touches _ _ _) (by decide) taken) fun _ => refused) fun _ => refused

theorem takeSlip (h : KeptByWorks P) (n : Fin 16) {s : State} (p : P s) : P (takeSlip n s) := by
  unfold Machine.takeSlip
  split
  · exact h.beside (takeCodeSlip_touches s n) (by decide) p
  · exact h.beside (takeCodeSlip_touches s n) (by decide) p
  · exact h.beside (takeTariffLoad_touches s n) (by decide) p
  · exact h.takeClockSet n p
  · exact h.takeSupplyOrder n p
  · exact h.takeSettings n p
  · exact h.beside (takeProfileSetup_touches s n) (by decide) p
  · exact h.beside (takeCapture_touches s n) (by decide) p
  · exact h.beside (takeUnknown_touches s n) (by decide) p

theorem hostState (h : KeptByWorks P) (n : Fin 16) (b : Byte) {s : State} (p : P s) : P (hostState n b s) := by
  unfold Machine.hostState
  split
  · have posted : P (putSlipState n .posted (s.withLink { s.link with waiting := s.link.waiting ++ [n] })) :=
      h.beside (putSlipState_touches _ _ _) (by decide) (h.beside (withLink_touches s _) (by decide) p)
    exact iteInduction (fun _ => h.takeSlip n posted) fun _ => posted
  · exact h.beside (putSlipState_touches _ _ _) (by decide) (h.beside (withLink_touches s _) (by decide) p)
  · exact h.beside (attnUpdate_touches _) (by decide) (h.beside (putSlipState_touches _ _ _) (by decide) p)
  · exact h.beside (collide_touches _ _) (by decide) p

/-- A byte of the host is refused, stored, or moves a slip's state. -/
theorem hostByte (h : KeptByWorks P) (a : Nat) (b : Byte) {s : State} (p : P s) : P (hostByte a b s) := by
  have refused : P (collide a s) := h.beside (collide_touches s a) (by decide) p
  have put : P (putByte a b s) := h.beside (putByte_touches s a b) (by decide) p
  have noted : P (attnUpdate (putByte a b s)) := h.beside (attnUpdate_touches _) (by decide) put
  have either : ∀ {q : Prop} [Decidable q] {t u : State}, P t → P u → P (if q then t else u) := fun p q =>
    iteInduction (fun _ => p) fun _ => q
  exact either refused (either refused (either (either noted refused) (either put (either (either (h.hostState _ b p)
    (either put refused)) (either refused (either refused put))))))

theorem hostBytes (h : KeptByWorks P) (a : Nat) (bytes : List Byte) {s : State} (p : P s) : P (hostBytes a bytes s) := by
  induction bytes generalizing a s with
  | nil => exact p
  | cons b bytes ih => exact ih _ (h.hostByte _ b p)

theorem storeWrite (h : KeptByWorks P) (addr : Nat) (data : List Byte) {s : State} (p : P s) :
    P (storeWrite addr data s) := by
  have shifted : P (withDataOut [] s) := h.beside (withDataOut_touches s []) (by decide) p
  exact iteInduction (fun _ => h.hostBytes _ _ shifted) fun _ => shifted

theorem postFilled (h : KeptByWorks P) (n : Fin 16) (kind : Byte) (args : List Byte) {s : State} (p : P s) :
    P (postFilled n kind args s) := by
  have shifted : P (withDataOut [] s) := h.beside (withDataOut_touches s []) (by decide) p
  exact iteInduction (fun _ => h.hostBytes _ _ (h.hostBytes _ _ (h.hostBytes _ _ shifted))) fun _ => shifted

/-! ### Codes and the keypad (R85 to R110) -/

theorem applyCode (h : KeptByWorks P) {c : Code} {s : State} (room : c.cls = 1 → overCap s.credit c.value = false)
    (p : P s) : P (applyCode c s) := by
  unfold Machine.applyCode
  split
  · rename_i cls
    exact h.addCredit (room cls) p
  · exact h.clearTamper _ _ p
  · exact h.applyPowerLimit _ p
  · exact h.setEmergencyAmount _ p
  · exact h.resetCredit p
  · exact p

/-- A code's effects, as it is judged in the state that it finds. -/
theorem settleCode (h : KeptByWorks P) (chars : List Byte) {s : State} (p : P s) :
    P (settleCode (judgeCode chars s).1 (judgeCode chars s).2 s) := by
  have coded : ∀ f u, P u → P (pageCode (overCode f u)) := fun f u q =>
    h.beside (pageCode_touches _) (by decide) (h.beside (overCode_touches u f) (by decide) q)
  generalize judged : judgeCode chars s = j
  obtain ⟨v, c⟩ := j
  unfold Machine.settleCode
  dsimp only
  split
  · refine coded _ _ (h.applyCode (fun cls => ?_) p)
    exact overCap_of_judgeFields (judgeCode_ok judged) cls
  · exact coded _ _ p
  · exact p

theorem finishDecode (h : KeptByWorks P) (src : Source) (chars : List Byte) {s : State} (p : P s) :
    P (finishDecode src chars s) :=
  h.beside (arbitrate_touches _) (by decide) (h.beside (reportDecode_touches _ _ _ _ _) (by decide) (h.settleCode _ p))

theorem pressEnter (h : KeptByWorks P) {s : State} (p : P s) : P (pressEnter s) := by
  have answered : ∀ e v d u, P u → P (keypadOutcome e v d u) := fun e v d u =>
    h.beside (keypadOutcome_touches u e v d) (by decide)
  have cleared : ∀ u, P u → P (clearLine u) := fun u => h.beside (clearLine_touches u) (by decide)
  unfold Machine.pressEnter
  dsimp only
  exact iteInduction (fun _ => answered _ _ _ _ (h.takeConfirm p)) fun _ =>
    iteInduction (fun _ => answered _ _ _ _ (cleared _ (h.takeEmergency p))) fun _ =>
      iteInduction (fun _ => h.beside (submitLine_touches s) (by decide) p) fun _ => answered _ _ _ _ (cleared _ p)

theorem pressKey (h : KeptByWorks P) (k : Key) {s : State} (p : P s) : P (pressKey k s) := by
  cases k with
  | digit d => exact h.beside (overCode_touches s _) (by decide) p
  | erase => exact h.beside (overCode_touches s _) (by decide) p
  | enter => exact h.pressEnter p

theorem scanPress (h : KeptByWorks P) (k : Key) {s : State} (p : P s) : P (scanPress k s) := by
  have coded : ∀ f u, P u → P (overCode f u) := fun f u => h.beside (overCode_touches u f) (by decide)
  exact iteInduction (fun _ => p) fun _ => iteInduction
    (fun _ => h.beside (pageEntry_touches _) (by decide) (h.pressKey k (coded _ _
      (h.beside (raise_touches _ .keypad) (by decide) (coded _ _ p)))))
    fun _ => coded _ _ p

/-! ### The power logic (R164 to R174) -/

/-- The account, the causes and the overload stand where the start-up is not past its step 3, or mains is absent. -/
theorem dimmed (h : KeptByWorks P) {bs : List Block} {s t : State} (only : OnlyTouches bs s t)
    (m : ∀ b ∈ [Block.credit, .supply], b ∉ bs) (unlit : lampDriven t = false) (p : P s) : P t := by
  have supply := only.supply_eq (m _ (by decide))
  exact h.unlit ⟨only.credit_eq (m _ (by decide)), by rw [supply], by rw [supply], unlit⟩ p

/-- An update of the power logic that keeps the power state and the stage. -/
theorem powered (h : KeptByWorks P) (f : Power → Power) {s : State} (state : (f s.power).state = s.power.state)
    (stage : (f s.power).stage = s.power.stage) (p : P s) : P (overPower f s) :=
  h.stands (s := s) ⟨rfl, rfl, rfl, state, stage⟩ p

theorem holdupWork (h : KeptByWorks P) {s : State} (p : P s) : P (holdupWork s) := by
  have cut : ∀ u, OnlyTouches [.front, .conv, .energy, .tariff, .code, .freeCount] u
      (overCode CodeUnit.volatileReset (cutKeySet ((discardBacklog ((u.withFront { u.front with
        running := false, progress := Progress.empty }).withConv u.conv.abandon)).withTariff
          { u.tariff with load := none }))) := by simp
  have retried := h.counted (fun u => { u with retry := 0 }) rfl rfl Iff.rfl id (h.beside (cut s) (by decide) p)
  exact h.beside (savePeriod_touches _) (by decide)
    (iteInduction (fun _ => retried) fun _ => h.markUnverified retried)

theorem beginHoldup (h : KeptByWorks P) (reason : EntryReason) {s : State} (p : P s) : P (beginHoldup reason s) :=
  h.dimmed (beginHoldup_touches s reason) (by decide) rfl p

theorem loseMains (h : KeptByWorks P) (elapsed : Nat) (m : Means) {s : State} (p : P s) : P (loseMains elapsed m s) :=
  h.holdupWork (iteInduction (fun _ => h.closeFinalFrame _ m (h.beginHoldup _ p)) fun _ => h.beginHoldup _ p)

theorem enterWatch (h : KeptByWorks P) {s : State} (p : P s) : P (enterWatch s) :=
  h.dimmed (enterWatch_touches s) (by decide) rfl p

theorem loseDomain (h : KeptByWorks P) {s : State} (p : P s) : P (loseDomain s) :=
  h.stands (s := s) ⟨rfl, rfl, rfl, rfl, rfl⟩ p

theorem watchConversion (h : KeptByWorks P) (v : Nat) {s : State} (p : P s) : P (watchConversion v s) := by
  have written : ∀ c, P (s.withConv c) := fun c => h.beside (withConv_touches s c) (by decide) p
  exact iteInduction (fun _ => h.dimmed (enterDark_touches _ _) (by decide) rfl (written _)) fun _ =>
    iteInduction (fun _ => h.powered _ rfl rfl (written _)) fun _ => written _

theorem watchChange (h : KeptByWorks P) {s : State} (p : P s) : P (watchChange s) := by
  have woken := h.powered (fun q => { q with watch := .awake, holdTimer := s.settings.holdTime, wakeTimer := 0 })
    rfl rfl p
  exact iteInduction (fun _ => h.beside (withConv_touches _ _) (by decide) woken) fun _ => woken

theorem tryReverify (h : KeptByWorks P) {s : State} (p : P s) : P (tryReverify s) := by
  unfold Machine.tryReverify
  split
  · rename_i waits
    split
    · exact iteInduction (fun _ => h.startStep56 _ waits.1 waits.2 p) fun _ => p
    · exact p
  · exact p

theorem nextStep (h : KeptByWorks P) {s : State} (p : P s) : P (nextStep s) := by
  have unlit : ∀ {t : State} {x : Stage}, t.power.stage = x → x.num ≤ 3 → lampDriven t = false := by
    intro t x stage early
    simp only [lampDriven, stage, Bool.and_eq_false_iff, decide_eq_false_iff_not]
    omega
  have only3 := startStep3_touches s
  unfold Machine.nextStep
  split
  · exact h.startStep1 p
  · have stage : (startStep2 s).power.stage = .cleared := by
      unfold startStep2
      rw [(pageAll_touches _).power_eq (by decide)]
      rfl
    exact h.dimmed (startStep2_touches s) (by decide) (unlit stage (by decide)) p
  · exact h.dimmed only3 (by decide) (unlit (x := .replayed) rfl (by decide)) p
  · exact h.tryReverify (h.startStep4 p)
  · exact h.tryReverify p
  · exact p

theorem stepsTo (h : KeptByWorks P) (fuel upTo : Nat) {s : State} (p : P s) : P (stepsTo fuel upTo s) := by
  induction fuel generalizing s with
  | zero => exact p
  | succ fuel ih => exact iteInduction (fun _ => ih (h.nextStep p)) fun _ => p

theorem startUp (h : KeptByWorks P) (upTo : Nat) {s : State} (p : P s) : P (startUp upTo s) :=
  h.stepsTo 4 upTo (h.unlit (s := s) ⟨rfl, rfl, rfl, rfl⟩ p)

theorem idle (h : KeptByWorks P) {s : State} (p : P s) : P (idle s) :=
  iteInduction (fun _ => h.nextStep p) fun _ => p

theorem holdupEnds (h : KeptByWorks P) (upTo : Nat) {s : State} (p : P s) : P (holdupEnds upTo s) := by
  have ended : P (if s.supply.coil.isSome then Machine.endPulse s else s) :=
    iteInduction (fun _ => h.endPulse p) fun _ => p
  have done := h.powered (fun q => { q with holdupDone := true }) rfl rfl ended
  exact iteInduction (fun _ => h.enterWatch done) fun _ => iteInduction (fun _ => h.startUp upTo done) fun _ => done

/-! ### Every command -/

theorem exec (h : KeptByWorks P) (c : Instr) {s : State} (p : P s) : ∃ t, exec c s = .next t ∧ P t := by
  have pins : ∀ x, P (s.withPins x) := fun x => h.beside (withPins_touches s x) (by decide) p
  have still : ∀ {bs t}, OnlyTouches bs s t → (∀ b ∈ coreBlocks, b ∉ bs) → P t := fun only m => h.beside only m p
  cases c with
  | frameClose m => exact ⟨_, rfl, iteInduction (fun _ => h.closeFrame m p) fun _ => p⟩
  | conversionComplete v =>
    refine ⟨_, rfl, ?_⟩
    split
    · exact h.tryReverify (h.beside (withConv_touches s _) (by decide) p)
    · exact h.watchConversion v p
    · exact p
  | coilPulseEnd => exact ⟨_, rfl, iteInduction (fun _ => h.endPulse p) fun _ => p⟩
  | verifyWindowExpiry =>
    refine ⟨_, rfl, ?_⟩
    split
    · rename_i attempt
      exact iteInduction (fun _ => h.windowExpires attempt p) fun _ => p
    · exact p
  | retryTimerExpiry => exact ⟨_, rfl, iteInduction (fun _ => h.enterOpening _ p) fun _ => p⟩
  | secondTick => exact ⟨_, rfl, iteInduction (fun _ => h.advanceClock p) fun _ => p⟩
  | lockExpiry => exact ⟨_, rfl, iteInduction (fun _ => still (endLock_touches s) (by decide)) fun _ => p⟩
  | recloseWaitExpiry => exact ⟨_, rfl, iteInduction (fun _ => h.endOverload p) fun _ => p⟩
  | idleTimeout => exact ⟨_, rfl, iteInduction (fun _ => still (idleExpires_touches s) (by decide)) fun _ => p⟩
  | testPulseHighExpiry =>
    exact ⟨_, rfl, iteInduction (fun _ => still (pulseHighEnds_touches s) (by decide)) fun _ => p⟩
  | testPulseLowGapExpiry =>
    exact ⟨_, rfl, iteInduction (fun _ => still (pulseGapEnds_touches s) (by decide)) fun _ => p⟩
  | keyPress k => exact ⟨_, rfl, iteInduction (fun _ => h.scanPress k (pins _)) fun _ => pins _⟩
  | keyRelease k =>
    exact ⟨_, rfl, iteInduction (fun _ => h.beside (scanRelease_touches _ k) (by decide) (pins _)) fun _ => pins _⟩
  | decodeCompletion =>
    refine ⟨_, rfl, ?_⟩
    split
    · exact iteInduction (fun _ => h.finishDecode _ _ p) fun _ => p
    · exact p
  | keySetCompletion =>
    refine ⟨_, rfl, ?_⟩
    split
    · exact iteInduction (fun _ => still (finishKeySet_touches s _ _ _) (by decide)) fun _ => p
    · exact p
  | tariffLoadCompletion =>
    refine ⟨_, rfl, ?_⟩
    split
    · exact iteInduction (fun _ => h.beside (drainLoads_touches _ 16) (by decide)
        (still (finishLoad_touches s _) (by decide))) fun _ => p
    · exact p
  | switchChange w x =>
    exact ⟨_, rfl, iteInduction (fun _ => p) fun _ => iteInduction (fun _ => h.watchChange (pins _)) fun _ => pins _⟩
  | switchEvent w => exact ⟨_, rfl, iteInduction (fun _ => h.switchSettles w _ p) fun _ => p⟩
  | holdTimerExpiry => exact ⟨_, rfl, iteInduction (fun _ => h.powered _ rfl rfl p) fun _ => p⟩
  | timedWake =>
    exact ⟨_, rfl, iteInduction (fun _ => h.beside (withConv_touches _ _) (by decide) (h.powered _ rfl rfl p))
      fun _ => p⟩
  | mainsLoss elapsed m =>
    refine ⟨_, rfl, ?_⟩
    split
    · exact h.loseMains elapsed m (pins _)
    · exact iteInduction (fun _ => h.enterWatch (pins _)) fun _ => pins _
    · exact pins _
    · exact pins _
  | resetnLow => exact ⟨_, rfl, iteInduction (fun _ => h.holdupWork (h.beginHoldup _ (pins _))) fun _ => pins _⟩
  | holdupCompletion upTo => exact ⟨_, rfl, iteInduction (fun _ => h.holdupEnds _ p) fun _ => p⟩
  | resetnRelease upTo => exact ⟨_, rfl, iteInduction (fun _ => h.startUp _ (pins _)) fun _ => pins _⟩
  | mainsReturn upTo =>
    have clocked : P (powerClock (s.withPins { s.pins with mains := true })) :=
      h.beside (powerClock_touches _) (by decide) (pins _)
    exact ⟨_, rfl, iteInduction (fun _ => iteInduction (fun _ => h.startUp _ clocked) fun _ =>
      h.dimmed (holdInReset_touches _) (by decide) rfl clocked) fun _ => clocked⟩
  | reVerification => exact ⟨_, rfl, iteInduction (fun _ => h.tryReverify (h.stepsTo 4 4 p)) fun _ => p⟩
  | storeRead a r => exact ⟨_, rfl, still (withDataOut_touches s _) (by decide)⟩
  | storeWrite a l => exact ⟨_, rfl, h.storeWrite _ l p⟩
  | topup n l => exact ⟨_, rfl, h.postFilled n _ _ p⟩
  | keySet n k => exact ⟨_, rfl, h.postFilled n _ _ p⟩
  | tariffLoad n o => exact ⟨_, rfl, h.postFilled n _ _ p⟩
  | clockSet n x => exact ⟨_, rfl, h.postFilled n _ _ p⟩
  | supplyOrderOpen n => exact ⟨_, rfl, h.postFilled n _ _ p⟩
  | supplyOrderRelease n => exact ⟨_, rfl, h.postFilled n _ _ p⟩
  | settingsWrite n o => exact ⟨_, rfl, h.postFilled n _ _ p⟩
  | settingsFetch n o => exact ⟨_, rfl, h.postFilled n _ _ p⟩
  | profileSetup n o c d r => exact ⟨_, rfl, h.postFilled n _ _ p⟩
  | capture n => exact ⟨_, rfl, h.postFilled n _ _ p⟩
  | slipKindUnknown n k => exact ⟨_, rfl, h.postFilled n _ _ p⟩
  | apendRead r => exact ⟨_, rfl, still (regRead_touches s _ _) (by decide)⟩
  | aackWrite l => exact ⟨_, rfl, still (regWrite_touches s _ l) (by decide)⟩
  | aconfWrite l => exact ⟨_, rfl, still (regWrite_touches s _ l) (by decide)⟩
  | clearCollision => exact ⟨_, rfl, still (regWrite_touches s _ _) (by decide)⟩
  | linkReset b => exact ⟨_, rfl, still (regWrite_touches s _ _) (by decide)⟩
  | regWriteIgnored a l => exact ⟨_, rfl, still (regWrite_touches s _ l) (by decide)⟩
  | operationIgnored o n => exact ⟨_, rfl, still (withDataOut_touches s _) (by decide)⟩
  | attnPulseEnd => exact ⟨_, rfl, iteInduction (fun _ => still (withLink_touches s _) (by decide)) fun _ => p⟩
  | batteryRemoved => exact ⟨_, rfl, iteInduction (fun _ => h.loseDomain (pins _)) fun _ => pins _⟩
  | batteryFitted =>
    have fitted := h.powered (fun q => { q with fitted := true }) rfl rfl (pins { s.pins with battery := true })
    exact ⟨_, rfl, iteInduction (fun _ => h.powered _ rfl rfl (h.beside (withClock_touches _ _) (by decide) fitted))
      fun _ => fitted⟩

/-- The command at the front of the queue, or idling, keeps the property. -/
theorem step (h : KeptByWorks P) {s t : State} (run : step s = .next t) (p : P s) : P t := by
  unfold Machine.step at run
  split at run
  · rename_i c rest _
    obtain ⟨u, commanded, q⟩ := h.exec c (h.beside (withPending_touches s rest) (by decide) p)
    obtain rfl : u = t := by simpa [commanded] using run
    exact q
  · obtain rfl : Machine.idle s = t := by simpa using run
    exact h.idle p

end Sys2Proof.Machine.KeptByWorks
end

section
/-! PROOF. The account's ranges over every step (R63, R64, R66, R67, R107): the debits stop at the floor, an addition is
judged against the cap, an amount is clamped, and a first start begins at zero. -/

namespace Sys2Proof.Machine

/-- The account of a state lies in its ranges. -/
def accountInRange (s : State) : Prop := s.credit.inRange

theorem accountInRange_of {s t : State} (credit : t.credit = s.credit) (range : accountInRange s) : accountInRange t := by
  rw [accountInRange, credit]
  exact range

theorem OnlyTouches.accountInRange {bs : List Block} {s t : State} (h : OnlyTouches bs s t) (m : Block.credit ∉ bs)
    (range : accountInRange s) : accountInRange t := accountInRange_of (h.credit_eq m) range

theorem evaluateCredit_accountInRange (x : CreditTrigger) {s : State} (range : accountInRange s) :
    accountInRange (evaluateCredit x s) := by
  rw [accountInRange, evaluateCredit_credit]
  exact range

theorem Credit.factory_inRange : Credit.factory.inRange := by
  unfold Credit.inRange Credit.factory
  decide

/-- A first start makes the account anew; any other leaves it (R82, R170). -/
theorem startStep1_credit (s : State) :
    (startStep1 s).credit = if retainedValid s.power then s.credit else Credit.factory := by
  have settle : ∀ (b : Bool) (u : State), (if b then settleFromRecords u else u).credit = u.credit := by
    intro b u
    split <;> rfl
  have judged : (startStep1 s).credit = (if retainedValid s.power then s else factoryState s).credit := settle _ _
  rw [judged]
  split <;> rfl

theorem startStep4_accountInRange {s : State} (range : accountInRange s) : accountInRange (startStep4 s) := by
  have evaluated := evaluateCredit_accountInRange .start range
  have rebuilt : OnlyTouches [.store, .conv, .supply, .link, .strip, .profile, .power] (evaluateCredit .start s)
      (startStep4 s) := by
    simp [startStep4, startCredit]
  exact rebuilt.accountInRange (by decide) evaluated

theorem accountInRange_kept : KeptByWorks accountInRange where
  stands h := accountInRange_of h.credit
  unlit h := accountInRange_of h.credit
  account inRange _ := inRange
  evaluate x _ := evaluateCredit_accountInRange x
  order b _ := (setCause_touches _ .order b).accountInRange (by decide)
  records _ := id
  kindOn k more _ := (kindOn_touches _ k more).accountInRange (by decide)
  clearTamper named sequence _ := (clearTamper_touches _ named sequence).accountInRange (by decide)
  supply _ _ _ _ := id
  change m x u _ _ := (changeMachine_touches _ m x u).accountInRange (by decide)
  endOverload := (endOverload_touches _).accountInRange (by decide)
  overloadTrip power _ := (overloadTrip_touches _ power).accountInRange (by decide)
  startStep1 {s} range := by
    rw [accountInRange, startStep1_credit]
    split
    · exact range
    · exact Credit.factory_inRange
  startStep4 := startStep4_accountInRange
  startStep56 v _ _ _ := (startStep56_touches _ v).accountInRange (by decide)

/-- Settles O27: every work keeps the account in its ranges, and so does every step. -/
theorem accountStaysInRange : Obligations.AccountStaysInRange := by
  unfold Obligations.AccountStaysInRange
  exact fun _ _ run range => accountInRange_kept.step run range

end Sys2Proof.Machine
end

section
/-! SUPPORT. The tamper records after a record is put, and after a clear by code (R139, R159, R161). -/

namespace Sys2Proof.Machine

theorem TamperRecords.get_set (r : TamperRecords) (k j : TamperKind) (x : TamperRecord) :
    (r.set k x).get j = if j = k then x else r.get j := by
  cases k <;> cases j <;> rfl

theorem TamperRecords.get_set_same (r : TamperRecords) (k : TamperKind) (x : TamperRecord) : (r.set k x).get k = x := by
  rw [TamperRecords.get_set, if_pos rfl]

theorem putRecord_records (k : TamperKind) (r : TamperRecord) (s : State) :
    (putRecord k r s).tamper.records = s.tamper.records.set k r := by
  have page : ∀ u, (pageLamp (pageRecord k u)).tamper = u.tamper := fun u =>
    OnlyTouches.trans (bs := [.store]) (pageRecord_touches u k) (pageLamp_touches _) .tamper (by decide)
  rw [putRecord, page]
  rfl

/-- A record is cleared once. -/
theorem TamperRecord.cleared_cleared (r : TamperRecord) : r.cleared.cleared = r.cleared := by
  unfold TamperRecord.cleared
  by_cases latched : r.status = .latched <;> simp [latched]

theorem cleared_clear {r : TamperRecord} (clear : r.status = .clear) : r.cleared.status = .clear := by
  simp [TamperRecord.cleared, clear]

/-- The kinds' records cleared, one after another (R159). -/
def clearRecords (kinds : List TamperKind) (s : State) : State :=
  kinds.foldl (fun s k => putRecord k (s.tamper.records.get k).cleared s) s

theorem clearRecords_touches (kinds : List TamperKind) (s : State) : OnlyTouches [.store, .tamper] s (clearRecords kinds s) :=
  List.foldlRecOn _ _ (OnlyTouches.refl _ s) fun u h k _ => h.trans (putRecord_touches u k _)

theorem clearRecords_get (kinds : List TamperKind) (s : State) (j : TamperKind) :
    (clearRecords kinds s).tamper.records.get j =
      if j ∈ kinds then (s.tamper.records.get j).cleared else s.tamper.records.get j := by
  induction kinds generalizing s with
  | nil => rfl
  | cons k kinds ih =>
    have first : clearRecords (k :: kinds) s = clearRecords kinds (putRecord k (s.tamper.records.get k).cleared s) := rfl
    rw [first, ih, putRecord_records, TamperRecords.get_set]
    by_cases same : j = k
    · subst same
      simp [TamperRecord.cleared_cleared]
    · simp [same]

/-- The LATCHED ones of the named records cleared and told, before the cause set follows (R159). -/
def clearTold (named : List TamperKind) (sequence : Nat) (s : State) : State :=
  let cleared := clearedKinds s.tamper.records named
  let removed := cleared.any disconnecting && !disconnects (clearRecords cleared s).tamper.records
  if cleared.isEmpty then clearRecords cleared s
  else notice .tamperCleared 0 ([kindSet cleared, kindSet (keptKinds s.tamper.records named)] ++ leBytes 3 sequence ++
    [flagsByte [removed]]) (clearRecords cleared s)

section
variable (named : List TamperKind) (sequence : Nat) (s : State)

theorem clearTold_tells :
    OnlyTouches [.store, .link, .strip] (clearRecords (clearedKinds s.tamper.records named) s)
      (clearTold named sequence s) := by
  simp [clearTold, apply_ite (OnlyTouches _ _)]

theorem clearTold_tamper :
    (clearTold named sequence s).tamper = (clearRecords (clearedKinds s.tamper.records named) s).tamper :=
  clearTold_tells named sequence s .tamper (by decide)

theorem clearTold_touches : OnlyTouches [.store, .tamper, .link, .strip] s (clearTold named sequence s) :=
  ((clearRecords_touches _ s).mono (by decide)).trans ((clearTold_tells named sequence s).mono (by decide))

theorem clearTold_get (j : TamperKind) :
    (clearTold named sequence s).tamper.records.get j =
      if j ∈ clearedKinds s.tamper.records named then (s.tamper.records.get j).cleared else s.tamper.records.get j := by
  rw [clearTold_tamper, clearRecords_get]

/-- TAMPER is taken out where one of the cleared kinds disconnected and none does any more (R161). -/
theorem clearTamper_eq :
    clearTamper named sequence s =
      if (clearedKinds s.tamper.records named).any disconnecting &&
          !disconnects (clearTold named sequence s).tamper.records
      then setCause .tamper false (clearTold named sequence s) else clearTold named sequence s := by
  rw [clearTold_tamper]
  rfl

theorem clearTamper_tamper : (clearTamper named sequence s).tamper = (clearTold named sequence s).tamper := by
  rw [clearTamper_eq]
  split
  · exact setCause_touches _ .tamper false .tamper (by decide)
  · rfl

end

end Sys2Proof.Machine
end

section
/-! PROOF. The cause set tells what stands, and the machine is CLOSED, ready to close or verifying a close only over an
empty set (R73, R114, R118, R131, R156): each work keeps it, and so does every step. -/

namespace Sys2Proof.Machine

/-- The supply controller tells of an overload, and, from the cause-recomputation step on, of credit exhausted and of a
disconnecting tamper kind as the two propositions say; and its machine is safe. -/
structure SupplyTells (s : State) (exhausted disconnected : Prop) : Prop where
  overload : s.supply.causes.overload = true ↔ s.supply.overload ≠ .none
  credit : lampDriven s = true → (s.supply.causes.credit = true ↔ exhausted)
  tamper : lampDriven s = true → (s.supply.causes.tamper = true ↔ disconnected)
  machine : machineSafe s

/-- What it tells is what the credit unit and the tamper watch hold. -/
def supplyWell (s : State) : Prop :=
  SupplyTells s (s.credit.state = .exhausted) (disconnects s.tamper.records = true)

theorem supplyWell_iff (s : State) : supplyWell s ↔ causesTell s ∧ machineSafe s :=
  ⟨fun ⟨overload, credit, tamper, machine⟩ => ⟨⟨overload, fun lit => ⟨credit lit, tamper lit⟩⟩, machine⟩,
   fun ⟨⟨overload, told⟩, machine⟩ => ⟨overload, fun lit => (told lit).1, fun lit => (told lit).2, machine⟩⟩

theorem lampDriven_of_isRunning {s : State} (running : isRunning s = true) : lampDriven s = true := by
  obtain ⟨mains, stage⟩ : s.power.state = .mains ∧ s.power.stage = .running := by simpa [isRunning] using running
  simp [lampDriven, mains, stage, Stage.num]

theorem machineSafe_of_unlit {s : State} (unlit : lampDriven s = false) : machineSafe s := fun running => by
  rw [lampDriven_of_isRunning running] at unlit
  cases unlit

namespace SupplyTells

variable {s t : State} {e d : Prop}

/-- The supply controller and the link state stand, whatever the other blocks do. -/
theorem stands (h : SupplyTells s e d) (supply : t.supply = s.supply) (state : t.power.state = s.power.state)
    (stage : t.power.stage = s.power.stage) : SupplyTells t e d := by
  obtain ⟨overload, credit, tamper, machine⟩ := h
  exact ⟨by rw [supply]; exact overload, by rw [lampDriven, state, stage, supply]; exact credit,
    by rw [lampDriven, state, stage, supply]; exact tamper, by rw [machineSafe, isRunning, state, stage, supply]; exact machine⟩

theorem beside (h : SupplyTells s e d) {bs : List Block} (only : OnlyTouches bs s t)
    (m : ∀ b ∈ [Block.supply, .power], b ∉ bs) : SupplyTells t e d := by
  have power := only.power_eq (m _ (by decide))
  exact h.stands (only.supply_eq (m _ (by decide))) (by rw [power]) (by rw [power])

theorem congr {e' d' : Prop} (h : SupplyTells s e d) (credit : e ↔ e') (tamper : d ↔ d') : SupplyTells s e' d' :=
  propext credit ▸ propext tamper ▸ h

/-- Before the cause-recomputation step the overload alone is told. -/
theorem of_unlit (unlit : lampDriven s = false) (overload : s.supply.causes.overload = true ↔ s.supply.overload ≠ .none) :
    SupplyTells s e d :=
  ⟨overload, by simp [unlit], by simp [unlit], machineSafe_of_unlit unlit⟩

end SupplyTells

/-! ### The machine acts on the cause set -/

/-- Whatever it finds, the machine that has acted is safe (R116, R118, R122 to R124). -/
theorem actOnCauses_machineSafe (s : State) : machineSafe (actOnCauses s) := by
  have opening : ∀ x, machineSafe (enterOpening x s) := fun x _ moved => by simp at moved
  unfold actOnCauses
  split
  · exact opening _
  · rename_i empty
    exact fun _ _ => by simpa using empty
  · exact fun _ moved => by simp at moved
  · split
    · exact opening _
    · rename_i closing _ pulse
      exact fun _ moved => by simp [closing, pulse] at moved
  · rename_i empty
    exact fun _ _ => by simpa using empty
  · exact fun _ moved => by simp at moved
  · rename_i closed _ ready closing _ _
    intro _ moved
    rcases moved with state | state | ⟨state, -⟩
    · exact Bool.eq_true_of_not_eq_false (closed state)
    · exact Bool.eq_true_of_not_eq_false (ready state)
    · exact Bool.eq_true_of_not_eq_false (closing state)

theorem setCause_machineSafe (k : Cause) (b : Bool) {s : State} (safe : machineSafe s) : machineSafe (setCause k b s) := by
  unfold setCause
  split
  · exact safe
  · dsimp only
    split
    · exact actOnCauses_machineSafe _
    · rename_i stopped
      exact fun running => absurd running stopped

theorem setCause_overload (k : Cause) (b : Bool) (s : State) :
    (setCause k b s).supply.overload = s.supply.overload := congrArg History.overload (setCause_history k b s)

namespace SupplyTells

variable {s : State} {e d : Prop}

/-- A cause placed or removed, by what the set then tells. -/
theorem put {k : Cause} {b : Bool} {e' d' : Prop} (machine : machineSafe s)
    (overload : (s.supply.causes.put k b).overload = true ↔ s.supply.overload ≠ .none)
    (credit : lampDriven s = true → ((s.supply.causes.put k b).credit = true ↔ e'))
    (tamper : lampDriven s = true → ((s.supply.causes.put k b).tamper = true ↔ d')) :
    SupplyTells (setCause k b s) e' d' := by
  have lit : lampDriven (setCause k b s) = lampDriven s := by
    rw [lampDriven, (setCause_touches s k b).power_eq (by decide)]
    rfl
  refine ⟨?_, ?_, ?_, setCause_machineSafe k b machine⟩
  · rw [setCause_causes, setCause_overload]
    exact overload
  · rw [setCause_causes, lit]
    exact credit
  · rw [setCause_causes, lit]
    exact tamper

theorem setCredit (b : Bool) (h : SupplyTells s e d) : SupplyTells (setCause .credit b s) (b = true) d :=
  put h.machine h.overload (fun _ => Iff.rfl) h.tamper

theorem setTamper (b : Bool) (h : SupplyTells s e d) : SupplyTells (setCause .tamper b s) e (b = true) :=
  put h.machine h.overload h.credit fun _ => Iff.rfl

theorem setOrder (b : Bool) (h : SupplyTells s e d) : SupplyTells (setCause .order b s) e d :=
  put h.machine h.overload h.credit h.tamper

end SupplyTells

theorem supplyWell_stands {s t : State} (h : CoreStands s t) (well : supplyWell s) : supplyWell t := by
  obtain ⟨credit, supply, records, state, stage⟩ := h
  rw [supplyWell, credit, records]
  exact SupplyTells.stands well supply state stage

theorem setCause_disconnects (k : Cause) (b : Bool) (s : State) :
    disconnects (setCause k b s).tamper.records = disconnects s.tamper.records := by
  have tamper : (setCause k b s).tamper = s.tamper := setCause_touches s k b .tamper (by decide)
  rw [tamper]

/-! ### The account -/

/-- An evaluation tells CREDIT by the state it finds (R73). -/
theorem evaluateCredit_supplyWell (x : CreditTrigger) {s : State} (well : supplyWell s) :
    supplyWell (evaluateCredit x s) := by
  have paged : OnlyTouches [.store, .credit] s (pageCredit (s.withCredit (s.credit.evaluated s.settings s.clock))) := by
    simp
  have found : (evaluateCredit x s).credit = (pageCredit (s.withCredit (s.credit.evaluated s.settings s.clock))).credit := by
    rw [evaluateCredit_credit, (pageCredit_touches _).credit_eq (by decide)]
    rfl
  have tamper : (evaluateCredit x s).tamper = s.tamper := evaluateCredit_touches s x .tamper (by decide)
  rw [supplyWell, found, tamper]
  unfold evaluateCredit
  dsimp only
  generalize pageCredit (s.withCredit (s.credit.evaluated s.settings s.clock)) = u at paged ⊢
  have told := SupplyTells.beside well paged (by decide)
  have noted := told.beside (t := raise .credit (creditStateNotice s.credit.state x u)) (bs := [.store, .link, .strip])
    (by simp) (by decide)
  split
  · rename_i same
    exact same ▸ told
  · split
    · rename_i ends
      exact (noted.setCredit true).congr (by simp [ends]) Iff.rfl
    · rename_i lasts
      split
      · exact (noted.setCredit false).congr (by simp [lasts]) Iff.rfl
      · rename_i lasted
        exact noted.congr (by simp [lasts, lasted]) Iff.rfl

/-! ### The tamper watch -/

theorem activated_status (r : TamperRecord) (x : Stamp) (b : Bool) : (r.activated x b).status = .active := by
  unfold TamperRecord.activated
  split
  · rfl
  · rfl
  · assumption

/-- A disconnecting kind that is not CLEAR disconnects (R137, R156). -/
theorem disconnects_of_get {r : TamperRecords} {k : TamperKind} (kind : disconnecting k = true)
    (status : (r.get k).status ≠ .clear) : disconnects r = true := by
  rw [disconnects_iff]
  have cases : k = .caseOpen ∨ k = .bypass := by simpa [disconnecting] using kind
  rcases cases with rfl | rfl
  · exact .inl status
  · exact .inr status

/-- A kind that does not disconnect leaves what does. -/
theorem disconnects_set_other {r : TamperRecords} {k : TamperKind} (x : TamperRecord) (kind : disconnecting k = false) :
    disconnects (r.set k x) = disconnects r := by
  cases k with
  | caseOpen => simp [disconnecting] at kind
  | bypass => simp [disconnecting] at kind
  | _ => rfl

/-- A kind that turns ACTIVE tells TAMPER where it disconnects (R141, R156). -/
theorem kindOn_supplyWell (k : TamperKind) (more : List Byte) {s : State} (well : supplyWell s) :
    supplyWell (kindOn k more s) := by
  let r := (s.tamper.records.get k).activated (now s) false
  have active : (r : TamperRecord).status = .active := activated_status _ _ _
  let noted := profileTamper (raise .tamper (tamperOn k false (now s) (s.tamper.records.get k).status r.status r.count
    more (putRecord k r s)))
  have only : OnlyTouches [.store, .tamper, .link, .strip, .profile] s noted := by simp [noted]
  have later : OnlyTouches [.store, .link, .strip, .profile] (putRecord k r s) noted := by simp [noted]
  have put : noted.tamper = (putRecord k r s).tamper := later .tamper (by decide)
  have records : noted.tamper.records = s.tamper.records.set k r := by rw [put, putRecord_records]
  have told := SupplyTells.beside well only (by decide)
  have whole : kindOn k more s =
      if disconnecting k && decide ((s.tamper.records.get k).status = .clear) then setCause .tamper true noted
      else noted := rfl
  have now_active : disconnecting k = true → disconnects (s.tamper.records.set k r) = true := fun kind =>
    disconnects_of_get kind (by rw [TamperRecords.get_set_same, active]; simp)
  have credit : noted.credit = s.credit := only.credit_eq (by decide)
  rw [whole]
  split
  · rename_i enters
    simp only [Bool.and_eq_true, decide_eq_true_eq] at enters
    rw [supplyWell, setCause_disconnects, records, now_active enters.1,
      (setCause_touches noted .tamper true).credit_eq (by decide), credit]
    exact (told.setTamper true).congr Iff.rfl (by simp)
  · rename_i stays
    rw [supplyWell, credit, records]
    refine told.congr Iff.rfl ?_
    cases kind : disconnecting k with
    | false => rw [disconnects_set_other r kind]
    | true =>
      have before : disconnects s.tamper.records = true := disconnects_of_get kind (by simpa [kind] using stays)
      rw [before, now_active kind]

/-- A clear that leaves CASE and BYPASS both CLEAR, one of them cleared, takes TAMPER out (R159, R161). -/
theorem clearTamper_supplyWell (named : List TamperKind) (sequence : Nat) {s : State} (well : supplyWell s) :
    supplyWell (clearTamper named sequence s) := by
  have told := SupplyTells.beside well (clearTold_touches named sequence s) (by decide)
  have credit : (clearTamper named sequence s).credit = s.credit :=
    (clearTamper_touches s named sequence).credit_eq (by decide)
  have records := clearTold_get named sequence s
  rw [supplyWell, credit, clearTamper_tamper, clearTamper_eq]
  generalize clearTold named sequence s = u at *
  split
  · rename_i removed
    simp only [Bool.and_eq_true, Bool.not_eq_true'] at removed
    exact (told.setTamper false).congr Iff.rfl (by simp [removed.2])
  · rename_i stays
    refine told.congr Iff.rfl ⟨fun before => ?_, fun left => ?_⟩
    · by_contra none
      have untouched : ∀ k, disconnecting k = true → u.tamper.records.get k = s.tamper.records.get k := by
        intro k kind
        rw [records, if_neg fun mem => stays ?_]
        rw [Bool.and_eq_true, List.any_eq_true]
        exact ⟨⟨k, mem, kind⟩, by simpa using none⟩
      rw [disconnects_iff] at none before
      rw [show s.tamper.records.caseOpen = u.tamper.records.caseOpen from (untouched .caseOpen rfl).symm,
        show s.tamper.records.bypass = u.tamper.records.bypass from (untouched .bypass rfl).symm] at before
      exact none before
    · have stood : ∀ k, (u.tamper.records.get k).status ≠ .clear → (s.tamper.records.get k).status ≠ .clear := by
        intro k status clear
        rw [records] at status
        split at status
        · exact status (cleared_clear clear)
        · exact status clear
      rw [disconnects_iff] at left ⊢
      exact left.imp (stood .caseOpen) (stood .bypass)

/-! ### The supply controller -/

/-- An overload that begins or ends, with its cause (R131, R132). -/
theorem supplyWell_overload {s : State} (f : Supply → Supply) (b : Bool) (causes : (f s.supply).causes = s.supply.causes)
    (machine : (f s.supply).machine = s.supply.machine) (attempt : (f s.supply).attempt = s.supply.attempt)
    (overload : b = true ↔ (f s.supply).overload ≠ .none) (well : supplyWell s) :
    supplyWell (setCause .overload b (pageSupply (overSupply f s))) := by
  have only : OnlyTouches [.store, .supply] s (pageSupply (overSupply f s)) := by simp
  have moved : OnlyTouches [.store, .conv, .supply, .link, .strip, .profile] s
      (setCause .overload b (pageSupply (overSupply f s))) := by simp
  have supply : (pageSupply (overSupply f s)).supply = f s.supply := by simp
  have lit : lampDriven (pageSupply (overSupply f s)) = lampDriven s := by
    rw [lampDriven, only.power_eq (by decide)]
    rfl
  have tamper : (setCause .overload b (pageSupply (overSupply f s))).tamper = s.tamper := moved .tamper (by decide)
  rw [supplyWell, moved.credit_eq (by decide), tamper]
  refine SupplyTells.put ?_ ?_ ?_ ?_
  · rw [machineSafe, only.isRunning_eq (by decide), supply, causes, machine, inVerify, attempt]
    exact well.machine
  · rw [supply]
    exact overload
  · rw [lit, supply, causes]
    exact well.credit
  · rw [lit, supply, causes]
    exact well.tamper

theorem endOverload_supplyWell {s : State} (well : supplyWell s) : supplyWell (endOverload s) :=
  supplyWell_overload _ false rfl rfl rfl (by simp) well

theorem overloadTrip_supplyWell (power : Nat) {s : State} (well : supplyWell s) : supplyWell (overloadTrip power s) := by
  obtain ⟨x, trips, head, detail, begun, whole⟩ : ∃ x trips head detail, x ≠ Overload.none ∧
      overloadTrip power s = notice .overloadTrip head detail (setCause .overload true (pageSupply
        (overSupply (fun p => { p with overCount := 0, trips := trips, overload := x }) s))) := by
    refine ⟨_, _, _, _, ?_, rfl⟩
    split <;> simp
  rw [whole]
  exact supplyWell_stands ((notice_touches _ _ _ _).coreStands (by decide))
    (supplyWell_overload _ true rfl rfl rfl (by simpa using begun) well)

/-- Timers, limits and the attempt; a verify window begins only where no cause stands against a close. -/
theorem supply_supplyWell {s : State} {p : Supply} (causes : p.causes = s.supply.causes)
    (machine : p.machine = s.supply.machine) (overload : p.overload = .none ↔ s.supply.overload = .none)
    (verify : inVerify p = true →
      inVerify s.supply = true ∨ (s.supply.machine = .closing → s.supply.causes.isEmpty = true))
    (well : supplyWell s) : supplyWell (s.withSupply p) := by
  have supply : (s.withSupply p).supply = p := rfl
  refine ⟨?_, ?_, ?_, fun running moved => ?_⟩
  · rw [supply, causes, well.overload, ne_eq, ne_eq, overload]
  · rw [supply, causes]
    exact well.credit
  · rw [supply, causes]
    exact well.tamper
  · rw [supply, machine] at moved
    rw [supply, causes]
    rcases moved with closed | ready | ⟨closing, window⟩
    · exact well.machine running (.inl closed)
    · exact well.machine running (.inr (.inl ready))
    · rcases verify window with before | empty
      · exact well.machine running (.inr (.inr ⟨closing, before⟩))
      · exact empty closing

/-- CLOSED and AWAIT_CONFIRM are entered over an empty cause set, or by a verified close (R114, R118). -/
theorem changeMachine_supplyWell (m : MachineState) (x : SupplyTrigger) (u : Bool) {s : State}
    (entered : m = .closed ∨ m = .awaitConfirm →
      s.supply.causes.isEmpty = true ∨ s.supply.machine = .closing ∧ inVerify s.supply = true)
    (well : supplyWell s) : supplyWell (changeMachine m x u s) := by
  have only := changeMachine_touches s m x u
  have tamper : (changeMachine m x u s).tamper = s.tamper := only .tamper (by decide)
  have lit : lampDriven (changeMachine m x u s) = lampDriven s := by
    rw [lampDriven, only.power_eq (by decide)]
    rfl
  have supply := changeMachine_supply s m x u
  rw [supplyWell, only.credit_eq (by decide), tamper]
  refine ⟨?_, ?_, ?_, ?_⟩
  · rw [supply]
    exact well.overload
  · rw [lit, supply]
    exact well.credit
  · rw [lit, supply]
    exact well.tamper
  · rw [machineSafe, only.isRunning_eq (by decide), supply]
    intro running moved
    have enters : m = .closed ∨ m = .awaitConfirm := by simpa [inVerify] using moved
    rcases entered enters with empty | verified
    · exact empty
    · exact well.machine running (.inr (.inr verified))

/-! ### Start-up -/

/-- A first start makes the supply controller anew; any other leaves it (R135, R170). -/
theorem startStep1_supply (s : State) :
    (startStep1 s).supply = if retainedValid s.power then s.supply else Supply.factory := by
  have settle : ∀ (b : Bool) (u : State), (if b then settleFromRecords u else u).supply = u.supply := by
    intro b u
    split <;> rfl
  have judged : (startStep1 s).supply = (if retainedValid s.power then s else factoryState s).supply := settle _ _
  rw [judged]
  split <;> rfl

theorem startStep1_supplyWell {s : State} (well : supplyWell s) : supplyWell (startStep1 s) := by
  have early : lampDriven (startStep1 s) = false := Bool.and_false _
  refine SupplyTells.of_unlit early ?_
  rw [startStep1_supply]
  split
  · exact well.overload
  · simp [Supply.factory]

/-- The cause set rebuilt tells what stands (R83, R127). -/
theorem startStep4_supplyWell {s : State} (well : supplyWell s) :
    supplyWell (startStep4 s) := by
  let evaluated := evaluateCredit .start s
  let b := decide (evaluated.credit.state = .exhausted)
  let d := disconnects s.tamper.records
  let rebuilt := setCause .tamper d (setCause .credit b evaluated)
  have told := evaluateCredit_supplyWell .start well
  have page : OnlyTouches [.store, .power] rebuilt (startStep4 s) := by
    simp [startStep4, startCredit, rebuilt, b, d, evaluated]
  have set : OnlyTouches [.store, .conv, .supply, .link, .strip, .profile] evaluated rebuilt := by simp [rebuilt]
  have causes : rebuilt.supply.causes = (evaluated.supply.causes.put .credit b).put .tamper d := by
    rw [setCause_causes, setCause_causes]
  have overload : rebuilt.supply.overload = evaluated.supply.overload := by
    rw [setCause_overload, setCause_overload]
  have tamper : (startStep4 s).tamper = s.tamper := startStep4_touches s .tamper (by decide)
  have rest : (startStep4 s).power.stage ≠ .running := by
    have last : (startStep4 s).power.stage = .recomputed := by
      unfold startStep4
      rw [(pageSwitches_touches _).power_eq (by decide)]
      rfl
    simp [last]
  rw [supplyWell, page.credit_eq (by decide), set.credit_eq (by decide), tamper]
  refine ⟨?_, fun _ => ?_, fun _ => ?_, fun running => ?_⟩
  · rw [page.supply_eq (by decide), causes, overload]
    exact told.overload
  · rw [page.supply_eq (by decide), causes]
    exact decide_eq_true_iff
  · rw [page.supply_eq (by decide), causes]
    exact Iff.rfl
  · simp [isRunning, rest] at running

theorem resolveSupply_overload (loadV : Nat) (s : State) : (resolveSupply loadV s).supply.overload = s.supply.overload := by
  unfold resolveSupply
  dsimp only
  split <;> split <;> simp

/-- The machine is resolved to CLOSED or AWAIT_CONFIRM only over an empty cause set (R129). -/
theorem resolveMachine_empty {m : MachineState} {reads empty : Bool}
    (moved : resolveMachine m reads empty = .closed ∨ resolveMachine m reads empty = .awaitConfirm) : empty = true := by
  cases empty with
  | true => rfl
  | false => cases reads <;> simp [resolveMachine] at moved

theorem resolveMachine_ne_closing (m : MachineState) (reads empty : Bool) : resolveMachine m reads empty ≠ .closing := by
  cases reads <;> cases empty <;> cases m <;> simp [resolveMachine]

theorem startStep56_supplyWell (loadV : Nat) {s : State} (mains : s.power.state = .mains)
    (stage : s.power.stage = .recomputed) (well : supplyWell s) : supplyWell (startStep56 loadV s) := by
  have lit : lampDriven s = true := by simp [lampDriven, mains, stage, Stage.num]
  obtain ⟨-, -, -, -, causes, machine⟩ := startStep56_resolves loadV mains
  have overload : (startStep56 loadV s).supply.overload = s.supply.overload := by
    rw [startStep56, startStep6_supply, resolveSupply_overload]
    rfl
  have only := startStep56_touches s loadV
  have tamper : (startStep56 loadV s).tamper = s.tamper := only .tamper (by decide)
  rw [supplyWell, only.credit_eq (by decide), tamper]
  refine ⟨?_, fun _ => ?_, fun _ => ?_, fun _ moved => ?_⟩
  · rw [causes, overload]
    exact well.overload
  · rw [causes]
    exact well.credit lit
  · rw [causes]
    exact well.tamper lit
  · rw [causes]
    rw [machine] at moved
    rcases moved with closed | ready | ⟨closing, -⟩
    · exact resolveMachine_empty (.inl closed)
    · exact resolveMachine_empty (.inr ready)
    · exact absurd closing (resolveMachine_ne_closing _ _ _)

theorem supplyWell_kept : KeptByWorks supplyWell where
  stands := supplyWell_stands
  unlit h well := SupplyTells.of_unlit h.unlit (by rw [h.causes, h.overload]; exact well.overload)
  account {s} c _ state well := by
    have same : (s.withCredit c).credit.state = s.credit.state := state
    rw [supplyWell, same]
    exact SupplyTells.stands well rfl rfl rfl
  evaluate x _ := evaluateCredit_supplyWell x
  order b s well := by
    rw [supplyWell, setCause_disconnects, (setCause_touches s .order b).credit_eq (by decide)]
    exact SupplyTells.setOrder b well
  records {s} r same well := by
    have records : (s.withTamper { s.tamper with records := r }).tamper.records = r := rfl
    rw [supplyWell, records, same]
    exact SupplyTells.stands well rfl rfl rfl
  kindOn k more _ := kindOn_supplyWell k more
  clearTamper named sequence _ := clearTamper_supplyWell named sequence
  supply := supply_supplyWell
  change m x u _ := changeMachine_supplyWell m x u
  endOverload := endOverload_supplyWell
  overloadTrip power _ := overloadTrip_supplyWell power
  startStep1 := startStep1_supplyWell
  startStep4 := startStep4_supplyWell
  startStep56 v _ := startStep56_supplyWell v

/-- Settles O39: every work keeps the cause set true and the machine safe, and so does every step. -/
theorem supplyStaysSafe : Obligations.SupplyStaysSafe := by
  unfold Obligations.SupplyStaysSafe
  intro s t run safe
  exact (supplyWell_iff t).mp (supplyWell_kept.step run ((supplyWell_iff s).mpr safe))

end Sys2Proof.Machine
end

section
/-! PROOF. The friendly windows (R75), and an evaluation's finding (R71, R73, R77). -/

namespace Sys2Proof.Machine

/-! ### Friendly windows -/

theorem inDailyWindow_iff (a e m : Nat) :
    inDailyWindow a e m = true ↔ (a < e ∧ a ≤ m ∧ m < e) ∨ (e < a ∧ (a ≤ m ∨ m < e)) := by
  unfold inDailyWindow
  split
  · rw [decide_eq_true_iff]
    omega
  · split
    · rw [decide_eq_true_iff]
      omega
    · simp only [Bool.false_eq_true, false_iff]
      omega

theorem friendlyApplies_iff (c : Clock) (g : Settings) :
    friendlyApplies c g = true ↔ c.valid = true ∧
      ((g.friendlyStart < g.friendlyEnd ∧ g.friendlyStart ≤ c.count % 86400 / 60 ∧
          c.count % 86400 / 60 < g.friendlyEnd) ∨
       (g.friendlyEnd < g.friendlyStart ∧ (g.friendlyStart ≤ c.count % 86400 / 60 ∨
          c.count % 86400 / 60 < g.friendlyEnd)) ∨
       (g.weekend = true ∧ 5 ≤ (c.count / 86400 + 5) % 7)) := by
  rw [friendlyApplies, Bool.and_eq_true, Bool.or_eq_true, Bool.and_eq_true, inDailyWindow_iff, or_assoc, isWeekend,
    decide_eq_true_iff]
  rfl

/-- Settles O25: the table once, its worked windows from it, and the reading at an evaluation. -/
theorem friendlyWindowAppliesByTheMinute : Obligations.FriendlyWindowAppliesByTheMinute := by
  unfold Obligations.FriendlyWindowAppliesByTheMinute
  refine ⟨friendlyApplies_iff, fun c => ?_, fun c g valid start stop minute => ?_,
    fun c g valid weekend start stop minute => ?_, fun x s => ?_⟩
  · refine Bool.eq_false_of_not_eq_true fun applies => ?_
    simp [friendlyApplies_iff, Settings.default] at applies
  · rw [friendlyApplies_iff, start, stop]
    exact ⟨valid, .inr (.inl ⟨by decide, minute⟩)⟩
  · rw [friendlyApplies_iff, start, stop]
    refine ⟨valid, .inr ?_⟩
    rcases minute with ⟨-, evening⟩ | days | ⟨-, morning⟩
    · exact .inl ⟨by decide, .inl evening⟩
    · exact .inr ⟨weekend, days⟩
    · exact .inl ⟨by decide, .inr morning⟩
  · rw [evaluateCredit_credit]
    rfl

/-! ### The evaluation -/

/-- A changed credit state raises CREDIT (R73). -/
theorem evaluateCredit_raises (x : CreditTrigger) {s : State} (up : linkUp s = true)
    (changed : (evaluateCredit x s).credit.state ≠ s.credit.state) :
    (evaluateCredit x s).link.latched.getLsbD 6 = true := by
  let paged := pageCredit (s.withCredit (s.credit.evaluated s.settings s.clock))
  have found : paged.credit.state = (evaluateCredit x s).credit.state := by
    rw [evaluateCredit_credit, (pageCredit_touches _).credit_eq (by decide)]
    rfl
  let announced := raise .credit (creditStateNotice s.credit.state x paged)
  have only : OnlyTouches [.store, .credit, .link, .strip] s (creditStateNotice s.credit.state x paged) := by
    simp [paged]
  have raised : announced.link.latched.getLsbD 6 = true := by
    rw [raise_latched _ (by rw [only.linkUp_eq (by decide), up])]
    simp [AttnCause.mask, AttnCause.bit]
  have later : ∀ b, (setCause .credit b announced).link.latched.getLsbD 6 = true := fun b =>
    (workFrame_holds.setCause .credit b announced).link.latched 6 raised
  have whole : evaluateCredit x s =
      if paged.credit.state = s.credit.state then paged
      else if paged.credit.state = .exhausted then setCause .credit true announced
      else if s.credit.state = .exhausted then setCause .credit false announced
      else announced := rfl
  rw [whole, if_neg (by rw [found]; exact changed)]
  exact iteInduction (motive := fun t : State => t.link.latched.getLsbD 6 = true) (fun _ => later true) fun _ =>
    iteInduction (motive := fun t : State => t.link.latched.getLsbD 6 = true) (fun _ => later false) fun _ => raised

/-- The first row of R71 that matches, row by row. -/
theorem creditStateFor_rows (g : Settings) (friendly : Bool) (c : Credit) :
    ((g.lowCredit : Int) < c.balance → creditStateFor g friendly c = .normal) ∧
    (c.balance ≤ g.lowCredit → c.level < c.balance → creditStateFor g friendly c = .low) ∧
    (c.balance ≤ g.lowCredit → c.balance ≤ c.level → friendly = true → c.level - g.friendlyDebt < c.balance →
      creditStateFor g friendly c = .held) ∧
    (c.balance ≤ g.lowCredit → c.balance ≤ c.level → (friendly = false ∨ c.balance ≤ c.level - g.friendlyDebt) →
      creditStateFor g friendly c = .exhausted) := by
  unfold creditStateFor
  refine ⟨fun high => if_pos high, fun low above => ?_, fun low under lent near => ?_, fun low under ends => ?_⟩
  · rw [if_neg (not_lt.mpr low), if_pos above]
  · rw [if_neg (not_lt.mpr low), if_neg (not_lt.mpr under), if_pos (by simp [lent, near])]
  · rw [if_neg (not_lt.mpr low), if_neg (not_lt.mpr under), if_neg]
    rcases ends with none | far
    · simp [none]
    · simp [not_lt.mpr far]

theorem creditStateFor_normal_iff (g : Settings) (friendly : Bool) (c : Credit) :
    creditStateFor g friendly c = .normal ↔ (g.lowCredit : Int) < c.balance := by
  unfold creditStateFor
  split_ifs with h <;> simp [h]

/-- The emergency state after the evaluation: off in NORMAL, else taken, offered or off by the amount (R77). -/
theorem settleEmergency_eq (st : CreditState) (c : Credit) :
    settleEmergency st c = if st = .normal then .off
      else if c.emergency = .taken then .taken else if 0 < c.emergencyAmount then .offered else .off := by
  unfold settleEmergency
  cases c.emergency <;> by_cases normal : st = .normal <;> simp [normal]

/-- At the balance's floor no credit, lent or friendly, is left (R63, R66). -/
theorem creditStateFor_floor {g : Settings} {c : Credit} (friendly : Bool) (settings : g.inRange) (range : c.inRange)
    (floor : c.balance = -9999999) : creditStateFor g friendly c = .exhausted := by
  obtain ⟨-, -, -, -, amount⟩ := range
  have debt : g.friendlyDebt ≤ 1000000 := by
    obtain ⟨-, -, -, -, -, -, -, -, -, -, debt, -⟩ := settings
    exact debt
  have level : -100000 ≤ c.level := by
    unfold Credit.level
    split <;> omega
  obtain ⟨-, -, -, ends⟩ := creditStateFor_rows g friendly c
  exact ends (by omega) (by omega) (.inr (by omega))

/-- Settles O26: the rows of R71 and R77 over the account found, and what a change does beyond it. -/
theorem evaluationFindsTheCreditState : Obligations.EvaluationFindsTheCreditState := by
  unfold Obligations.EvaluationFindsTheCreditState
  intro x s t c level
  have credit : t.credit = c.evaluated s.settings s.clock := evaluateCredit_credit x s
  have state : t.credit.state = creditStateFor s.settings (friendlyApplies s.clock s.settings) c := by rw [credit]; rfl
  have emergency : t.credit.emergency =
      settleEmergency (creditStateFor s.settings (friendlyApplies s.clock s.settings) c) c := by rw [credit]; rfl
  have normal := creditStateFor_normal_iff s.settings (friendlyApplies s.clock s.settings) c
  obtain ⟨-, places, removes⟩ := evaluateCredit_effects x s
  obtain ⟨high, low, held, ends⟩ := creditStateFor_rows s.settings (friendlyApplies s.clock s.settings) c
  refine ⟨credit, by rw [credit]; rfl, by rw [credit]; rfl, fun above => ⟨?_, ?_⟩, ?_, ?_, ?_, fun below => ?_,
    evaluateCredit_raises x, places, removes, fun settings range floor => ?_⟩
  · rw [state, high above]
  · rw [emergency, settleEmergency_eq, if_pos (high above)]
  · rw [state]
    exact low
  · rw [state]
    exact held
  · rw [state]
    exact ends
  · rw [emergency, settleEmergency_eq, if_neg (fun h => not_lt.mpr below (normal.mp h))]
  · rw [state, creditStateFor_floor _ settings range floor]

end Sys2Proof.Machine
end

section
/-! SUPPORT. The last notice of the strip (R191, R193): what a work that drops none leaves last, read back. -/

namespace Sys2Proof.Machine

/-- The strip's index and count stay in range, and no dropped notice is forgotten (R191). -/
def StripGrows (s t : State) : Prop :=
  s.strip.writeIndex ≤ 31 → s.strip.dropped ≤ 65535 →
    t.strip.writeIndex ≤ 31 ∧ t.strip.dropped ≤ 65535 ∧ s.strip.dropped ≤ t.strip.dropped

theorem StripGrows.trans {s t u : State} (h : StripGrows s t) (g : StripGrows t u) : StripGrows s u := fun index count =>
  have ⟨tindex, tcount, grows⟩ := h index count
  have ⟨uindex, ucount, later⟩ := g tindex tcount
  ⟨uindex, ucount, grows.trans later⟩

theorem OnlyTouches.stripGrows {bs : List Block} {s t : State} (h : OnlyTouches bs s t) (m : Block.strip ∉ bs) :
    StripGrows s t := by
  have strip : t.strip = s.strip := h .strip m
  exact fun index count => by rw [strip]; exact ⟨index, count, le_rfl⟩

/-- With 31 unread a notice is counted as dropped, and nothing else moves on the strip (R191). -/
theorem writeNotice_full (k : NoticeKind) (head : Nat) (x : Stamp) (d : List Byte) {s : State} (up : linkUp s = true)
    (full : ¬ unread s < 31) :
    (writeNotice k head x d s).strip = { s.strip with dropped := min (s.strip.dropped + 1) 65535 } := by
  unfold writeNotice
  rw [if_pos up, if_neg full]
  exact pageStrip_touches _ .strip (by decide)

theorem writeNotice_stripGrows (k : NoticeKind) (head : Nat) (x : Stamp) (d : List Byte) (s : State) :
    StripGrows s (writeNotice k head x d s) := by
  intro index count
  by_cases up : linkUp s = true
  · by_cases room : unread s < 31
    · rw [(writeNotice_room k head x d up room).1]
      exact ⟨by dsimp only; omega, count, le_rfl⟩
    · rw [writeNotice_full k head x d up room]
      exact ⟨index, Nat.min_le_right _ _, by dsimp only; omega⟩
  · unfold writeNotice
    rw [if_neg up]
    exact ⟨index, count, le_rfl⟩

theorem stripGrows_holds : HoldsOfWorks StripGrows where
  refl s := (OnlyTouches.refl [] s).stripGrows (by simp)
  trans := StripGrows.trans
  own h := h.stripGrows (by decide)
  page s _ _ := (poke_touches s _ _).stripGrows (by decide)
  writeNotice := writeNotice_stripGrows
  raise c s := (raise_touches s c).stripGrows (by decide)
  supplyOpen s := (profileSupplyOpen_touches s).stripGrows (by decide)

/-- The first `n` bytes of the entry before the write index. -/
def lastNotice (s : State) (n : Nat) : List Byte := peekBytes s (0x600 + 16 * ((s.strip.writeIndex + 31) % 32)) n

/-- What leaves the strip leaves its last notice. -/
theorem lastNotice_later {s t : State} {n : Nat} (strip : t.strip = s.strip) (same : SameBytes noticeStrip s t)
    (short : n ≤ 16) : lastNotice t n = lastNotice s n := by
  unfold lastNotice
  rw [strip]
  exact same.peekBytes_eq fun b low high => by
    unfold noticeStrip
    omega

/-- A notice that is not dropped is the last one. -/
theorem lastNotice_writeNotice (k : NoticeKind) (head : Nat) (x : Stamp) (d : List Byte) {s : State}
    (up : linkUp s = true) (index : s.strip.writeIndex ≤ 31) (count : s.strip.dropped < 65535)
    (kept : (writeNotice k head x d s).strip.dropped ≤ s.strip.dropped) :
    lastNotice (writeNotice k head x d s) 16 = noticeBytes k head x d := by
  have room : unread s < 31 := by
    by_contra full
    rw [writeNotice_full k head x d up full] at kept
    dsimp only at kept
    omega
  have place : ((s.strip.writeIndex + 1) % 32 + 31) % 32 = s.strip.writeIndex := by omega
  obtain ⟨strip, -⟩ := writeNotice_room k head x d up room
  obtain ⟨shown, -⟩ := writeNotice_shows k head x d up index room
  rw [lastNotice, strip]
  dsimp only
  rw [place, shown]

/-- After works that lose no count, a notice that leaves the count where it was before them is the last one. -/
theorem lastNotice_after {s u : State} (grown : StripGrows s u) (k : NoticeKind) (head : Nat) (d : List Byte)
    (up : linkUp u = true) (index : s.strip.writeIndex ≤ 31) (count : s.strip.dropped < 65535)
    (kept : (notice k head d u).strip.dropped = s.strip.dropped) :
    lastNotice (notice k head d u) 16 = noticeBytes k head (now u) d := by
  obtain ⟨uindex, ucount, grows⟩ := grown index count.le
  obtain ⟨-, -, later⟩ := writeNotice_stripGrows k head (now u) d u uindex ucount
  have stays : u.strip.dropped = s.strip.dropped := le_antisymm (later.trans kept.le) grows
  exact lastNotice_writeNotice k head (now u) d up uindex (by omega) (by rw [stays]; exact kept.le)

theorem take_lastNotice {s : State} {l : List Byte} (whole : lastNotice s 16 = l) {n : Nat} (short : n ≤ 16) :
    lastNotice s n = l.take n := by
  rw [← whole]
  unfold lastNotice
  rw [peekBytes_take _ _ n (16 - n), Nat.add_sub_cancel' short]

/-- A notice without the filling of its detail (R193). -/
theorem noticeBytes_take (k : NoticeKind) (head : Nat) (t : Stamp) {d : List Byte} (short : d.length ≤ 10) :
    (noticeBytes k head t d).take (6 + d.length) =
      [byteOf k.code, byteOf (head + 128 * t.valid.toNat)] ++ leBytes 4 t.count ++ d := by
  have whole : noticeBytes k head t d =
      ([byteOf k.code, byteOf (head + 128 * t.valid.toNat)] ++ leBytes 4 t.count ++ d) ++
        List.replicate (10 - d.length) 0 := by
    simp [noticeBytes, padTo, List.take_of_length_le short]
  rw [whole]
  exact List.take_left' (by simp; omega)

end Sys2Proof.Machine
end

section
/-! PROOF. ENTER by the entry line (R78, R87, R90 to R93, R121), and its CODE_KEYPAD notice (R91, R193). -/

namespace Sys2Proof.Machine

/-- A taken ENTER before it acts on the line: the key down, KEYPAD raised, the idle timer restarted (R86, R87). -/
def enterTaken (s : State) : State :=
  overCode (fun u => { u with idle := 0 })
    (raise .keypad (overCode (fun u => { u with keysDown := [.enter] }) (s.withPins (s.pins.press .enter))))

theorem enterTaken_touches (s : State) : OnlyTouches [.code, .link, .pins] s (enterTaken s) := by simp [enterTaken]

theorem enterTaken_code (s : State) : (enterTaken s).code = { s.code with keysDown := [.enter], idle := 0 } := by
  have raised : ∀ u, (raise .keypad u).code = u.code := fun u => raise_touches u .keypad .code (by decide)
  rw [enterTaken, overCode, State.withCode_code, raised]
  rfl

theorem enterTaken_latched {s : State} (up : linkUp s = true) : (enterTaken s).link.latched.getLsbD 7 = true := by
  have raised := raise_latched .keypad
    (s := overCode (fun u => { u with keysDown := [.enter] }) (s.withPins (s.pins.press .enter))) up
  have link : (enterTaken s).link = (raise .keypad (overCode (fun u => { u with keysDown := [.enter] })
    (s.withPins (s.pins.press .enter)))).link := rfl
  rw [link, raised]
  simp [AttnCause.mask, AttnCause.bit]

/-- ENTER is taken while the scanner runs, no other key is down, nothing is held and no lockout stands (R85, R86). -/
theorem exec_enter {s : State} (running : isRunning s = true) (scanning : s.code.scanning = true)
    (keys : s.code.keysDown = []) (held : s.code.held = false) (lockout : s.code.lockout = false) :
    exec (.keyPress .enter) s = .next (pageEntry (pressEnter (enterTaken s))) := by
  have scan : scanPress .enter (s.withPins (s.pins.press .enter)) = pageEntry (pressEnter (enterTaken s)) := by
    simp [scanPress, pressTaken, keys, held, lockout, takePress, pressKey, enterTaken]
  have run : exec (.keyPress .enter) s =
      .next (if scans s then scanPress .enter (s.withPins (s.pins.press .enter))
        else s.withPins (s.pins.press .enter)) := rfl
  rw [run, if_pos (by simp [scans, running, scanning]), scan]

/-! ### The four entries -/

theorem pressEnter_confirm {s : State} (line : s.code.line = []) :
    pressEnter s = keypadOutcome .confirm (confirmAnswer s.supply.machine)
      [byteOf (takeConfirm s).supply.machine.code] (takeConfirm s) := by
  simp [pressEnter, line]

theorem pressEnter_emergency {s : State} (line : s.code.line = [0]) :
    pressEnter s = keypadOutcome .emergency (emergencyAnswer s.credit)
      (byteOf (clearLine (takeEmergency s)).credit.emergency.code ::
        leInt 4 (clearLine (takeEmergency s)).credit.balance) (clearLine (takeEmergency s)) := by
  simp [pressEnter, line]

theorem pressEnter_submit {s : State} (line : s.code.line.length = 20) : pressEnter s = submitLine s := by
  have some_digit : s.code.line ≠ [] := fun none => by simp [none] at line
  have more_digits : s.code.line ≠ [0] := fun one => by simp [one] at line
  simp [pressEnter, line, some_digit, more_digits]

theorem pressEnter_short {s : State} (some_digit : s.code.line ≠ []) (other : s.code.line ≠ [0])
    (short : s.code.line.length < 20) :
    pressEnter s = keypadOutcome .short .badLength [byteOf s.code.line.length] (clearLine s) := by
  simp [pressEnter, some_digit, other, short.ne]

/-! ### The answer -/

/-- What an outcome other than a submission's leaves in `t`: KEYPAD raised, and CODE_KEYPAD the last notice where none
was dropped since `s` (R91, R193). -/
def KeypadAnswers (s : State) (entry : Nat) (outcome : Verdict) (more : List Byte) (t : State) : Prop :=
  t.link.latched.getLsbD 7 = true ∧
    (s.strip.writeIndex ≤ 31 → s.strip.dropped < 65535 → t.strip.dropped = s.strip.dropped →
      peekBytes t (0x600 + 16 * ((t.strip.writeIndex + 31) % 32)) (6 + more.length) =
        [byteOf NoticeKind.codeKeypad.code, byteOf (entry + 4 * outcome.code + 128 * s.clock.valid.toNat)] ++
        leBytes 4 s.clock.count ++ more)

/-- The end of a taken ENTER whose outcome is reported at once. -/
theorem answered_touches (e : Entry) (v : Verdict) (d : List Byte) (u : State) :
    OnlyTouches [.store, .link, .strip] u (pageEntry (keypadOutcome e v d u)) := by simp

/-- The outcome is reported over works that lose no count of the strip and leave the clock. -/
theorem keypadOutcome_answers {s u : State} (e : Entry) (v : Verdict) {d : List Byte} (short : d.length ≤ 10)
    (up : linkUp u = true) (clock : u.clock = s.clock) (grown : StripGrows s u) :
    KeypadAnswers s e.code v d (pageEntry (keypadOutcome e v d u)) := by
  have noted : OnlyTouches [.store, .link, .strip] u (notice .codeKeypad (e.code + 4 * v.code) d u) := by simp
  have link : (pageEntry (keypadOutcome e v d u)).link = (keypadOutcome e v d u).link :=
    pageEntry_touches _ .link (by decide)
  have strip : (pageEntry (keypadOutcome e v d u)).strip = (notice .codeKeypad (e.code + 4 * v.code) d u).strip :=
    OnlyTouches.trans (bs := [.store, .link]) ((raise_touches _ .keypad).mono (by decide))
      ((pageEntry_touches _).mono (by decide)) .strip (by decide)
  have bytes : SameBytes noticeStrip (notice .codeKeypad (e.code + 4 * v.code) d u)
      (pageEntry (keypadOutcome e v d u)) := by
    refine SameBytes.trans (t := keypadOutcome e v d u) ((raise_touches _ .keypad).sameBytes (by decide) _) ?_
    refine poke_sameBytes _ fun b inside => ?_
    obtain ⟨low, -⟩ := inside
    exact .inr (by simp only [entryBytes, List.length_cons, length_padTo]; omega)
  constructor
  · rw [link, keypadOutcome, raise_latched _ (by rw [noted.linkUp_eq (by decide), up])]
    simp [AttnCause.mask, AttnCause.bit]
  · intro index count kept
    rw [strip] at kept
    have whole := lastNotice_after grown .codeKeypad (e.code + 4 * v.code) d up index count kept
    have shown := lastNotice_later (n := 6 + d.length) strip bytes (by omega)
    rw [take_lastNotice whole (by omega), noticeBytes_take _ _ _ short, now, clock] at shown
    exact shown

/-! ### CONFIRM and EMERGENCY -/

theorem takeConfirm_confirmed {s : State} (ready : s.supply.machine = .awaitConfirm ∨ s.supply.machine = .stuckOpen) :
    takeConfirm s = enterClosing s := by
  simp [takeConfirm, confirmAnswer, ready]

theorem takeConfirm_refused {s : State} (ready : s.supply.machine ≠ .awaitConfirm) (stuck : s.supply.machine ≠ .stuckOpen) :
    takeConfirm s = s := by
  simp [takeConfirm, confirmAnswer, ready, stuck]

theorem takeConfirm_stripGrows (s : State) : StripGrows s (takeConfirm s) := by
  unfold takeConfirm
  split
  · exact stripGrows_holds.trans (stripGrows_holds.changeMachine _ _ _ s) (stripGrows_holds.beginAttempt _ _)
  · exact stripGrows_holds.refl s

/-- The account after an EMERGENCY request: taken and evaluated where it was offered (R77, R78). -/
theorem takeEmergency_credit (s : State) :
    (takeEmergency s).credit =
      if s.credit.emergency = .offered then { s.credit with emergency := .taken }.evaluated s.settings s.clock
      else s.credit := by
  unfold takeEmergency
  by_cases offered : s.credit.emergency = .offered
  · rw [if_pos (by simp [emergencyAnswer, offered]), if_pos offered]
    dsimp only
    have only : OnlyTouches [.store, .credit] s (pageCredit (s.withCredit { s.credit with emergency := .taken })) := by
      simp
    have credit : (pageCredit (s.withCredit { s.credit with emergency := .taken })).credit =
        { s.credit with emergency := .taken } := (pageCredit_touches _).credit_eq (by decide)
    generalize pageCredit (s.withCredit { s.credit with emergency := .taken }) = u at only credit
    have settings : u.settings = s.settings := only .settings (by decide)
    have clock : u.clock = s.clock := only.clock_eq (by decide)
    refine freePick_of_ne (P := fun t => t.credit = _) (fun _ _ h => h) (by simp) fun r hr => ?_
    rcases List.mem_pair.mp hr with rfl | rfl
    · rw [(emergencyNotice_touches _ _).credit_eq (by decide), evaluateCredit_credit, credit, settings, clock]
    · have noted := emergencyNotice_touches u (evaluateCredit .emergency u).credit
      have notedSettings : (emergencyNotice (evaluateCredit .emergency u).credit u).settings = u.settings :=
        noted .settings (by decide)
      rw [evaluateCredit_credit, noted.credit_eq (by decide), noted.clock_eq (by decide), notedSettings, credit, settings,
        clock]
  · rw [if_neg (by simp [emergencyAnswer, offered]), if_neg offered]

theorem takeEmergency_refused {s : State} (offered : s.credit.emergency ≠ .offered) : takeEmergency s = s := by
  simp [takeEmergency, emergencyAnswer, offered]

theorem takeEmergency_stripGrows (s : State) : StripGrows s (takeEmergency s) := by
  have taken := stripGrows_holds.withCredit { s.credit with emergency := .taken } s
  have evaluated := stripGrows_holds.evaluateCredit .emergency
  have noted : ∀ c u, StripGrows u (emergencyNotice c u) := fun c u => stripGrows_holds.notice _ _ _ u
  unfold takeEmergency
  split
  · refine freePick_of (P := StripGrows s) (fun _ _ h => h) (stripGrows_holds.refl s) fun r hr => ?_
    rcases List.mem_pair.mp hr with rfl | rfl
    · exact taken.trans ((evaluated _).trans (noted _ _))
    · exact taken.trans ((noted _ _).trans (evaluated _))
  · exact stripGrows_holds.refl s

/-- Emergency credit taken above the low-credit level is off again at once (R77, R78). -/
theorem taken_emergency (g : Settings) (clock : Clock) (c : Credit) :
    ({ c with emergency := .taken }.evaluated g clock).emergency =
      if (g.lowCredit : Int) < c.balance then .off else .taken := by
  have settled : ({ c with emergency := .taken }.evaluated g clock).emergency =
      settleEmergency (creditStateFor g (friendlyApplies clock g) { c with emergency := .taken })
        { c with emergency := .taken } := rfl
  rw [settled, settleEmergency_eq]
  exact if_congr (creditStateFor_normal_iff _ _ _) rfl (if_pos rfl)

/-! ### The submission -/

/-- 20 digits are held, and taken by an idle decoder or waiting for it (R92, R93). -/
theorem submitLine_code (s : State) :
    (submitLine s).code =
      if s.code.decoder = .idle then
        { s.code with held := true, waitingSub := false, decoder := .decoding .keypad (lineChars s.code.line) }
      else { s.code with held := true, waitingSub := true } := by
  have page : ∀ u, (pageCode u).code = u.code := fun u => pageCode_touches u .code (by decide)
  by_cases idle : s.code.decoder = .idle
  · have taken : submitLine s = takeSubmission (overCode (fun u => { u with held := true }) s) := by
      simp [submitLine, decoderIdle, overCode, idle]
    rw [taken, takeSubmission, page, if_pos idle]
    rfl
  · have waits : submitLine s =
        pageCode (overCode (fun u => { u with waitingSub := true }) (overCode (fun u => { u with held := true }) s)) := by
      simp [submitLine, decoderIdle, overCode, idle]
    rw [waits, page, if_neg idle]
    rfl

/-! ### Each entry, from the taken press to its end -/

/-- ENTER taken in `s` and about to act on the line in `u`. -/
structure EnterTaken (s u : State) : Prop where
  only : OnlyTouches [.code, .link, .pins] s u
  code : u.code = { s.code with keysDown := [.enter], idle := 0 }
  raised : u.link.latched.getLsbD 7 = true
  up : linkUp u = true

theorem enterTaken_taken {s : State} (running : isRunning s = true) : EnterTaken s (enterTaken s) :=
  ⟨enterTaken_touches s, enterTaken_code s, enterTaken_latched (linkUp_of_isRunning running), by
    rw [(enterTaken_touches s).linkUp_eq (by decide), linkUp_of_isRunning running]⟩

namespace EnterTaken

variable {s u : State}

theorem line (h : EnterTaken s u) : u.code.line = s.code.line := by rw [h.code]

theorem supply (h : EnterTaken s u) : u.supply = s.supply := h.only.supply_eq (by decide)

theorem credit (h : EnterTaken s u) : u.credit = s.credit := h.only.credit_eq (by decide)

theorem clock (h : EnterTaken s u) : u.clock = s.clock := h.only.clock_eq (by decide)

theorem grown (h : EnterTaken s u) : StripGrows s u := h.only.stripGrows (by decide)

/-- CONFIRM begins a close (R121). -/
theorem confirms (h : EnterTaken s u) (empty : s.code.line = [])
    (ready : s.supply.machine = .awaitConfirm ∨ s.supply.machine = .stuckOpen) :
    let t := pageEntry (pressEnter u)
    t.supply.machine = .closing ∧ t.supply.attempt = some ⟨.toClose, 1, .pulse, 0, 0, none⟩ ∧
      t.supply.coil = some .toClose ∧ t.supply.causes = s.supply.causes ∧ t.conv.inFlight = none ∧
      t.credit = s.credit ∧ KeypadAnswers s 0 .confirmed [byteOf MachineState.closing.code] t := by
  rw [← h.supply] at ready
  have answer : confirmAnswer u.supply.machine = .confirmed := by simp [confirmAnswer, ready]
  have grows := takeConfirm_stripGrows u
  rw [takeConfirm_confirmed ready] at grows
  have closing : (enterClosing u).supply = { u.supply with
      machine := .closing, attempt := some ⟨.toClose, 1, .pulse, 0, 0, none⟩, coil := some .toClose, retry := 0,
      overCount := if u.supply.machine = .closed then 0 else u.supply.overCount } := by simp [enterClosing]
  have machine : (enterClosing u).supply.machine = .closing := by rw [closing]
  have flight : (enterClosing u).conv.inFlight = none := by simp [enterClosing, Converter.pulseBegins]
  have moved := enterClosing_touches u
  have rest := answered_touches .confirm .confirmed [byteOf MachineState.closing.code] (enterClosing u)
  intro t
  have whole : t = pageEntry (keypadOutcome .confirm .confirmed [byteOf MachineState.closing.code] (enterClosing u)) := by
    rw [← answer, ← machine, ← takeConfirm_confirmed ready, ← pressEnter_confirm (h.line.trans empty)]
  rw [whole]
  have conv : (pageEntry (keypadOutcome .confirm .confirmed [byteOf MachineState.closing.code] (enterClosing u))).conv =
      (enterClosing u).conv := rest .conv (by decide)
  rw [rest.supply_eq (by decide), rest.credit_eq (by decide), moved.credit_eq (by decide), conv, closing, h.credit,
    h.supply]
  exact ⟨rfl, rfl, rfl, rfl, flight, rfl, keypadOutcome_answers .confirm .confirmed (by simp)
    (by rw [moved.linkUp_eq (by decide), h.up]) ((moved.clock_eq (by decide)).trans h.clock) (h.grown.trans grows)⟩

/-- CONFIRM with nothing to confirm (R121). -/
theorem confirms_nothing (h : EnterTaken s u) (empty : s.code.line = []) (ready : s.supply.machine ≠ .awaitConfirm)
    (stuck : s.supply.machine ≠ .stuckOpen) :
    let t := pageEntry (pressEnter u)
    t.supply = s.supply ∧ t.conv = s.conv ∧ t.credit = s.credit ∧
      KeypadAnswers s 0 .nothingToConfirm [byteOf s.supply.machine.code] t := by
  rw [← h.supply] at ready stuck
  have answer : confirmAnswer u.supply.machine = .nothingToConfirm := by simp [confirmAnswer, ready, stuck]
  have conv : u.conv = s.conv := h.only .conv (by decide)
  have rest := answered_touches .confirm .nothingToConfirm [byteOf s.supply.machine.code] u
  rw [pressEnter_confirm (h.line.trans empty), takeConfirm_refused ready stuck, answer, h.supply]
  exact ⟨(rest.supply_eq (by decide)).trans h.supply, Eq.trans (rest .conv (by decide)) conv,
    (rest.credit_eq (by decide)).trans h.credit,
    keypadOutcome_answers .confirm .nothingToConfirm (by simp) h.up h.clock h.grown⟩

/-- EMERGENCY takes what is offered, or leaves the account (R78). -/
theorem takes_emergency (h : EnterTaken s u) (zero : s.code.line = [0]) (held : s.code.held = false) :
    let t := pageEntry (pressEnter u)
    t.code.line = [] ∧ t.code.held = false ∧ t.credit.balance = s.credit.balance ∧
      KeypadAnswers s 1 (if s.credit.emergency = .offered then .taken else .notOffered)
        (byteOf t.credit.emergency.code :: leInt 4 s.credit.balance) t ∧
      (s.credit.emergency = .offered → t.credit.emergency =
        if (s.settings.lowCredit : Int) < s.credit.balance then .off else .taken) ∧
      (s.credit.emergency ≠ .offered → t.credit = s.credit ∧ t.supply = s.supply) := by
  have moved := takeEmergency_touches u
  have account := takeEmergency_credit u
  have settings : u.settings = s.settings := h.only .settings (by decide)
  have code : (takeEmergency u).code = u.code := moved .code (by decide)
  have balance : (takeEmergency u).credit.balance = s.credit.balance := by
    rw [account, ← h.credit]
    split <;> rfl
  have answer : emergencyAnswer u.credit = if s.credit.emergency = .offered then .taken else .notOffered := by
    rw [h.credit]
    rfl
  have cleared := clearLine_touches (takeEmergency u)
  have line : (clearLine (takeEmergency u)).code = { u.code with line := [] } := by rw [← code]; rfl
  have grown : StripGrows s (clearLine (takeEmergency u)) :=
    (h.grown.trans (takeEmergency_stripGrows u)).trans (cleared.stripGrows (by decide))
  have up : linkUp (clearLine (takeEmergency u)) = true := by
    rw [cleared.linkUp_eq (by decide), moved.linkUp_eq (by decide), h.up]
  have clock : (clearLine (takeEmergency u)).clock = s.clock :=
    (cleared.clock_eq (by decide)).trans ((moved.clock_eq (by decide)).trans h.clock)
  have credit := cleared.credit_eq (by decide)
  have supply := cleared.supply_eq (by decide)
  rw [pressEnter_emergency (h.line.trans zero), answer, credit, balance]
  generalize clearLine (takeEmergency u) = w at *
  have rest := answered_touches .emergency (if s.credit.emergency = .offered then .taken else .notOffered)
    (byteOf (takeEmergency u).credit.emergency.code :: leInt 4 s.credit.balance) w
  have answers := keypadOutcome_answers .emergency (if s.credit.emergency = .offered then .taken else .notOffered)
    (d := byteOf (takeEmergency u).credit.emergency.code :: leInt 4 s.credit.balance) (by simp) up clock grown
  intro t
  have tcode : t.code = { u.code with line := [] } := Eq.trans (rest .code (by decide)) line
  have tcredit : t.credit = (takeEmergency u).credit := (rest.credit_eq (by decide)).trans credit
  have tsupply : t.supply = (takeEmergency u).supply := (rest.supply_eq (by decide)).trans supply
  rw [tcode, tcredit, tsupply]
  refine ⟨rfl, by rw [h.code]; exact held, balance, answers, fun offered => ?_, fun none => ?_⟩
  · rw [account, if_pos (by rw [h.credit]; exact offered), taken_emergency, settings, h.credit]
  · rw [← h.credit] at none
    rw [takeEmergency_refused none]
    exact ⟨h.credit, h.supply⟩

/-- 20 digits are submitted, with no notice yet (R92, R93). -/
theorem submits (h : EnterTaken s u) (full : s.code.line.length = 20) :
    let t := pageEntry (pressEnter u)
    t.code.line = s.code.line ∧ t.code.held = true ∧ t.supply = s.supply ∧ t.credit = s.credit ∧
      t.link.latched.getLsbD 7 = true ∧ t.strip = s.strip ∧
      (if s.code.decoder = .idle
        then t.code.decoder = .decoding .keypad (lineChars s.code.line) ∧ t.code.waitingSub = false
        else t.code.decoder = s.code.decoder ∧ t.code.waitingSub = true) := by
  have rest : OnlyTouches [.store, .code] u (pageEntry (submitLine u)) := by simp
  have code : (pageEntry (submitLine u)).code = (submitLine u).code := pageEntry_touches _ .code (by decide)
  have link : (pageEntry (submitLine u)).link = u.link := rest .link (by decide)
  have strip : (pageEntry (submitLine u)).strip = u.strip := rest .strip (by decide)
  have same : u.strip = s.strip := h.only .strip (by decide)
  rw [pressEnter_submit (by rw [h.line, full])]
  dsimp only
  rw [rest.supply_eq (by decide), rest.credit_eq (by decide), link, strip, code, submitLine_code, h.supply, h.credit, h.code]
  by_cases idle : s.code.decoder = .idle
  · simp [idle, h.raised, same]
  · simp [idle, h.raised, same]

/-- Any other line is too short (R90). -/
theorem answers_short (h : EnterTaken s u) (some_digit : s.code.line ≠ []) (other : s.code.line ≠ [0])
    (short : s.code.line.length < 20) :
    let t := pageEntry (pressEnter u)
    t.code = { s.code with line := [], idle := 0, keysDown := [.enter] } ∧ t.supply = s.supply ∧
      t.credit = s.credit ∧ KeypadAnswers s 2 .badLength [byteOf s.code.line.length] t := by
  have cleared := clearLine_touches u
  have rest := answered_touches .short .badLength [byteOf s.code.line.length] (clearLine u)
  have code : (clearLine u).code = { s.code with line := [], idle := 0, keysDown := [.enter] } := by
    rw [clearLine, overCode, State.withCode_code, h.code]
  rw [← h.line] at some_digit other short
  rw [pressEnter_short some_digit other short, h.line]
  exact ⟨Eq.trans (rest .code (by decide)) code, (rest.supply_eq (by decide)).trans h.supply,
    (rest.credit_eq (by decide)).trans h.credit, keypadOutcome_answers .short .badLength (by simp)
      (by rw [cleared.linkUp_eq (by decide), h.up]) h.clock (h.grown.trans (cleared.stripGrows (by decide)))⟩

end EnterTaken

/-- Settles O29: ENTER is taken, and then each entry by its lemma. -/
theorem enterActsByTheLine : Obligations.EnterActsByTheLine := by
  unfold Obligations.EnterActsByTheLine
  intro s running scanning keys held lockout
  have run := exec_enter running scanning keys held lockout
  have taken := enterTaken_taken running
  exact ⟨fun empty ready => ⟨_, run, taken.confirms empty ready⟩,
    fun empty ready stuck => ⟨_, run, taken.confirms_nothing empty ready stuck⟩,
    fun zero => ⟨_, run, taken.takes_emergency zero held⟩,
    fun full => ⟨_, run, taken.submits full⟩,
    fun some_digit other short => ⟨_, run, taken.answers_short some_digit other short⟩⟩

end Sys2Proof.Machine
end

section
/-! SUPPORT. An accepted code (R96 to R107): the judgement it passes, what its class does, and what the report and the
arbiter leave of that (R91 to R93, R109, R110). -/

namespace Sys2Proof.Machine

/-! ### The judgement (R96 to R100) -/

/-- Steps 1 to 6 passed, the fields are judged by steps 7 to 9. -/
theorem judgeCode_eq {s : State} {chars : List Byte} {digits : List Nat} (spelled : digitsOf chars = some digits)
    (format : decimal digits < 2 ^ 64) (key : s.code.keySet = true) (unlocked : s.code.lock = 0)
    (check : checkOf s.code.key (clearPart (decimal digits) s.code.key) = decimal digits % 2 ^ 16) :
    judgeCode chars s =
      (judgeFields (clearFields (clearPart (decimal digits) s.code.key)) s.code.accepted s.credit,
        some (clearFields (clearPart (decimal digits) s.code.key))) := by
  unfold judgeCode
  rw [spelled]
  dsimp only
  rw [if_neg (not_le.mpr format), if_neg (by simp [key]), if_neg (by simp [unlocked]), if_neg (by simp [check])]

theorem namedKinds_eq_nil_iff (value : Nat) : namedKinds value = [] ↔ ∀ k : TamperKind, value.testBit k.code = false := by
  have every : ∀ k : TamperKind, k ∈ TamperKind.all := fun k => by cases k <;> simp [TamperKind.all]
  simp [namedKinds, List.filter_eq_nil_iff, every]

theorem judgeFields_ok {c : Code} {accepted : List Nat} {credit : Credit} (low : 1 ≤ c.cls) (high : c.cls ≤ 5)
    (fresh : c.seq ∉ accepted)
    (current : accepted.length < 40 ∨ ∃ x, accepted.head? = some x ∧ x ≤ c.seq)
    (room : c.cls = 1 → credit.balance + c.value ≤ 99999999)
    (names : c.cls = 2 → ∃ k : TamperKind, c.value.testBit k.code = true) (zero : c.cls = 5 → c.value = 0) :
    judgeFields c accepted credit = .ok := by
  have listed : ¬(listTop ≤ accepted.length ∧ accepted.head?.any (fun m => decide (c.seq < m)) = true) := by
    rintro ⟨full, stale⟩
    rcases current with short | ⟨x, head, later⟩
    · exact absurd full (not_le.mpr short)
    · rw [head] at stale
      simp only [Option.any_some, decide_eq_true_eq] at stale
      omega
  have under : ¬(c.cls = 1 ∧ overCap credit c.value = true) := by
    rintro ⟨cls, exceeds⟩
    have := room cls
    have beyond : 99999999 < credit.balance + c.value := of_decide_eq_true exceeds
    omega
  have named : ¬(c.cls = 2 ∧ namedKinds c.value = []) := by
    rintro ⟨cls, none⟩
    obtain ⟨k, set⟩ := names cls
    rw [namedKinds_eq_nil_iff] at none
    simp [none k] at set
  unfold judgeFields
  rw [if_neg (by omega), if_neg fresh, if_neg listed, if_neg under, if_neg named, if_neg fun ⟨cls, other⟩ =>
    other (zero cls)]

/-! ### What a class does (R67, R79, R80, R104 to R107, R132, R159, R161) -/

theorem evaluateCredit_paid (x : CreditTrigger) (s : State) (c : Credit) :
    (evaluateCredit x (pageCredit (s.withCredit c))).credit = c.evaluated s.settings s.clock := by
  have only : OnlyTouches [.store, .credit] s (pageCredit (s.withCredit c)) := by simp
  have credit : (pageCredit (s.withCredit c)).credit = c := (pageCredit_touches _).credit_eq (by decide)
  have settings : (pageCredit (s.withCredit c)).settings = s.settings := only .settings (by decide)
  rw [evaluateCredit_credit, credit, settings, only.clock_eq (by decide)]

/-- What the evaluation makes of the emergency state. -/
theorem Credit.evaluated_emergency (c : Credit) (g : Settings) (clock : Clock) :
    (c.evaluated g clock).emergency = settleEmergency (creditStateFor g (friendlyApplies clock g) c) c := rfl

theorem applyCode_credit {c : Code} (cls : c.cls = 1) (s : State) : applyCode c s = addCredit c.value s := by
  simp [applyCode, cls]

theorem applyCode_clear {c : Code} (cls : c.cls = 2) (s : State) :
    applyCode c s = clearTamper (namedKinds c.value) c.seq s := by
  simp [applyCode, cls]

theorem applyCode_limit {c : Code} (cls : c.cls = 3) (s : State) :
    applyCode c s = applyPowerLimit (clampLimit c.value) s := by
  simp [applyCode, cls]

theorem applyCode_amount {c : Code} (cls : c.cls = 4) (s : State) :
    applyCode c s = setEmergencyAmount (clampEmergency c.value) s := by
  simp [applyCode, cls]

theorem applyCode_reset {c : Code} (cls : c.cls = 5) (s : State) : applyCode c s = resetCredit s := by
  simp [applyCode, cls]

/-- Only CLEAR_TAMPER moves the tamper watch. -/
theorem applyCode_tamper {c : Code} (cls : c.cls ≠ 2) (s : State) : (applyCode c s).tamper = s.tamper := by
  unfold applyCode
  split
  case h_2 clear => exact absurd clear cls
  · exact addCredit_touches s _ .tamper (by decide)
  · exact applyPowerLimit_touches s _ .tamper (by decide)
  · exact setEmergencyAmount_touches s _ .tamper (by decide)
  · exact resetCredit_touches s .tamper (by decide)
  · rfl

/-- The account reset, evaluated: nothing is owed, and emergency credit is offered anew (R77, R80). -/
theorem resetCredit_emergency (s : State) :
    (resetCredit s).credit.emergency = if 0 < s.credit.emergencyAmount then .offered else .off := by
  have low : ¬((s.settings.lowCredit : Int) < 0) := by omega
  rw [resetCredit, evaluateCredit_paid, Credit.evaluated_emergency, settleEmergency_eq,
    if_neg (fun normal => low ((creditStateFor_normal_iff _ _ _).mp normal))]
  rfl

theorem mem_clearedKinds {r : TamperRecords} {value : Nat} {k : TamperKind} :
    k ∈ clearedKinds r (namedKinds value) ↔ value.testBit k.code = true ∧ (r.get k).status = .latched := by
  have every : k ∈ TamperKind.all := by cases k <;> simp [TamperKind.all]
  simp [clearedKinds, namedKinds, every, and_comm]

theorem any_disconnecting_iff (kinds : List TamperKind) :
    kinds.any disconnecting = true ↔ .caseOpen ∈ kinds ∨ .bypass ∈ kinds := by
  simp only [List.any_eq_true, disconnecting, decide_eq_true_eq]
  constructor
  · rintro ⟨k, mem, rfl | rfl⟩
    · exact .inl mem
    · exact .inr mem
  · rintro (mem | mem)
    · exact ⟨_, mem, .inl rfl⟩
    · exact ⟨_, mem, .inr rfl⟩

/-- The TAMPER cause after a clear (R161). -/
theorem clearTamper_cause (named : List TamperKind) (sequence : Nat) (s : State) :
    (clearTamper named sequence s).supply.causes.tamper =
      if (.caseOpen ∈ clearedKinds s.tamper.records named ∨ .bypass ∈ clearedKinds s.tamper.records named) ∧
        (clearTamper named sequence s).tamper.records.caseOpen.status = .clear ∧
        (clearTamper named sequence s).tamper.records.bypass.status = .clear
      then false else s.supply.causes.tamper := by
  have supply := (clearTold_touches named sequence s).supply_eq (by decide)
  rw [clearTamper_tamper, clearTamper_eq, ← supply]
  generalize clearTold named sequence s = u
  have removed : ((clearedKinds s.tamper.records named).any disconnecting && !disconnects u.tamper.records) = true ↔
      (.caseOpen ∈ clearedKinds s.tamper.records named ∨ .bypass ∈ clearedKinds s.tamper.records named) ∧
        u.tamper.records.caseOpen.status = .clear ∧ u.tamper.records.bypass.status = .clear := by
    rw [Bool.and_eq_true, any_disconnecting_iff, Bool.not_eq_true', ← Bool.not_eq_true, disconnects_iff, not_or, not_not,
      not_not]
  by_cases out : ((clearedKinds s.tamper.records named).any disconnecting && !disconnects u.tamper.records) = true
  · rw [if_pos out, if_pos (removed.mp out), setCause_causes]
    rfl
  · rw [if_neg out, if_neg (mt removed.mpr out)]

/-- Acting on the causes keeps the limit, and an overload count of 0. -/
theorem actOnCauses_limit (s : State) :
    (actOnCauses s).supply.limit = s.supply.limit ∧
      (s.supply.overCount = 0 → (actOnCauses s).supply.overCount = 0) := by
  have entered : ∀ x, (enterOpening x s).supply.limit = s.supply.limit ∧
      (s.supply.overCount = 0 → (enterOpening x s).supply.overCount = 0) := fun x => by simp +contextual
  have changed : ∀ m x u, (changeMachine m x u s).supply.limit = s.supply.limit ∧
      (s.supply.overCount = 0 → (changeMachine m x u s).supply.overCount = 0) := fun m x u => by simp +contextual
  unfold actOnCauses
  split
  · exact entered _
  · exact changed _ _ _
  · exact changed _ _ _
  · split
    · exact entered _
    · exact ⟨rfl, id⟩
  · exact changed _ _ _
  · exact changed _ _ _
  · exact ⟨rfl, id⟩

theorem setCause_limit (k : Cause) (b : Bool) (s : State) :
    (setCause k b s).supply.limit = s.supply.limit ∧
      (s.supply.overCount = 0 → (setCause k b s).supply.overCount = 0) := by
  have put := actOnCauses_limit (pageSupply (overSupply (fun p => { p with causes := p.causes.put k b }) s))
  rw [pageSupply_supply] at put
  unfold setCause
  split
  · exact ⟨rfl, id⟩
  · dsimp only
    split
    · exact put
    · simp

/-- SET_POWER_LIMIT sets the limit, empties the history and ends a latch (R106, R132). -/
theorem applyPowerLimit_supply (w : Nat) (s : State) :
    let t := applyPowerLimit w s
    t.supply.trips = [] ∧ t.supply.overCount = 0 ∧ t.supply.limit = w ∧
      (s.supply.overload = .latched → t.supply.overload = .none ∧ t.supply.causes.overload = false) ∧
      (s.supply.overload ≠ .latched → t.supply.overload = s.supply.overload ∧ t.supply.causes = s.supply.causes) := by
  let limited := pageSupply (overSupply (fun p => { p with limit := w, trips := [], overCount := 0 }) s)
  have supply : limited.supply = { s.supply with limit := w, trips := [], overCount := 0 } := by simp [limited]
  have whole : applyPowerLimit w s = if s.supply.overload = .latched then endOverload limited else limited := rfl
  intro t
  by_cases latched : s.supply.overload = .latched
  · have ended : t = endOverload limited := whole.trans (if_pos latched)
    have history := endOverload_history limited
    have limit := setCause_limit .overload false (pageSupply (overSupply (fun p => { p with overload := .none }) limited))
    rw [← ended, supply] at history
    rw [show setCause .overload false (pageSupply (overSupply (fun p => { p with overload := .none }) limited)) = t from
      ended.symm, pageSupply_supply, overSupply_supply, supply] at limit
    refine ⟨congrArg History.trips history, limit.2 rfl, limit.1, fun _ => ?_, fun other => absurd latched other⟩
    exact ⟨congrArg History.overload history, congrArg History.cause history⟩
  · have stays : t = limited := whole.trans (if_neg latched)
    rw [stays, supply]
    exact ⟨rfl, rfl, rfl, fun is => absurd is latched, fun _ => ⟨rfl, rfl⟩⟩

theorem clampLimit_eq (w : Nat) : clampLimit w = if w = 0 then 0 else max 100 (min w 60000) := by
  unfold clampLimit
  split_ifs <;> omega

/-! ### A class's works, beside the parts they are made of -/

namespace HoldsOfWorks

variable {R : State → State → Prop}

theorem putRecord (h : HoldsOfWorks R) (k : TamperKind) (r : TamperRecord) (s : State) : R s (putRecord k r s) := by
  have place : k.code ≤ 7 := by cases k <;> decide
  have record : (recordBytes r).length = 11 := by simp [recordBytes]
  refine h.trans (h.trans (h.own (by simp)) (h.page _ (.inr (by omega)) ?_)) (h.page _ (.inr (by decide)) (by simp))
  rw [State.withTamper_tamper, TamperRecords.get_set_same]
  omega

theorem clearTamper (h : HoldsOfWorks R) (named : List TamperKind) (sequence : Nat) (s : State) :
    R s (clearTamper named sequence s) := by
  have cleared : R s (clearRecords (clearedKinds s.tamper.records named) s) :=
    List.foldlRecOn _ _ (h.refl s) fun u g k _ => h.trans g (h.putRecord k _ u)
  have told : R s (clearTold named sequence s) := by
    unfold clearTold
    dsimp only
    split
    · exact cleared
    · exact h.trans cleared (h.notice _ _ _ _)
  rw [clearTamper_eq]
  split
  · exact h.trans told (h.setCause _ _ _)
  · exact told

theorem paid (h : HoldsOfWorks R) (x : CreditTrigger) (c : Credit) (s : State) :
    R s (Machine.evaluateCredit x (pageCredit (s.withCredit c))) :=
  h.trans (h.withCredit c s) (h.evaluateCredit x _)

theorem applyPowerLimit (h : HoldsOfWorks R) (w : Nat) (s : State) : R s (applyPowerLimit w s) := by
  have limited := h.overSupply (fun p => { p with limit := w, trips := [], overCount := 0 }) s
  unfold Machine.applyPowerLimit
  dsimp only
  split
  · exact h.trans limited (h.endOverload _)
  · exact limited

theorem applyCode (h : HoldsOfWorks R) (c : Code) (s : State) : R s (applyCode c s) := by
  unfold Machine.applyCode
  split
  · exact h.paid _ _ s
  · exact h.clearTamper _ _ s
  · exact h.applyPowerLimit _ s
  · exact h.paid _ _ s
  · exact h.paid _ _ s
  · exact h.refl s

end HoldsOfWorks

/-! ### The acceptance (R100, R101) -/

section
variable (c : Code) (s : State)

theorem acceptCode_lists : OnlyTouches [.store, .code] (applyCode c s) (acceptCode c s) := by simp [acceptCode]

theorem acceptCode_code :
    (acceptCode c s).code = { s.code with accepted := acceptSeq c.seq s.code.accepted, failCount := 0 } := by
  have applied : (applyCode c s).code = s.code := applyCode_touches s c .code (by decide)
  rw [acceptCode, (pageCode_touches _ .code (by decide) : _ = _), overCode, State.withCode_code, applied]

theorem acceptCode_stripGrows : StripGrows s (acceptCode c s) :=
  (stripGrows_holds.applyCode c s).trans ((acceptCode_lists c s).stripGrows (by decide))

theorem acceptCode_waiting : (acceptCode c s).link.waiting = s.link.waiting :=
  ((workFrame_holds.applyCode c s).link.trans ((acceptCode_lists c s).linkGrows (by decide))).waiting

end

theorem mem_insertSeq (q : Nat) (l : List Nat) : q ∈ insertSeq q l := by
  induction l with
  | nil => simp [insertSeq]
  | cons x xs ih =>
    unfold insertSeq
    split
    · simp
    · exact List.mem_cons_of_mem _ ih

/-! ### The report and the arbiter (R91 to R93, R109, R110) -/

/-- The list, the count, the lock and the entry line stand. -/
structure ListStands (s t : State) : Prop where
  accepted : t.code.accepted = s.code.accepted
  failCount : t.code.failCount = s.code.failCount
  lock : t.code.lock = s.code.lock

theorem pageCode_code (s : State) : (pageCode s).code = s.code := pageCode_touches s .code (by decide)

theorem OnlyTouches.listStands {bs : List Block} {s t : State} (h : OnlyTouches bs s t) (m : Block.code ∉ bs) :
    ListStands s t := by
  have code : t.code = s.code := h .code m
  exact ⟨by rw [code], by rw [code], by rw [code]⟩

/-- The arbiter moves the decoder, the waiting submission and the key alone. -/
theorem arbitrate_code (s : State) :
    ListStands s (arbitrate s) ∧ (arbitrate s).code.line = s.code.line ∧ (arbitrate s).code.held = s.code.held := by
  let idle := pageCode (overCode (fun u => { u with decoder := .idle }) s)
  have idle_code : idle.code = { s.code with decoder := .idle } := pageCode_code _
  have whole : arbitrate s =
      if idle.code.waitingSub then takeSubmission idle
      else match idle.link.waiting.find? (isCodeSlip idle) with
        | some n => takeCodeSlip n idle
        | none => idle := rfl
  rw [whole]
  split
  · rw [takeSubmission]
    refine ⟨⟨?_, ?_, ?_⟩, ?_, ?_⟩
    all_goals rw [pageCode_code, overCode, State.withCode_code, idle_code]
  · split
    · rename_i n _
      have taken : (markTaken n idle).code = idle.code := markTaken_touches idle n .code (by decide)
      unfold takeCodeSlip
      dsimp only
      split
      all_goals
        refine ⟨⟨?_, ?_, ?_⟩, ?_, ?_⟩
        all_goals rw [pageCode_code, overCode, State.withCode_code, taken, idle_code]
    · refine ⟨⟨?_, ?_, ?_⟩, ?_, ?_⟩
      all_goals rw [idle_code]

theorem pageCode_sameBytes (s : State) : SameBytes (fun a => 0x200 ≤ a) s (pageCode s) :=
  poke_sameBytes s fun b above => .inr (by simp [codeBytes]; omega)

theorem pageEntry_sameBytes (s : State) : SameBytes (fun a => 0x200 ≤ a) s (pageEntry s) :=
  poke_sameBytes s fun b above => .inr (by simp [entryBytes]; omega)

/-- The arbiter leaves every byte above the page and off the waiting slips. -/
theorem arbitrate_sameBytes (s : State) :
    SameBytes (fun a => 0x200 ≤ a ∧ ∀ n ∈ s.link.waiting, OffSlip n a) s (arbitrate s) := by
  let idle := pageCode (overCode (fun u => { u with decoder := .idle }) s)
  have waits : idle.link.waiting = s.link.waiting :=
    congrArg Link.waiting (pageCode_touches (overCode (fun u => { u with decoder := .idle }) s) .link (by decide))
  have coded : ∀ f u, SameBytes (fun a => 0x200 ≤ a) u (pageCode (overCode f u)) := fun f u =>
    ((overCode_touches u f).sameBytes (by decide) _).trans (pageCode_sameBytes _)
  have idled : SameBytes (fun a => 0x200 ≤ a ∧ ∀ n ∈ s.link.waiting, OffSlip n a) s idle :=
    (coded _ s).mono fun _ h => h.1
  have whole : arbitrate s =
      if idle.code.waitingSub then takeSubmission idle
      else match idle.link.waiting.find? (isCodeSlip idle) with
        | some n => takeCodeSlip n idle
        | none => idle := rfl
  rw [whole]
  split
  · exact idled.trans ((coded _ idle).mono fun _ h => h.1)
  · split
    · rename_i n found
      have mem : n ∈ s.link.waiting := by
        rw [← waits]
        exact List.mem_of_find?_eq_some found
      have marked : SameBytes (fun a => 0x200 ≤ a ∧ ∀ n ∈ s.link.waiting, OffSlip n a) idle (markTaken n idle) :=
        (markTaken_offSlip n idle).mono fun _ h => h.2 n mem
      refine idled.trans (marked.trans ?_)
      unfold takeCodeSlip
      dsimp only
      split
      · exact (coded _ _).mono fun _ h => h.1
      · exact (coded _ _).mono fun _ h => h.1
    · exact idled

theorem arbitrate_slip {n : Fin 16} {s : State} (absent : n ∉ s.link.waiting) :
    SameBytes (slipPlace n) s (arbitrate s) :=
  (arbitrate_sameBytes s).mono fun _ place =>
    ⟨(Nat.le_add_right _ _).trans place.1,
      fun _ mem => slipPlace_offSlip (fun same => absent (by rw [same]; exact mem)) place⟩

theorem arbitrate_strip (s : State) : SameBytes noticeStrip s (arbitrate s) :=
  (arbitrate_sameBytes s).mono fun _ place => ⟨by unfold noticeStrip at place; omega, fun _ _ => offSlip_above _ place.1⟩

/-- A keypad submission's report ends the hold with the line cleared (R91, R92). -/
theorem reportDecode_keypad_code (v : Verdict) (c : Option Code) (r : TamperRecords) (s : State) :
    (reportDecode .keypad v c r s).code = { s.code with line := [], held := false, idle := 0 } := by
  have told : (keypadOutcome .fullCode v (codeDetail v c r s) s).code = s.code :=
    keypadOutcome_touches s .fullCode v _ .code (by decide)
  have entry : ∀ u, (pageEntry u).code = u.code := fun u => pageEntry_touches u .code (by decide)
  rw [reportDecode, endHold, pageCode_code, entry, overCode, State.withCode_code, told]

theorem reportDecode_listStands (src : Source) (v : Verdict) (c : Option Code) (r : TamperRecords) (s : State) :
    ListStands s (reportDecode src v c r s) := by
  match src with
  | .keypad =>
    have code := reportDecode_keypad_code v c r s
    exact ⟨by rw [code], by rw [code], by rw [code]⟩
  | .slip n true => exact (completeSlip_touches s n v _).listStands (by decide)
  | .slip _ false => exact (notice_touches s .codeRemote v.code _).listStands (by decide)

end Sys2Proof.Machine
end

section
/-! PROOF. DECODE_COMPLETION accepts a code (R67, R79, R80, R91, R92, R100, R106, R110, R132, R159, R161). -/

namespace Sys2Proof.Machine

/-- The end of a decode that accepts `c`: the class applied, the list and the count, the report, the arbiter. -/
def codeAccepted (src : Source) (c : Code) (s : State) : State :=
  arbitrate (reportDecode src .ok (some c) s.tamper.records (acceptCode c s))

theorem exec_decodeCompletion {src : Source} {chars : List Byte} {c : Code} {s : State} (running : isRunning s = true)
    (decoding : s.code.decoder = .decoding src chars) (judged : judgeCode chars s = (.ok, some c)) :
    exec .decodeCompletion s = .next (codeAccepted src c s) := by
  have finished : finishDecode src chars s = codeAccepted src c s := by
    rw [finishDecode, judged]
    rfl
  have run : exec .decodeCompletion s = execDecodeCompletion s := rfl
  rw [run, execDecodeCompletion, decoding]
  dsimp only
  rw [if_pos running, finished]

section
variable (src : Source) (c : Code) (s : State)

/-! ### The parts -/

/-- The list, the count, the report and the arbiter leave what the class moves. -/
theorem codeAccepted_beside : OnlyTouches [.store, .code, .link, .strip] (applyCode c s) (codeAccepted src c s) :=
  (((acceptCode_lists c s).mono (by decide)).trans (reportDecode_touches _ src .ok (some c) _)).trans
    ((arbitrate_touches _).mono (by decide))

theorem codeAccepted_credit : (codeAccepted src c s).credit = (applyCode c s).credit :=
  (codeAccepted_beside src c s).credit_eq (by decide)

theorem codeAccepted_supply : (codeAccepted src c s).supply = (applyCode c s).supply :=
  (codeAccepted_beside src c s).supply_eq (by decide)

theorem codeAccepted_tamper : (codeAccepted src c s).tamper = (applyCode c s).tamper :=
  codeAccepted_beside src c s .tamper (by decide)

/-- The sequence enters the list, the count is 0, and the lock stands (R100, R101). -/
theorem codeAccepted_lists :
    (codeAccepted src c s).code.accepted = acceptSeq c.seq s.code.accepted ∧
      (codeAccepted src c s).code.failCount = 0 ∧ (codeAccepted src c s).code.lock = s.code.lock := by
  obtain ⟨reported, failures, lock⟩ := reportDecode_listStands src .ok (some c) s.tamper.records (acceptCode c s)
  obtain ⟨⟨arbitrated, still, locked⟩, -, -⟩ :=
    arbitrate_code (reportDecode src .ok (some c) s.tamper.records (acceptCode c s))
  have code := acceptCode_code c s
  refine ⟨(arbitrated.trans reported).trans ?_, (still.trans failures).trans ?_, (locked.trans lock).trans ?_⟩
  all_goals rw [code]

/-! ### What each class does -/

theorem codeAccepted_paid (cls : c.cls = 1) :
    (codeAccepted src c s).credit.balance = s.credit.balance + c.value ∧
      (codeAccepted src c s).credit.debitRem = s.credit.debitRem ∧
      (codeAccepted src c s).credit.writtenOff = s.credit.writtenOff := by
  rw [codeAccepted_credit, applyCode_credit cls, addCredit, evaluateCredit_paid]
  exact ⟨rfl, rfl, rfl⟩

theorem cleared_latched {r : TamperRecord} (latched : r.status = .latched) :
    r.cleared = { r with status := .clear, onBattery := false } := if_pos latched

/-- CLEAR_TAMPER clears the named LATCHED kinds, and TAMPER where no disconnecting kind stands any more (R159, R161). -/
theorem codeAccepted_clears (cls : c.cls = 2) :
    let named := fun k : TamperKind => c.value.testBit k.code = true
    let cleared := fun k : TamperKind => named k ∧ (s.tamper.records.get k).status = .latched
    let t := codeAccepted src c s
    t.credit = s.credit ∧
      (∀ k, cleared k → t.tamper.records.get k =
        { s.tamper.records.get k with status := .clear, onBattery := false }) ∧
      (∀ k, ¬ cleared k → t.tamper.records.get k = s.tamper.records.get k) ∧
      t.supply.causes.tamper = (if (cleared .caseOpen ∨ cleared .bypass) ∧
          t.tamper.records.caseOpen.status = .clear ∧ t.tamper.records.bypass.status = .clear
        then false else s.supply.causes.tamper) := by
  intro named cleared t
  have found : ∀ k, k ∈ clearedKinds s.tamper.records (namedKinds c.value) ↔ cleared k := fun _ => mem_clearedKinds
  have records : ∀ k, t.tamper.records.get k =
      if cleared k then (s.tamper.records.get k).cleared else s.tamper.records.get k := fun k => by
    rw [codeAccepted_tamper, applyCode_clear cls, clearTamper_tamper, clearTold_get]
    exact if_congr (found k) rfl rfl
  refine ⟨?_, fun k does => ?_, fun k stays => by rw [records, if_neg stays], ?_⟩
  · rw [codeAccepted_credit, applyCode_clear cls]
    exact (clearTamper_touches s _ _).credit_eq (by decide)
  · rw [records, if_pos does, cleared_latched does.2]
  · rw [codeAccepted_supply, codeAccepted_tamper, applyCode_clear cls, clearTamper_cause]
    exact if_congr (and_congr_left' (or_congr (found _) (found _))) rfl rfl

theorem codeAccepted_limits (cls : c.cls = 3) :
    let t := codeAccepted src c s
    t.credit = s.credit ∧ t.supply.trips = [] ∧ t.supply.overCount = 0 ∧
      t.supply.limit = (if c.value = 0 then 0 else max 100 (min c.value 60000)) ∧
      (s.supply.overload = .latched → t.supply.overload = .none ∧ t.supply.causes.overload = false) ∧
      (s.supply.overload ≠ .latched →
        t.supply.overload = s.supply.overload ∧ t.supply.causes = s.supply.causes) := by
  intro t
  have limited := applyPowerLimit_supply (clampLimit c.value) s
  dsimp only at limited
  rw [← applyCode_limit cls, ← codeAccepted_supply src, clampLimit_eq] at limited
  refine ⟨?_, limited⟩
  rw [codeAccepted_credit, applyCode_limit cls]
  exact (applyPowerLimit_touches s _).credit_eq (by decide)

theorem codeAccepted_amount (cls : c.cls = 4) :
    let t := codeAccepted src c s
    t.credit.emergencyAmount = min c.value 100000 ∧ t.credit.balance = s.credit.balance ∧
      t.credit.debitRem = s.credit.debitRem ∧ t.credit.writtenOff = s.credit.writtenOff := by
  dsimp only
  rw [codeAccepted_credit, applyCode_amount cls, setEmergencyAmount, evaluateCredit_paid]
  exact ⟨rfl, rfl, rfl, rfl⟩

theorem codeAccepted_resets (cls : c.cls = 5) :
    let t := codeAccepted src c s
    t.credit.balance = 0 ∧ t.credit.debitRem = 0 ∧ t.credit.writtenOff = 0 ∧
      t.credit.emergencyAmount = s.credit.emergencyAmount ∧
      t.credit.emergency = if 0 < s.credit.emergencyAmount then .offered else .off := by
  dsimp only
  rw [codeAccepted_credit, applyCode_reset cls, resetCredit_emergency, resetCredit, evaluateCredit_paid]
  exact ⟨rfl, rfl, rfl, rfl, rfl⟩

end

/-! ### The report from each source -/

section
variable (c : Code) {s : State}

theorem acceptCode_up (running : isRunning s = true) : linkUp (acceptCode c s) = true := by
  rw [(acceptCode_touches s c).linkUp_eq (by decide), linkUp_of_isRunning running]

/-- The first byte of the newest notice. -/
theorem lastNotice_kind {t : State} {k : NoticeKind} {head : Nat} {x : Stamp} {d : List Byte}
    (last : lastNotice t 16 = noticeBytes k head x d) :
    peek t (0x600 + 16 * ((t.strip.writeIndex + 31) % 32)) = byteOf k.code := by
  have first := take_lastNotice last (n := 1) (by decide)
  exact (List.cons.inj first).1

/-- A slip's decode ends with OK, shown as long as the arbiter does not find the slip waiting. -/
theorem codeAccepted_slip {n : Fin 16} (running : isRunning s = true) (absent : n ∉ s.link.waiting) :
    slipState (codeAccepted (.slip n true) c s) n = .done ∧
      peek (codeAccepted (.slip n true) c s) (slipBase n + 2) = byteOf Verdict.ok.code := by
  let result := topupResult .ok (some c) s.tamper.records (acceptCode c s)
  have shown := completeSlip_shows n .ok result (acceptCode_up c running)
  have waits : (completeSlip n .ok result (acceptCode c s)).link.waiting = s.link.waiting :=
    (completeSlip_link n _ _ _).1.trans (acceptCode_waiting c s)
  obtain ⟨state, verdict, -⟩ := shown.later (arbitrate_slip (by rw [waits]; exact absent))
  exact ⟨state, verdict⟩

/-- The end of the hold and the arbiter leave the strip. -/
theorem arbitrate_endHold_strip (s : State) :
    (arbitrate (endHold (raise .keypad s))).strip = s.strip ∧
      SameBytes noticeStrip s (arbitrate (endHold (raise .keypad s))) := by
  have only : OnlyTouches [.store, .code, .link] s (arbitrate (endHold (raise .keypad s))) :=
    (((raise_touches s .keypad).mono (by decide)).trans ((endHold_touches _).mono (by decide))).trans
      (arbitrate_touches _)
  have raised : SameBytes noticeStrip s (raise .keypad s) := (raise_touches s .keypad).sameBytes (by decide) _
  have hold : SameBytes (fun a => 0x200 ≤ a) (raise .keypad s) (endHold (raise .keypad s)) :=
    (((overCode_touches _ _).sameBytes (by decide) _).trans (pageEntry_sameBytes _)).trans (pageCode_sameBytes _)
  have above : SameBytes noticeStrip (raise .keypad s) (endHold (raise .keypad s)) :=
    hold.mono fun a inside => by
      unfold noticeStrip at inside
      omega
  exact ⟨only .strip (by decide), (raised.trans above).trans (arbitrate_strip _)⟩

/-- The keypad's hold ends, with CODE_KEYPAD (R91, R92). -/
theorem codeAccepted_keypad (running : isRunning s = true) (index : s.strip.writeIndex ≤ 31)
    (count : s.strip.dropped < 65535) :
    let t := codeAccepted .keypad c s
    t.code.line = [] ∧ t.code.held = false ∧ (t.strip.dropped = s.strip.dropped →
      peek t (0x600 + 16 * ((t.strip.writeIndex + 31) % 32)) = byteOf NoticeKind.codeKeypad.code) := by
  have code := reportDecode_keypad_code .ok (some c) s.tamper.records (acceptCode c s)
  obtain ⟨-, line, held⟩ := arbitrate_code (reportDecode .keypad .ok (some c) s.tamper.records (acceptCode c s))
  dsimp only
  rw [codeAccepted, line, held, code]
  refine ⟨rfl, rfl, ?_⟩
  rw [reportDecode, keypadOutcome]
  have last := lastNotice_after (acceptCode_stripGrows c s) .codeKeypad (Entry.fullCode.code + 4 * Verdict.ok.code)
    (codeDetail .ok (some c) s.tamper.records (acceptCode c s)) (acceptCode_up c running) index count
  generalize notice .codeKeypad _ _ (acceptCode c s) = noted at last
  obtain ⟨strip, bytes⟩ := arbitrate_endHold_strip noted
  intro kept
  exact lastNotice_kind ((lastNotice_later strip bytes le_rfl).trans (last (by rw [← strip]; exact kept)))

theorem slipPlace_placeOf {n : Fin 16} {a : Nat} (inside : slipPlace n a) : placeOf a = .slips := by
  have slips := n.isLt
  obtain ⟨low, high⟩ := inside
  unfold slipBase at low high
  rw [placeOf, if_neg (by omega), if_pos (by omega)]

/-- A freed slip is not written, and CODE_REMOTE tells the outcome (R110). -/
theorem codeAccepted_freed (n : Fin 16) (running : isRunning s = true) (index : s.strip.writeIndex ≤ 31)
    (count : s.strip.dropped < 65535) :
    let t := codeAccepted (.slip n false) c s
    (n ∉ s.link.waiting → SameBytes (slipPlace n) s t) ∧ (t.strip.dropped = s.strip.dropped →
      peek t (0x600 + 16 * ((t.strip.writeIndex + 31) % 32)) = byteOf NoticeKind.codeRemote.code) := by
  let u := acceptCode c s
  let detail := codeDetail .ok (some c) s.tamper.records u
  let noted := notice .codeRemote Verdict.ok.code detail u
  have strip : (arbitrate noted).strip = noted.strip := arbitrate_touches noted .strip (by decide)
  refine ⟨fun absent => ?_, fun kept => ?_⟩
  · have waits : noted.link.waiting = s.link.waiting :=
      (workFrame_holds.notice .codeRemote Verdict.ok.code detail u).link.waiting.trans (acceptCode_waiting c s)
    have kept : Keeps [.page, .strip] s noted := (acceptCode_keeps s c).trans (notice_keeps u _ _ _)
    have told : SameBytes (slipPlace n) s noted := fun a place => (kept.2 index).2 a (by rw [slipPlace_placeOf place]; decide)
    exact told.trans (arbitrate_slip (by rw [waits]; exact absent))
  · have last := lastNotice_after (acceptCode_stripGrows c s) .codeRemote Verdict.ok.code detail (acceptCode_up c running)
      index count ((congrArg Strip.dropped strip).symm.trans kept)
    exact lastNotice_kind ((lastNotice_later strip (arbitrate_strip noted) le_rfl).trans last)

end

/-- Settles O31: the judgement passes, and then each clause by its lemma over the same end. -/
theorem decodeAcceptsACode : Obligations.DecodeAcceptsACode := by
  unfold Obligations.DecodeAcceptsACode
  intro s src chars digits running decoding spelled format key unlocked index count
  dsimp only
  intro check low high fresh current room names zero
  generalize code_eq : clearFields (clearPart (decimal digits) s.code.key) = c at *
  have judged : judgeCode chars s = (.ok, some c) := by
    rw [judgeCode_eq spelled format key unlocked check, code_eq, judgeFields_ok low high fresh current room names zero]
  obtain ⟨accepted, failures, lock⟩ := codeAccepted_lists src c s
  have beside : c.cls ≠ 2 → (codeAccepted src c s).tamper = s.tamper := fun cls =>
    (codeAccepted_tamper src c s).trans (applyCode_tamper cls s)
  refine ⟨_, exec_decodeCompletion running decoding judged, accepted, ?_, failures, lock.trans unlocked,
    codeAccepted_paid src c s, codeAccepted_clears src c s, beside, codeAccepted_limits src c s,
    codeAccepted_amount src c s, codeAccepted_resets src c s, ?_, ?_, ?_⟩
  · rw [accepted]
    exact mem_insertSeq c.seq _
  · rintro n rfl absent
    exact codeAccepted_slip c running absent
  · rintro rfl
    exact codeAccepted_keypad c running index count
  · rintro n rfl
    exact codeAccepted_freed c n running index count

end Sys2Proof.Machine
end

section
/-! SUPPORT. The clamp of a settings image and its marks (R183, R202). -/

namespace Sys2Proof.Machine

theorem clampTo_range {lo hi : Nat} (order : lo ≤ hi) (v : Nat) : lo ≤ clampTo lo hi v ∧ clampTo lo hi v ≤ hi := by
  unfold clampTo
  split_ifs <;> omega

theorem clampTo_eq {lo hi : Nat} (order : lo ≤ hi) (v : Nat) : clampTo lo hi v = max lo (min v hi) := by
  unfold clampTo
  split_ifs <;> omega

theorem clampTo_zero (hi v : Nat) : clampTo 0 hi v = min v hi := by
  rw [clampTo_eq hi.zero_le, Nat.zero_max]

theorem clampTo_of_range {lo hi v : Nat} (low : lo ≤ v) (high : v ≤ hi) : clampTo lo hi v = v := by
  rw [clampTo, if_neg (not_lt.mpr low), if_neg (not_lt.mpr high)]

namespace Settings

variable (g : Settings)

theorem badMinute_none {g : Settings} (start : g.friendlyStart ≤ 1439) (stop : g.friendlyEnd ≤ 1439) :
    g.badMinute = none := by
  rw [badMinute, if_neg (not_lt.mpr start), if_neg (not_lt.mpr stop)]

theorem badMinute_some {g : Settings} (bad : 1439 < g.friendlyStart ∨ 1439 < g.friendlyEnd) :
    g.badMinute = some (if 1439 < g.friendlyStart then 12 else 13) := by
  unfold badMinute
  by_cases start : 1439 < g.friendlyStart
  · rw [if_pos start, if_pos start]
  · rw [if_neg start, if_neg start, if_pos (bad.resolve_left start)]

/-- Each field at the nearest end of its range, field 9 against the W beside it. -/
theorem clamped_fields :
    g.clamped.creep = max 5 (min g.creep 500) ∧ g.clamped.imbRatio = max 3 (min g.imbRatio 50) ∧
      g.clamped.imbMin = max 50 (min g.imbMin 5000) ∧ g.clamped.nominal = max 100 (min g.nominal 260) ∧
      g.clamped.penalty = min g.penalty 30000 ∧ g.clamped.reverse = max 5 (min g.reverse 500) ∧
      g.clamped.magnet = max 1 (min g.magnet 1023) ∧ g.clamped.windowW = max 1 (min g.windowW 16) ∧
      g.clamped.windowK = max 1 (min g.windowK g.clamped.windowW) ∧
      g.clamped.lowCredit = min g.lowCredit 1000000 ∧ g.clamped.friendlyDebt = min g.friendlyDebt 1000000 ∧
      g.clamped.friendlyStart = g.friendlyStart ∧ g.clamped.friendlyEnd = g.friendlyEnd ∧
      g.clamped.weekend = g.weekend ∧ g.clamped.tripDelay = max 5 (min g.tripDelay 600) ∧
      g.clamped.recloseWait = max 10 (min g.recloseWait 3600) ∧ g.clamped.tripLimit = max 1 (min g.tripLimit 10) ∧
      g.clamped.idleTimeout = max 5 (min g.idleTimeout 120) ∧ g.clamped.holdTime = max 1 (min g.holdTime 60) := by
  have inner : ∀ {lo hi : Nat}, lo ≤ hi → ∀ v, clampTo lo hi v = max lo (min v hi) := clampTo_eq
  exact ⟨inner (by decide) _, inner (by decide) _, inner (by decide) _, inner (by decide) _, clampTo_zero _ _,
    inner (by decide) _, inner (by decide) _, inner (by decide) _, inner (clampTo_range (by decide) _).1 _,
    clampTo_zero _ _, clampTo_zero _ _, rfl, rfl, rfl, inner (by decide) _, inner (by decide) _, inner (by decide) _,
    inner (by decide) _, inner (by decide) _⟩

theorem clamped_inRange {g : Settings} (start : g.friendlyStart ≤ 1439) (stop : g.friendlyEnd ≤ 1439) :
    g.clamped.inRange := by
  have within : ∀ {lo hi : Nat}, lo ≤ hi → ∀ v, lo ≤ clampTo lo hi v ∧ clampTo lo hi v ≤ hi := clampTo_range
  exact ⟨within (by decide) _, within (by decide) _, within (by decide) _, within (by decide) _,
    (clampTo_zero _ _).trans_le (min_le_right _ _), within (by decide) _, within (by decide) _, within (by decide) _,
    within (clampTo_range (hi := 16) (by decide) _).1 _, (clampTo_zero _ _).trans_le (min_le_right _ _),
    (clampTo_zero _ _).trans_le (min_le_right _ _), start, stop,
    within (by decide) _, within (by decide) _, within (by decide) _, within (by decide) _, within (by decide) _⟩

/-- A record in range is left as it is. -/
theorem clamped_of_inRange {g : Settings} (range : g.inRange) : g.clamped = g := by
  obtain ⟨creep, ratio, least, nominal, penalty, reverse, magnet, w, k, low, debt, -, -, delay, wait, trips, idle, hold⟩ :=
    range
  have clampedW : clampTo 1 16 g.windowW = g.windowW := clampTo_of_range w.1 w.2
  unfold clamped
  dsimp only
  rw [clampedW, clampTo_of_range creep.1 creep.2, clampTo_of_range ratio.1 ratio.2, clampTo_of_range least.1 least.2,
    clampTo_of_range nominal.1 nominal.2, clampTo_of_range (Nat.zero_le _) penalty,
    clampTo_of_range reverse.1 reverse.2, clampTo_of_range magnet.1 magnet.2, clampTo_of_range k.1 k.2,
    clampTo_of_range (Nat.zero_le _) low, clampTo_of_range (Nat.zero_le _) debt, clampTo_of_range delay.1 delay.2,
    clampTo_of_range wait.1 wait.2, clampTo_of_range trips.1 trips.2, clampTo_of_range idle.1 idle.2,
    clampTo_of_range hold.1 hold.2]

theorem clampMarks_of_inRange {g : Settings} (range : g.inRange) :
    g.clampMarks.any id = false ∧ bitsNat g.clampMarks = 0 := by
  simp [clampMarks, clamped_of_inRange range, bitsNat]

/-- A field out of range leaves a mark. -/
theorem clampMarks_any {g : Settings} (start : g.friendlyStart ≤ 1439) (stop : g.friendlyEnd ≤ 1439)
    (outside : ¬ g.inRange) : g.clampMarks.any id = true := by
  by_contra none
  have same : g.clamped = g := by
    simp only [clampMarks, List.any_cons, List.any_nil, id, Bool.or_eq_true, decide_eq_true_eq, not_or,
      not_ne_iff] at none
    obtain ⟨creep, ratio, least, nominal, penalty, reverse, magnet, w, k, low, debt, -, -, -, delay, wait, trips,
      ⟨idle, hold⟩, -⟩ := none
    simp only [clamped] at *
    rw [creep, ratio, least, nominal, penalty, reverse, magnet, k, w, low, debt, delay, wait, trips, idle, hold]
  exact outside (by rw [← same]; exact clamped_inRange start stop)

/-- The marks as one number, field f in bit f − 1 (R202). -/
theorem bitsNat_clampMarks :
    let c := g.clamped
    let mark := fun (a b field : Nat) => if a = b then 0 else 2 ^ (field - 1)
    bitsNat g.clampMarks =
      mark c.creep g.creep 1 + mark c.imbRatio g.imbRatio 2 + mark c.imbMin g.imbMin 3 +
        mark c.nominal g.nominal 4 + mark c.penalty g.penalty 5 + mark c.reverse g.reverse 6 +
        mark c.magnet g.magnet 7 + mark c.windowW g.windowW 8 + mark c.windowK g.windowK 9 +
        mark c.lowCredit g.lowCredit 10 + mark c.friendlyDebt g.friendlyDebt 11 +
        mark c.tripDelay g.tripDelay 15 + mark c.recloseWait g.recloseWait 16 +
        mark c.tripLimit g.tripLimit 17 +
        (if c.idleTimeout = g.idleTimeout ∧ c.holdTime = g.holdTime then 0 else 2 ^ 17) := by
  intro c mark
  have marked : ∀ a b field, mark a b field = 2 ^ (field - 1) * (decide (a ≠ b)).toNat := fun a b field => by
    by_cases same : a = b <;> simp [mark, same]
  have both : (if c.idleTimeout = g.idleTimeout ∧ c.holdTime = g.holdTime then 0 else 2 ^ 17) =
      2 ^ 17 * (decide (c.idleTimeout ≠ g.idleTimeout) || decide (c.holdTime ≠ g.holdTime)).toNat := by
    by_cases idle : c.idleTimeout = g.idleTimeout <;> by_cases hold : c.holdTime = g.holdTime <;> simp [idle, hold]
  simp only [marked, both, clampMarks, bitsNat, Bool.toNat_false]
  ring

end Settings

end Sys2Proof.Machine
end

section
/-! PROOF. SETTINGS_WRITE (R73, R81, R89, R148, R182 to R184). -/

namespace Sys2Proof.Machine

/-! ### The record installed (R184) -/

section
variable (g : Settings) (s : State)

/-- The record in place, the windows and the idle line judged by it, before the evaluation. -/
def settingsJudged : State := judgeIdle (clearWindows s.settings g (s.withSettings g))

theorem settingsJudged_touches : OnlyTouches [.store, .code, .tamper, .settings, .freeCount] s (settingsJudged g s) := by
  simp [settingsJudged]

theorem settingsJudged_settings : (settingsJudged g s).settings = g :=
  OnlyTouches.trans (bs := [.store, .code, .tamper, .freeCount]) ((clearWindows_touches _ s.settings g).mono (by decide))
    ((judgeIdle_touches _).mono (by decide)) .settings (by decide)

theorem installSettings_settings : (installSettings g s).settings = g :=
  Eq.trans (evaluateCredit_touches (settingsJudged g s) .settings .settings (by decide)) (settingsJudged_settings g s)

/-- The credit unit evaluates by the record just installed (R81). -/
theorem installSettings_credit : (installSettings g s).credit = s.credit.evaluated g s.clock := by
  have judged := settingsJudged_touches g s
  have evaluated := evaluateCredit_credit .settings (settingsJudged g s)
  rw [settingsJudged_settings, judged.credit_eq (by decide), judged.clock_eq (by decide)] at evaluated
  exact evaluated

/-- The CREDIT cause follows the evaluation to and from EXHAUSTED (R73). -/
theorem installSettings_cause :
    (s.credit.state ≠ .exhausted → (installSettings g s).credit.state = .exhausted →
      (installSettings g s).supply.causes.credit = true) ∧
    (s.credit.state = .exhausted → (installSettings g s).credit.state ≠ .exhausted →
      (installSettings g s).supply.causes.credit = false) := by
  obtain ⟨-, into, out⟩ := evaluateCredit_effects .settings (settingsJudged g s)
  rw [(settingsJudged_touches g s).credit_eq (by decide)] at into out
  exact ⟨into, out⟩

/-- The five windows are cleared where W or K changes, and no record moves (R148). -/
theorem installSettings_tamper :
    (installSettings g s).tamper.windows =
        (if g.windowW = s.settings.windowW ∧ g.windowK = s.settings.windowK then s.tamper.windows
          else Windows.empty) ∧
      (installSettings g s).tamper.records = s.tamper.records := by
  have rest : (installSettings g s).tamper = (clearWindows s.settings g (s.withSettings g)).tamper :=
    OnlyTouches.trans (bs := [.store, .conv, .credit, .code, .supply, .link, .strip, .profile, .freeCount])
      ((judgeIdle_touches _).mono (by decide)) ((evaluateCredit_touches _ .settings).mono (by decide)) .tamper (by decide)
  rw [rest, clearWindows]
  by_cases same : g.windowW = s.settings.windowW ∧ g.windowK = s.settings.windowK
  · rw [if_pos same, if_neg (by simp [same])]
    exact ⟨rfl, rfl⟩
  · rw [if_neg same, if_pos (by rw [not_and_or] at same; exact same.imp Ne.symm Ne.symm)]
    exact ⟨rfl, rfl⟩

end

theorem idleExpires_code (s : State) : (idleExpires s).code = { s.code with line := [] } := by
  have entry : (pageEntry (clearLine s)).code = (clearLine s).code := pageEntry_touches _ .code (by decide)
  unfold idleExpires
  split
  case isTrue empty => rw [← empty]
  case isFalse => rw [entry]; rfl

/-- A line idle beyond the new timeout is cleared, one within it stays (R89). -/
theorem judgeIdle_code {s : State} (counts : idleCounts s.code = true) :
    (s.settings.idleTimeout < s.code.idle → (judgeIdle s).code = { s.code with line := [] }) ∧
      (s.code.idle < s.settings.idleTimeout → (judgeIdle s).code = s.code) := by
  unfold judgeIdle
  rw [if_pos counts]
  refine ⟨fun beyond => ?_, fun within => ?_⟩
  · rw [if_pos beyond, idleExpires_code]
  · rw [if_neg (by omega), if_neg (by omega)]

theorem installSettings_code (g : Settings) {s : State} (scanning : s.code.scanning = true) (held : s.code.held = false) :
    (g.idleTimeout < s.code.idle → (installSettings g s).code = { s.code with line := [] }) ∧
      (s.code.idle < g.idleTimeout → (installSettings g s).code = s.code) := by
  have cleared := clearWindows_touches (s.withSettings g) s.settings g
  have code : (clearWindows s.settings g (s.withSettings g)).code = s.code := cleared .code (by decide)
  have settings : (clearWindows s.settings g (s.withSettings g)).settings = g := cleared .settings (by decide)
  have judged := judgeIdle_code (s := clearWindows s.settings g (s.withSettings g))
    (by rw [code]; simp [idleCounts, scanning, held])
  have evaluated : (installSettings g s).code = (settingsJudged g s).code :=
    evaluateCredit_touches _ .settings .code (by decide)
  rw [code, settings] at judged
  rw [evaluated]
  exact judged

/-! ### The posted slip -/

theorem peekBytes_drop (s : State) (a k n : Nat) : peekBytes s (a + k) n = (peekBytes s a (k + n)).drop k := by
  unfold peekBytes
  induction k generalizing a with
  | zero => simp
  | succ k ih =>
    rw [Nat.add_right_comm k 1 n, readCells, List.drop_succ_cons, ← ih, Nat.add_right_comm, Nat.add_assoc]

/-- The offset and the action a posted WRITE carries. -/
theorem settingsWrite_args (n : Fin 16) (off : BitVec 16) {s : State} (running : isRunning s = true) :
    slipArg (slipPosted n 6 (leBytes 2 off.toNat ++ [1]) s) n 4 2 = off.toNat ∧
      slipArg (slipPosted n 6 (leBytes 2 off.toNat ++ [1]) s) n 6 1 = 1 := by
  have body := (slipPosted_body (args := leBytes 2 off.toNat ++ [1]) n 6 running).2
  have whole : peekBytes (slipPosted n 6 (leBytes 2 off.toNat ++ [1]) s) (slipBase n + 4) 3 =
      leBytes 2 off.toNat ++ [1] := body
  constructor
  · rw [slipArg, peekNat, peekBytes_take _ _ 2 1, whole, List.take_left' (by simp), leNat_leBytes]
    exact Nat.mod_eq_of_lt off.isLt
  · rw [slipArg, peekNat, peekBytes_drop _ (slipBase n + 4) 2 1, whole, List.drop_left' (by simp)]
    rfl

/-- A posted WRITE as it is taken: judged by its offset, over the slip taken and nothing else moved. -/
theorem settingsWrite_taken {n : Fin 16} {s : State} (off : BitVec 16) (free : Postable s n) :
    ∃ m, SlipFrame n s m ∧
      exec (.settingsWrite n off) s = .next (if inOpenArea off.toNat 40 then settingsWrite n off.toNat m
        else completeSlip n .badArgument [] m) := by
  obtain ⟨running, -, -⟩ := id free
  have posted := slipPosted_frame n 6 (args := leBytes 2 off.toNat ++ [1]) running (by simp)
  obtain ⟨place, action⟩ := settingsWrite_args n off running
  obtain ⟨kind, -⟩ := slipPosted_body (args := leBytes 2 off.toNat ++ [1]) n 6 running
  have filled := postFilled_eq (args := leBytes 2 off.toNat ++ [1]) n 6 free (by simp)
  generalize slipPosted n 6 (leBytes 2 off.toNat ++ [1]) s = p at *
  have kind_eq : slipKind p n = 6 := kind
  have accept : accepts p n = true := by simp [accepts, isCodeSlip, isLoadSlip, kind_eq]
  have take : takeSlip n p = takeSettings n p := by
    unfold takeSlip
    rw [kind_eq]
    rfl
  have run : exec (.settingsWrite n off) s = .next (postFilled n 6 (leBytes 2 off.toNat ++ [1]) s) := rfl
  refine ⟨markTaken n p, posted.marked, ?_⟩
  rw [run, filled, if_pos accept, take, takeSettings, place, action]
  rfl

section
variable {n : Fin 16} {s m : State} {off : Nat}

/-- The image is read as the host left it. -/
theorem SlipFrame.image (frame : SlipFrame n s m) (inside : inOpenArea off 40 = true) :
    peekBytes m off 40 = peekBytes s off 40 := by
  simp only [inOpenArea, decide_eq_true_eq] at inside
  exact frame.bytes.peekBytes_eq fun b low _ => offSlip_above n (by omega)

theorem settingsWrite_refuses {field : Nat} (bad : (Settings.ofImage (peekBytes m off 40)).badMinute = some field) :
    settingsWrite n off m = completeSlip n .badArgument [byteOf field] m := by
  unfold settingsWrite
  dsimp only
  rw [bad]

/-- The end of a WRITE that is taken: the clamped record installed, the clamps reported. -/
def settingsDone (n : Fin 16) (g : Settings) (m : State) : State :=
  completeSlip n (if g.clampMarks.any id then .okClamped else .ok) (0 :: clampBytes g) (installSettings g.clamped m)

theorem settingsWrite_installs {g : Settings} (image : Settings.ofImage (peekBytes m off 40) = g)
    (good : g.badMinute = none) : settingsWrite n off m = settingsDone n g m := by
  unfold settingsWrite
  dsimp only
  rw [image, good]
  rfl

theorem settingsDone_beside (n : Fin 16) (g : Settings) (m : State) :
    OnlyTouches [.store, .link] (installSettings g.clamped m) (settingsDone n g m) :=
  completeSlip_touches _ n _ _

theorem settingsDone_shows (n : Fin 16) (g : Settings) (up : linkUp m = true) :
    SlipShows (settingsDone n g m) n (if g.clampMarks.any id then .okClamped else .ok) (0 :: clampBytes g) :=
  completeSlip_shows n _ _ (by rw [(installSettings_touches m g.clamped).linkUp_eq (by decide), up])

/-- A record in range is reported with OK and no clamp. -/
theorem settingsDone_shows_ok (n : Fin 16) {g : Settings} (up : linkUp m = true) (range : g.inRange) :
    SlipShows (settingsDone n g m) n .ok [0] := by
  obtain ⟨none, zero⟩ := Settings.clampMarks_of_inRange range
  have shown := settingsDone_shows n g up
  rw [none, clampBytes, zero] at shown
  exact shown

/-- A record out of range is reported with its clamped fields. -/
theorem settingsDone_shows_clamped (n : Fin 16) {g : Settings} (up : linkUp m = true) (start : g.friendlyStart ≤ 1439)
    (stop : g.friendlyEnd ≤ 1439) (outside : ¬ g.inRange) :
    SlipShows (settingsDone n g m) n .okClamped (0 :: leBytes 3 (bitsNat g.clampMarks)) := by
  have shown := settingsDone_shows n g up
  rw [Settings.clampMarks_any start stop outside] at shown
  exact shown

/-- What the installed record leaves of each block, told from the state the slip was posted in. -/
theorem SlipFrame.installed (frame : SlipFrame n s m) (g : Settings) :
    let t := settingsDone n g m
    t.settings = g.clamped ∧ t.credit = s.credit.evaluated g.clamped s.clock ∧
      (s.credit.state ≠ .exhausted → t.credit.state = .exhausted → t.supply.causes.credit = true) ∧
      (s.credit.state = .exhausted → t.credit.state ≠ .exhausted → t.supply.causes.credit = false) ∧
      t.tamper.windows = (if g.clamped.windowW = s.settings.windowW ∧ g.clamped.windowK = s.settings.windowK
        then s.tamper.windows else Windows.empty) ∧
      t.tamper.records = s.tamper.records ∧
      (s.code.scanning = true → s.code.held = false →
        (g.clamped.idleTimeout < s.code.idle → t.code = { s.code with line := [] }) ∧
        (s.code.idle < g.clamped.idleTimeout → t.code = s.code)) := by
  have code : m.code = s.code := frame.touches .code (by decide)
  have settings : m.settings = s.settings := frame.touches .settings (by decide)
  have tamper : m.tamper = s.tamper := frame.touches .tamper (by decide)
  have credit : m.credit = s.credit := frame.touches .credit (by decide)
  have clock := frame.touches.clock_eq (by decide)
  have beside := settingsDone_beside n g m
  have tcode : (settingsDone n g m).code = (installSettings g.clamped m).code := beside .code (by decide)
  have tsettings : (settingsDone n g m).settings = (installSettings g.clamped m).settings := beside .settings (by decide)
  have ttamper : (settingsDone n g m).tamper = (installSettings g.clamped m).tamper := beside .tamper (by decide)
  obtain ⟨windows, records⟩ := installSettings_tamper g.clamped m
  have account := installSettings_credit g.clamped m
  have cause := installSettings_cause g.clamped m
  have line := installSettings_code g.clamped (s := m)
  rw [credit, clock] at account
  rw [credit] at cause
  rw [settings, tamper] at windows
  rw [tamper] at records
  rw [code] at line
  dsimp only
  rw [tcode, tsettings, ttamper, beside.credit_eq (by decide), beside.supply_eq (by decide)]
  exact ⟨installSettings_settings g.clamped m, account, cause.1, cause.2, windows, records, line⟩

/-- A refused slip moves nothing but itself. -/
theorem SlipFrame.refused (frame : SlipFrame n s m) (result : List Byte) :
    OnlyTouches [.store, .link] s (completeSlip n .badArgument result m) ∧
      SlipShows (completeSlip n .badArgument result m) n .badArgument result :=
  ⟨(frame.completed .badArgument result).touches, completeSlip_shows n .badArgument result frame.up⟩

end

/-- Settles O57: the offset, then the minutes, then the clamped record installed. -/
theorem settingsWriteInstallsTheImage : Obligations.SettingsWriteInstallsTheImage := by
  unfold Obligations.SettingsWriteInstallsTheImage
  intro n off s free
  obtain ⟨m, frame, run⟩ := settingsWrite_taken off free
  dsimp only
  generalize image : Settings.ofImage (peekBytes s off.toNat 40) = g
  refine ⟨fun inside start stop => ?_, fun inside bad => ?_, fun outside => ?_⟩
  · rw [if_pos inside, settingsWrite_installs (by rw [frame.image inside, image])
      (Settings.badMinute_none start stop)] at run
    obtain ⟨record, rest⟩ := frame.installed g
    refine ⟨_, run, ?_⟩
    rw [record]
    refine ⟨Settings.clamped_inRange start stop, g.clamped_fields, fun range =>
      ⟨Settings.clamped_of_inRange range, settingsDone_shows_ok n frame.up range⟩, fun other => ?_, rest⟩
    rw [← g.bitsNat_clampMarks]
    exact settingsDone_shows_clamped n frame.up start stop other
  · rw [if_pos inside, settingsWrite_refuses (by rw [frame.image inside, image]; exact Settings.badMinute_some bad),
      apply_ite byteOf] at run
    exact ⟨_, run, frame.refused _⟩
  · rw [if_neg (by simp [outside])] at run
    exact ⟨_, run, frame.refused []⟩

end Sys2Proof.Machine
end

section
/-! SUPPORT. The accepted-sequence list under an acceptance (R99, R101): it stays ascending and bounded, what is spent stays
spent, and what a code is accepted under was not. -/

namespace Sys2Proof.Machine

/-! ### The list -/

theorem rising_iff_pairwise (l : List Nat) : Rising l ↔ l.Pairwise (· < ·) := by
  induction l with
  | nil => simp [Rising]
  | cons x xs ih => rw [Rising, List.pairwise_cons, ih]

theorem insertSeq_perm (q : Nat) (l : List Nat) : (insertSeq q l).Perm (q :: l) := by
  induction l with
  | nil => exact List.Perm.refl _
  | cons x xs ih =>
    unfold insertSeq
    split
    · exact List.Perm.refl _
    · exact (ih.cons x).trans (List.Perm.swap q x xs)

theorem mem_insertSeq_iff {q r : Nat} {l : List Nat} : r ∈ insertSeq q l ↔ r = q ∨ r ∈ l :=
  (insertSeq_perm q l).mem_iff.trans List.mem_cons

/-- A new entry put in its place leaves the list strictly rising. -/
theorem insertSeq_rising {q : Nat} {l : List Nat} (fresh : q ∉ l) (rising : Rising l) : Rising (insertSeq q l) := by
  induction l with
  | nil => exact ⟨by simp, trivial⟩
  | cons x xs ih =>
    obtain ⟨least, rest⟩ := rising
    obtain ⟨other, absent⟩ := not_or.mp (mt List.mem_cons.mpr fresh)
    unfold insertSeq
    split
    · rename_i before
      refine ⟨fun y mem => ?_, least, rest⟩
      rcases List.mem_cons.mp mem with rfl | mem
      · exact before
      · exact before.trans (least y mem)
    · refine ⟨fun y mem => ?_, ih absent rest⟩
      rcases mem_insertSeq_iff.mp mem with rfl | mem
      · omega
      · exact least y mem

/-- The list an accepted sequence is put into: without its smallest entry where it is full (R101). -/
def roomFor (l : List Nat) : List Nat := if listTop ≤ l.length then l.drop 1 else l

theorem acceptSeq_eq (q : Nat) (l : List Nat) : acceptSeq q l = insertSeq q (roomFor l) := rfl

theorem roomFor_sublist (l : List Nat) : (roomFor l).Sublist l := by
  unfold roomFor
  split
  · exact List.drop_sublist 1 l
  · exact List.Sublist.refl l

theorem length_roomFor {l : List Nat} (bound : l.length ≤ 40) : (roomFor l).length ≤ 39 := by
  unfold roomFor listTop
  split
  · rw [List.length_drop]
    omega
  · omega

theorem mem_acceptSeq (q : Nat) (l : List Nat) : q ∈ acceptSeq q l := mem_insertSeq q _

/-- An acceptance of a sequence that is not listed keeps the list in its form (R101). -/
theorem acceptSeq_acceptedWell {q : Nat} {l : List Nat} (small : q < 2 ^ 20) (fresh : q ∉ l) (well : acceptedWell l) :
    acceptedWell (acceptSeq q l) := by
  obtain ⟨rising, bound, sequences⟩ := well
  have kept := roomFor_sublist l
  have short := length_roomFor bound
  rw [acceptSeq_eq]
  refine ⟨insertSeq_rising (fun mem => fresh (kept.subset mem)) ?_, ?_, fun r mem => ?_⟩
  · rw [rising_iff_pairwise] at rising ⊢
    exact rising.sublist kept
  · rw [(insertSeq_perm q _).length_eq, List.length_cons]
    omega
  · rcases mem_insertSeq_iff.mp mem with rfl | mem
    · exact small
    · exact sequences r (kept.subset mem)

/-! ### What is spent -/

theorem spent_acceptSeq (q : Nat) (l : List Nat) : Spent q (acceptSeq q l) := .inl (mem_acceptSeq q l)

/-- A sequence accepted over a full list lies above its smallest entry. -/
theorem head_lt_of_not_spent {q x : Nat} {xs : List Nat} (fresh : ¬ Spent q (x :: xs)) (rising : Rising (x :: xs))
    (full : 40 ≤ (x :: xs).length) : x < q := by
  obtain ⟨absent, current⟩ := not_or.mp fresh
  obtain ⟨other, -⟩ := not_or.mp (mt List.mem_cons.mpr absent)
  by_contra below
  refine current ⟨full, fun y mem => ?_⟩
  rcases List.mem_cons.mp mem with rfl | mem
  · omega
  · exact (show q < x by omega).trans (rising.1 y mem)

/-- What is spent stays spent when another sequence is accepted: the entry that is dropped lies below every entry that
stays (R101). -/
theorem spent_of_acceptSeq {q r : Nat} {l : List Nat} (well : acceptedWell l) (fresh : ¬ Spent q l) (spent : Spent r l) :
    Spent r (acceptSeq q l) := by
  obtain ⟨rising, bound, -⟩ := well
  rw [acceptSeq_eq]
  by_cases full : 40 ≤ l.length
  · cases l with
    | nil => simp at full
    | cons x xs =>
      have above := head_lt_of_not_spent fresh rising full
      have room : roomFor (x :: xs) = xs := if_pos full
      have length : 40 ≤ (insertSeq q xs).length := by
        rw [(insertSeq_perm q xs).length_eq]
        exact full
      have below : r ≤ x → Spent r (insertSeq q xs) := fun low => .inr ⟨length, fun y mem => by
        rcases mem_insertSeq_iff.mp mem with rfl | mem
        · omega
        · exact lt_of_le_of_lt low (rising.1 y mem)⟩
      rw [room]
      rcases spent with listed | ⟨-, under⟩
      · rcases List.mem_cons.mp listed with rfl | listed
        · exact below le_rfl
        · exact .inl (mem_insertSeq_iff.mpr (.inr listed))
      · exact below (under x List.mem_cons_self).le
  · have room : roomFor l = l := if_neg full
    rw [room]
    exact spent.imp (fun listed => mem_insertSeq_iff.mpr (.inr listed)) fun ⟨long, _⟩ => absurd long full

/-! ### The judgement -/

/-- Step 8 of the judgement: a code that passes is neither USED nor STALE (R99). -/
theorem judgeFields_not_spent {c : Code} {accepted : List Nat} {credit : Credit}
    (passed : judgeFields c accepted credit = .ok) : ¬ Spent c.seq accepted := by
  unfold judgeFields at passed
  split_ifs at passed with _ used stale
  rintro (listed | ⟨full, under⟩)
  · exact used listed
  · cases accepted with
    | nil => simp at full
    | cons x xs => exact stale ⟨full, by simp [under x List.mem_cons_self]⟩

theorem judgeCode_not_spent {chars : List Byte} {s : State} {c : Code} (passed : judgeCode chars s = (.ok, some c)) :
    ¬ Spent c.seq s.code.accepted := judgeFields_not_spent (judgeCode_ok passed)

/-- The clear fields hold a sequence of 20 bits (R97). -/
theorem judgeCode_seq_lt {chars : List Byte} {s : State} {v : Verdict} {c : Code}
    (judged : judgeCode chars s = (v, some c)) : c.seq < 2 ^ 20 := by
  unfold judgeCode at judged
  split at judged
  · simp at judged
  · dsimp only at judged
    split_ifs at judged <;> simp at judged
    obtain ⟨-, rfl⟩ := judged
    exact Nat.mod_lt _ (by decide)

end Sys2Proof.Machine
end

section
/-! SUPPORT. What moves the code unit, what brings the machine to CLOSING and what touches the marks of retained memory,
packaged once for any property of these three: kept by every command, where a CONFIRM that it takes keeps it. -/

namespace Sys2Proof.Machine

/-- The code unit stands, the machine has not come to CLOSING, and retained memory that was valid is so. -/
structure CodeStands (s t : State) : Prop where
  code : t.code = s.code
  closing : t.supply.machine = .closing → s.supply.machine = .closing
  retained : retainedValid s.power = true → retainedValid t.power = true

/-- A property of the code unit, of a machine in CLOSING and of valid retained memory, that the moves of the code unit and
a first start keep. -/
structure KeptByMoves (P : State → Prop) : Prop where
  stands : ∀ {s t}, CodeStands s t → P s → P t
  /-- Any item but the accepted list, within the ranges. -/
  moved : ∀ {s} {u : CodeUnit}, u.accepted = s.code.accepted → (s.code.inRange → u.inRange) → P s → P (s.withCode u)
  /-- A sequence that is not spent is accepted (R99, R101). -/
  accept : ∀ {q s}, q < 2 ^ 20 → ¬ Spent q s.code.accepted → P s →
    P (s.withCode { s.code with accepted := acceptSeq q s.code.accepted, failCount := 0 })
  startStep1 : ∀ {s}, P s → P (startStep1 s)

/-- The parts in which the code unit, the machine and the marks of retained memory lie. -/
def moveBlocks : List Block := [.code, .supply, .power]

/-- A command that a CONFIRM can come from: ENTER on an empty line while RUNNING (R90). -/
def Confirms (c : Instr) (s : State) : Prop := c = .keyPress .enter ∧ isRunning s = true ∧ s.code.line = []

namespace KeptByMoves

variable {P : State → Prop}

theorem beside (h : KeptByMoves P) {bs : List Block} {s t : State} (only : OnlyTouches bs s t)
    (m : ∀ b ∈ moveBlocks, b ∉ bs) (p : P s) : P t :=
  h.stands ⟨only .code (m _ (by decide)), fun closing => only.supply_eq (m _ (by decide)) ▸ closing,
    fun valid => only.power_eq (m _ (by decide)) ▸ valid⟩ p

/-- The code unit, the machine's state and the marks of retained memory are the same in both states. -/
theorem unmoved (h : KeptByMoves P) {s t : State} (p : P s) (code : t.code = s.code)
    (machine : t.supply.machine = s.supply.machine) (marks : retainedValid t.power = retainedValid s.power) : P t :=
  h.stands ⟨code, fun closing => machine ▸ closing, fun valid => marks.trans valid⟩ p

/-! ### The supply controller -/

/-- An operation that moves neither the code unit nor the power logic, and brings the machine to no CLOSING. -/
theorem machineMoved (h : KeptByMoves P) {bs : List Block} {s t : State} (only : OnlyTouches bs s t)
    (m : ∀ b ∈ [Block.code, .power], b ∉ bs) (closing : t.supply.machine = .closing → s.supply.machine = .closing)
    (p : P s) : P t :=
  h.stands ⟨only .code (m _ (by decide)), closing, fun valid => only.power_eq (m _ (by decide)) ▸ valid⟩ p

/-- A state change to another state than CLOSING. -/
theorem change (h : KeptByMoves P) (m : MachineState) (x : SupplyTrigger) (u : Bool) {s : State} (other : m ≠ .closing)
    (p : P s) : P (changeMachine m x u s) :=
  h.machineMoved (changeMachine_touches s m x u) (by decide) (fun closing => absurd (by simpa using closing) other) p

/-- An update of the supply controller that leaves the machine. -/
theorem supplied (h : KeptByMoves P) (f : Supply → Supply) {s : State} (machine : (f s.supply).machine = s.supply.machine)
    (p : P s) : P (overSupply f s) :=
  h.machineMoved (overSupply_touches s f) (by decide) (fun closing => machine ▸ closing) p

theorem suppliedPage (h : KeptByMoves P) (f : Supply → Supply) {s : State}
    (machine : (f s.supply).machine = s.supply.machine) (p : P s) : P (pageSupply (overSupply f s)) :=
  h.beside (pageSupply_touches _) (by decide) (h.supplied f machine p)

theorem beginPulse (h : KeptByMoves P) (d : Direction) {s : State} (p : P s) : P (beginPulse d s) :=
  h.beside (withConv_touches _ s.conv.pulseBegins) (by decide) (h.supplied _ rfl p)

theorem beginAttempt (h : KeptByMoves P) (d : Direction) {s : State} (p : P s) : P (beginAttempt d s) :=
  h.beside (pageSupply_touches _) (by decide) (h.beginPulse d (h.supplied _ rfl p))

theorem enterOpening (h : KeptByMoves P) (x : SupplyTrigger) {s : State} (p : P s) : P (enterOpening x s) :=
  h.beginAttempt _ (h.change .opening x false (by decide) p)

theorem actOnCauses (h : KeptByMoves P) {s : State} (p : P s) : P (actOnCauses s) := by
  unfold Machine.actOnCauses
  split
  · exact h.enterOpening _ p
  · exact h.change _ _ _ (by decide) p
  · exact h.change _ _ _ (by decide) p
  · exact iteInduction (fun _ => h.enterOpening _ p) fun _ => p
  · exact h.change _ _ _ (by decide) p
  · exact h.change _ _ _ (by decide) p
  · exact p

theorem setCause (h : KeptByMoves P) (k : Cause) (b : Bool) {s : State} (p : P s) : P (setCause k b s) := by
  have put := h.suppliedPage (fun u => { u with causes := u.causes.put k b }) rfl p
  exact iteInduction (fun _ => p) fun _ => iteInduction (fun _ => h.actOnCauses put) fun _ => put

theorem endOverload (h : KeptByMoves P) {s : State} (p : P s) : P (endOverload s) :=
  h.setCause _ _ (h.suppliedPage _ rfl p)

theorem endPulse (h : KeptByMoves P) {s : State} (p : P s) : P (endPulse s) := by
  have still := h.supplied (fun u => { u with coil := none }) rfl p
  have resumed := h.beside (withConv_touches _ s.conv.pulseEnds) (by decide) still
  exact iteInduction (fun _ => iteInduction (fun _ => h.enterOpening _ resumed) fun _ => h.suppliedPage _ rfl resumed)
    fun _ => h.supplied _ rfl still

theorem failAttempt (h : KeptByMoves P) (a : Attempt) {s : State} (p : P s) : P (failAttempt a s) := by
  have noted : P (relayFaultNotice a s) := h.beside (relayFaultNotice_touches s a) (by decide) p
  have stuck := h.change .stuckClosed .fault false (by decide) noted
  unfold Machine.failAttempt
  dsimp only
  split
  · exact h.change _ _ _ (by decide) noted
  · exact iteInduction (fun _ => h.change _ _ _ (by decide) stuck) fun _ => h.suppliedPage _ rfl stuck

theorem windowExpires (h : KeptByMoves P) (a : Attempt) {s : State} (p : P s) : P (windowExpires a s) :=
  iteInduction (fun _ => h.suppliedPage _ rfl p) fun _ => iteInduction
    (fun _ => h.beside (pageSupply_touches _) (by decide) (h.beginPulse _ (h.supplied _ rfl p)))
    fun _ => h.failAttempt a p

theorem overloadTrip (h : KeptByMoves P) (power : Nat) {s : State} (p : P s) : P (overloadTrip power s) :=
  h.beside (notice_touches _ _ _ _) (by decide) (h.setCause _ _ (h.suppliedPage _ rfl p))

theorem overloadFrame (h : KeptByMoves P) (f : Frame) (power : Nat) {s : State} (p : P s) :
    P (overloadFrame f power s) :=
  iteInduction (fun _ => iteInduction (fun _ => iteInduction (fun _ => h.overloadTrip power p) fun _ =>
    h.suppliedPage _ rfl p) fun _ => h.suppliedPage _ rfl p) fun _ => p

theorem supplyFrame (h : KeptByMoves P) (f : Frame) (power : Nat) {s : State} (p : P s) : P (supplyFrame f power s) := by
  have noted : P (noteLoadV f s) := iteInduction (fun _ => h.supplied _ rfl p) fun _ => p
  have opened := h.change .opened .verified false (by decide) noted
  unfold Machine.supplyFrame
  split
  · exact h.overloadFrame f power p
  · exact iteInduction (fun _ => iteInduction (fun _ => h.change _ _ _ (by decide) opened) fun _ => opened) fun _ => noted
  · exact iteInduction (fun _ => h.change _ _ _ (by decide) noted) fun _ => noted
  · exact iteInduction (fun _ => h.change _ _ _ (by decide) p) fun _ => p
  all_goals exact p

theorem applyPowerLimit (h : KeptByMoves P) (w : Nat) {s : State} (p : P s) : P (applyPowerLimit w s) := by
  have limited := h.suppliedPage (fun u => { u with limit := w, trips := [], overCount := 0 }) rfl p
  exact iteInduction (fun _ => h.endOverload limited) fun _ => limited

theorem resolveSupply (h : KeptByMoves P) (loadV : Nat) {s : State} (p : P s) : P (resolveSupply loadV s) := by
  have resolved := (resolveSupply_supply loadV s).1
  exact h.machineMoved (resolveSupply_touches s loadV) (by decide)
    (fun closing => absurd (resolved.symm.trans closing) (resolveMachine_ne_closing _ _ _)) p

/-! ### The credit unit -/

theorem evaluateCredit (h : KeptByMoves P) (x : CreditTrigger) {s : State} (p : P s) : P (evaluateCredit x s) := by
  let paged := pageCredit (s.withCredit (s.credit.evaluated s.settings s.clock))
  have found : P paged := h.beside (bs := [.store, .credit]) (by simp [paged]) (by decide) p
  have told : P (raise .credit (creditStateNotice s.credit.state x paged)) :=
    h.beside (bs := [.store, .link, .strip]) (by simp) (by decide) found
  exact iteInduction (fun _ => found) fun _ => iteInduction (fun _ => h.setCause _ _ told) fun _ =>
    iteInduction (fun _ => h.setCause _ _ told) fun _ => told

/-- The account moved and evaluated. -/
theorem paid (h : KeptByMoves P) (x : CreditTrigger) (c : Credit) {s : State} (p : P s) :
    P (Machine.evaluateCredit x (pageCredit (s.withCredit c))) :=
  h.evaluateCredit x (h.beside (bs := [.store, .credit]) (by simp) (by decide) p)

theorem takeEmergency (h : KeptByMoves P) {s : State} (p : P s) : P (takeEmergency s) := by
  have noted : ∀ c u, P u → P (emergencyNotice c u) := fun c u => h.beside (emergencyNotice_touches u c) (by decide)
  have taken : P (pageCredit (s.withCredit { s.credit with emergency := .taken })) :=
    h.beside (bs := [.store, .credit]) (by simp) (by decide) p
  refine iteInduction (fun _ => ?_) fun _ => p
  refine freePick_of (fun u n => h.beside (withFreeCount_touches u n) (by decide)) p fun r hr => ?_
  rcases List.mem_pair.mp hr with rfl | rfl
  · exact noted _ _ (h.evaluateCredit _ taken)
  · exact h.evaluateCredit _ (noted _ _ taken)

/-! ### The tamper watch -/

theorem kindOn (h : KeptByMoves P) (k : TamperKind) (more : List Byte) {s : State} (p : P s) : P (kindOn k more s) := by
  let r := (s.tamper.records.get k).activated (now s) false
  have told : P (profileTamper (raise .tamper (tamperOn k false (now s) (s.tamper.records.get k).status r.status r.count
      more (putRecord k r s)))) :=
    h.beside (bs := [.store, .tamper, .link, .strip, .profile]) (by simp) (by decide) p
  exact iteInduction (fun _ => h.setCause _ _ told) fun _ => told

theorem clearTamper (h : KeptByMoves P) (named : List TamperKind) (sequence : Nat) {s : State} (p : P s) :
    P (clearTamper named sequence s) := by
  have told : P (clearTold named sequence s) := h.beside (clearTold_touches named sequence s) (by decide) p
  rw [clearTamper_eq]
  exact iteInduction (fun _ => h.setCause _ _ told) fun _ => told

theorem judgeKind (h : KeptByMoves P) (f : Frame) (k : FrameKind) {s : State} (p : P s) : P (judgeKind f k s) := by
  have window : ∀ x, P (s.withTamper x) := fun x => h.beside (withTamper_touches s x) (by decide) p
  exact iteInduction (fun _ => h.kindOn _ _ (window _)) fun _ =>
    iteInduction (fun _ => h.beside (kindOff_touches _ _) (by decide) (window _)) fun _ => window _

theorem tamperFrame (h : KeptByMoves P) (f : Frame) {s : State} (p : P s) : P (tamperFrame f s) :=
  h.beside (pageWindows_touches _) (by decide) (List.foldlRecOn _ _ p fun _ q k _ => h.judgeKind f k q)

/-- An update of the power logic that leaves the marks of retained memory. -/
theorem powered (h : KeptByMoves P) (f : Power → Power) {s : State}
    (marks : retainedValid (f s.power) = retainedValid s.power) (p : P s) : P (overPower f s) :=
  h.unmoved p rfl rfl marks

theorem switchSettles (h : KeptByMoves P) (w : SwitchId) (x : Position) {s : State} (p : P s) :
    P (switchSettles w x s) := by
  have settled : P (s.withTamper (s.tamper.settle w (some x))) := h.beside (withTamper_touches s _) (by decide) p
  have listed : ∀ e u, P u → P (appendEvent e u) := fun e u q =>
    iteInduction (fun _ => h.powered (fun v => { v with events := v.events ++ [e] }) rfl q) fun _ =>
      h.powered (fun v => { v with overflow := min (v.overflow + 1) 255 }) rfl q
  refine iteInduction (fun _ => h.beside (pageSwitches_touches _) (by decide) ?_) fun _ =>
    listed _ _ (h.beside (putRecord_touches _ _ _) (by decide) settled)
  split
  · exact h.kindOn _ _ settled
  · exact h.beside (kindOff_touches _ _) (by decide) settled
  all_goals exact settled

/-! ### The energy register block, the tariff unit and the clock -/

theorem carry (h : KeptByMoves P) {s : State} (p : P s) : P (carry s) := by
  let counted := countWattHour (s.withEnergy { s.energy with billed :=
    { s.energy.billed with wh := (s.energy.billed.wh + 1) % 1000000000 } })
  have count : P counted := h.beside (bs := [.energy, .tariff]) (by simp [counted]) (by decide) p
  exact h.beside (owePulse_touches _) (by decide) (h.beside (profileWattHour_touches _) (by decide)
    (h.paid .energy _ count))

theorem energyFrame (h : KeptByMoves P) (f : Frame) {s : State} (p : P s) : P (energyFrame f s) := by
  have carries : ∀ n u, P u → P (carries n u) := fun n => by
    induction n with
    | zero => exact fun _ => id
    | succ n ih => exact fun u q => ih _ (h.carry q)
  exact h.beside (energyFrame_carries f s) (by decide) (carries _ _ (h.beside (withEnergy_touches s _) (by decide) p))

theorem chargeDays (h : KeptByMoves P) (t : Tariff) {s : State} (p : P s) : P (chargeDays t s) := by
  have move : ∀ x u, P u → P (pageTariff (u.withTariff x)) := fun x u =>
    h.beside (bs := [.store, .tariff]) (by simp) (by decide)
  unfold Machine.chargeDays
  dsimp only
  split
  · exact move _ _ p
  · exact iteInduction (fun _ => move _ _ (iteInduction (fun _ => h.paid .daily _ p) fun _ => p)) fun _ => p

theorem tariffTick (h : KeptByMoves P) (minute : Bool) {s : State} (p : P s) : P (tariffTick minute s) := by
  have second : P (tariffSecond s) := h.beside (tariffSecond_touches s) (by decide) p
  refine iteInduction (fun _ => h.beside (pageBlockBand_touches _) (by decide) ?_) fun _ => second
  unfold tariffMinute
  split
  · exact iteInduction (fun _ => h.chargeDays _ (h.beside (rollover_touches _ _) (by decide) second)) fun _ => second
  · exact second

theorem setClock (h : KeptByMoves P) (new : Nat) {s : State} (p : P s) : P (setClock new s) := by
  have paged : P (pageBlockBand (pageCalendar (pageClock (s.withClock { s.clock with count := new, valid := true })))) :=
    h.beside (bs := [.store, .clock]) (by simp) (by decide) p
  have noticed := iteInduction (c := setClass s.clock new = .trim) (motive := P) (fun _ => paged) fun _ =>
    h.beside (clockStepNotice_touches _ s.clock new) (by decide) paged
  have warned := iteInduction (c := setsBack s.clock new = true) (motive := P)
    (fun _ => h.beside (clockBack_touches _ (stepMagnitude s.clock new)) (by decide) noticed) fun _ => noticed
  exact h.evaluateCredit _
    (iteInduction (fun _ => warned) fun _ => h.beside (turnPeriod_touches _ _) (by decide) warned)

/-! ### The code unit -/

/-- An update of the code unit within the ranges that leaves the accepted list. -/
theorem coded (h : KeptByMoves P) (f : CodeUnit → CodeUnit) {s : State} (accepted : (f s.code).accepted = s.code.accepted)
    (range : s.code.inRange → (f s.code).inRange) (p : P s) : P (overCode f s) := h.moved accepted range p

theorem codedPage (h : KeptByMoves P) (f : CodeUnit → CodeUnit) {s : State}
    (accepted : (f s.code).accepted = s.code.accepted) (range : s.code.inRange → (f s.code).inRange) (p : P s) :
    P (pageCode (overCode f s)) :=
  h.beside (pageCode_touches _) (by decide) (h.coded f accepted range p)

end KeptByMoves

theorem CodeUnit.withLine_inRange {u : CodeUnit} {line : List (Fin 10)} (short : u.line.length ≤ 20 → line.length ≤ 20)
    (range : u.inRange) : { u with line := line }.inRange := by
  obtain ⟨accepted, failures, lock, full⟩ := range
  exact ⟨accepted, failures, lock, short full⟩

theorem CodeUnit.volatileReset_inRange {u : CodeUnit} (range : u.inRange) : u.volatileReset.inRange :=
  CodeUnit.withLine_inRange (u := u) (line := []) (fun _ => Nat.zero_le _) range

theorem CodeUnit.withLock_inRange {u : CodeUnit} {count lock : Nat} (few : u.failCount ≤ 5 → count ≤ 5)
    (soon : u.lock ≤ 600 → lock ≤ 600) (range : u.inRange) : { u with failCount := count, lock := lock }.inRange := by
  obtain ⟨accepted, failures, locked, line⟩ := range
  exact ⟨accepted, few failures, soon locked, line⟩

theorem CodeUnit.checkFailed_inRange {u : CodeUnit} (range : u.inRange) : u.checkFailed.inRange :=
  CodeUnit.withLock_inRange (fun _ => Nat.min_le_right _ _) (fun lock => by split <;> omega) range

namespace KeptByMoves

variable {P : State → Prop}

theorem clearLine (h : KeptByMoves P) {s : State} (p : P s) : P (clearLine s) :=
  h.coded _ rfl (CodeUnit.withLine_inRange fun _ => Nat.zero_le _) p

theorem idleExpires (h : KeptByMoves P) {s : State} (p : P s) : P (idleExpires s) :=
  iteInduction (fun _ => p) fun _ => h.beside (pageEntry_touches _) (by decide) (h.clearLine p)

theorem idleSecond (h : KeptByMoves P) {s : State} (p : P s) : P (idleSecond s) := by
  have counted := h.coded (fun u => { u with idle := u.idle + 1 }) rfl id p
  exact iteInduction (fun _ => iteInduction (fun _ => h.idleExpires counted) fun _ => counted) fun _ => p

theorem judgeIdle (h : KeptByMoves P) {s : State} (p : P s) : P (judgeIdle s) := by
  have either : ∀ r ∈ [Machine.idleExpires s, s], P r := fun r mem => by
    rcases List.mem_pair.mp mem with rfl | rfl
    · exact h.idleExpires p
    · exact p
  exact iteInduction (fun _ => iteInduction (fun _ => h.idleExpires p) fun _ => iteInduction
    (fun _ => freePick_of (fun u n => h.beside (withFreeCount_touches u n) (by decide)) p either) fun _ => p) fun _ => p

theorem endLock (h : KeptByMoves P) {s : State} (p : P s) : P (endLock s) :=
  h.codedPage _ rfl (CodeUnit.withLock_inRange (fun _ => Nat.zero_le _) fun _ => Nat.zero_le _) p

theorem lockSecond (h : KeptByMoves P) {s : State} (p : P s) : P (lockSecond s) :=
  iteInduction (fun _ => p) fun _ => iteInduction (fun _ => h.endLock p) fun _ =>
    h.codedPage (fun u => { u with lock := u.lock - 1 }) rfl
      (CodeUnit.withLock_inRange (count := s.code.failCount) id fun lock => (Nat.sub_le _ 1).trans lock) p

theorem takeCodeSlip (h : KeptByMoves P) (n : Fin 16) {s : State} (p : P s) : P (takeCodeSlip n s) := by
  have taken : P (markTaken n s) := h.beside (markTaken_touches s n) (by decide) p
  exact iteInduction (fun _ => h.codedPage _ rfl id taken) fun _ => h.codedPage _ rfl id taken

theorem takeSubmission (h : KeptByMoves P) {s : State} (p : P s) : P (takeSubmission s) := h.codedPage _ rfl id p

theorem arbitrate (h : KeptByMoves P) {s : State} (p : P s) : P (arbitrate s) := by
  have idle := h.codedPage (fun u => { u with decoder := .idle }) rfl id p
  refine iteInduction (fun _ => h.takeSubmission idle) fun _ => ?_
  split
  · exact h.takeCodeSlip _ idle
  · exact idle

theorem reportDecode (h : KeptByMoves P) (src : Source) (v : Verdict) (c : Option Code) (r : TamperRecords) {s : State}
    (p : P s) : P (reportDecode src v c r s) := by
  match src with
  | .keypad =>
    have told := h.beside (keypadOutcome_touches s .fullCode v (codeDetail v c r s)) (by decide) p
    have ended := h.coded (fun u => { u with line := [], held := false, idle := 0 }) rfl
      (CodeUnit.withLine_inRange fun _ => Nat.zero_le _) told
    exact h.beside (bs := [.store]) (by simp [Machine.reportDecode, endHold]) (by decide) ended
  | .slip n true => exact h.beside (completeSlip_touches s n v _) (by decide) p
  | .slip _ false => exact h.beside (notice_touches s .codeRemote v.code _) (by decide) p

theorem applyCode (h : KeptByMoves P) (c : Code) {s : State} (p : P s) : P (applyCode c s) := by
  unfold Machine.applyCode
  split
  · exact h.paid _ _ p
  · exact h.clearTamper _ _ p
  · exact h.applyPowerLimit _ p
  · exact h.paid _ _ p
  · exact h.paid _ _ p
  · exact p

/-- A code's effects, as it is judged in the state that it finds: what is accepted was not spent (R99 to R102). -/
theorem settleCode (h : KeptByMoves P) (chars : List Byte) {s : State} (p : P s) :
    P (settleCode (judgeCode chars s).1 (judgeCode chars s).2 s) := by
  generalize judged : judgeCode chars s = j
  obtain ⟨v, c⟩ := j
  unfold Machine.settleCode
  dsimp only
  split
  · rename_i c
    have code : (Machine.applyCode c s).code = s.code := applyCode_touches s c .code (by decide)
    exact h.beside (pageCode_touches _) (by decide)
      (h.accept (judgeCode_seq_lt judged) (by rw [code]; exact judgeCode_not_spent judged) (h.applyCode c p))
  · exact h.codedPage _ rfl CodeUnit.checkFailed_inRange p
  · exact p

theorem finishDecode (h : KeptByMoves P) (src : Source) (chars : List Byte) {s : State} (p : P s) :
    P (finishDecode src chars s) :=
  h.arbitrate (h.reportDecode _ _ _ _ (h.settleCode _ p))

theorem finishKeySet (h : KeptByMoves P) (n : Fin 16) (live locked : Bool) {s : State} (p : P s) :
    P (finishKeySet n live locked s) :=
  h.arbitrate (iteInduction (fun _ => h.beside (completeSlip_touches s n _ _) (by decide) p) fun _ => p)

theorem pressEnter (h : KeptByMoves P) {s : State} (confirm : s.code.line = [] → P (takeConfirm s)) (p : P s) :
    P (pressEnter s) := by
  have answered : ∀ e v d u, P u → P (keypadOutcome e v d u) := fun e v d u =>
    h.beside (keypadOutcome_touches u e v d) (by decide)
  have held := h.coded (fun u => { u with held := true }) rfl id p
  exact iteInduction (fun empty => answered _ _ _ _ (confirm empty)) fun _ =>
    iteInduction (fun _ => answered _ _ _ _ (h.clearLine (h.takeEmergency p))) fun _ =>
      iteInduction (fun _ => iteInduction (fun _ => h.takeSubmission held) fun _ => h.codedPage _ rfl id held)
        fun _ => answered _ _ _ _ (h.clearLine p)

theorem pressKey (h : KeptByMoves P) (k : Key) {s : State}
    (confirm : k = .enter → s.code.line = [] → P (takeConfirm s)) (p : P s) : P (pressKey k s) := by
  cases k with
  | digit d =>
    refine h.coded (fun u => { u with line := if u.line.length < 20 then u.line ++ [d] else u.line }) rfl
      (CodeUnit.withLine_inRange (u := s.code) fun full => ?_) p
    split
    · rw [List.length_append]
      exact Nat.succ_le_of_lt ‹_›
    · exact full
  | erase =>
    exact h.coded (fun u => { u with line := u.line.dropLast }) rfl
      (CodeUnit.withLine_inRange (u := s.code) fun full => (List.dropLast_sublist _).length_le.trans full) p
  | enter => exact h.pressEnter (confirm rfl) p

theorem scanPress (h : KeptByMoves P) (k : Key) {s : State}
    (confirm : k = .enter → s.code.line = [] → ∀ u, u.supply = s.supply → P u → P (takeConfirm u)) (p : P s) :
    P (scanPress k s) := by
  let down := overCode (fun u => { u with keysDown := [k] }) s
  let taken := overCode (fun u => { u with idle := 0 }) (raise .keypad down)
  have raised : (raise .keypad down).code = down.code := raise_touches down .keypad .code (by decide)
  have line : taken.code.line = s.code.line := (congrArg CodeUnit.line raised : _ = down.code.line)
  have supply : taken.supply = s.supply := raise_supply down .keypad
  have ready : P taken := h.coded _ rfl id (h.beside (raise_touches down .keypad) (by decide) (h.coded _ rfl id p))
  exact iteInduction (fun _ => p) fun _ => iteInduction
    (fun _ => h.beside (pageEntry_touches _) (by decide)
      (h.pressKey k (fun enter empty => confirm enter (line ▸ empty) taken supply ready) ready))
    fun _ => h.coded _ rfl id p

theorem scanRelease (h : KeptByMoves P) (k : Key) {s : State} (p : P s) : P (scanRelease k s) :=
  iteInduction (fun _ => h.coded _ rfl id p) fun _ => p

/-! ### The second tick -/

theorem supplySecond (h : KeptByMoves P) {s : State} (p : P s) : P (supplySecond s) := h.suppliedPage _ rfl p

theorem tickCounts (h : KeptByMoves P) {s : State} (p : P s) : P (tickCounts s) := by
  have counted := h.supplySecond (h.idleSecond (h.lockSecond (h.beside (clockPage_touches s) (by decide) p)))
  have announced := h.beside (withClock_touches _
    (Machine.supplySecond (Machine.idleSecond (Machine.lockSecond (clockPage s)))).clock.announce) (by decide) counted
  exact iteInduction (fun _ => h.suppliedPage _ rfl announced) fun _ => announced

theorem offerTick (h : KeptByMoves P) (ended : Bool) {s : State} (p : P s) : P (offerTick ended s) := by
  have counted : P (if ended then calendarEndNotice (Machine.tickCounts s) else Machine.tickCounts s) :=
    iteInduction (fun _ => h.beside (calendarEndNotice_touches _) (by decide) (h.tickCounts p)) fun _ => h.tickCounts p
  refine inAnyOrder_of (fun u n => h.beside (withFreeCount_touches u n) (by decide)) (fun w hw u q => ?_) counted
  rcases mem_tickWorks s hw with rfl | rfl | rfl | rfl | rfl | rfl
  · exact h.tariffTick _ q
  · exact iteInduction (fun _ => h.endOverload q) fun _ => q
  · exact iteInduction (fun _ => h.endOverload q) fun _ => q
  · exact iteInduction (fun _ => h.enterOpening _ q) fun _ => q
  · exact h.evaluateCredit _ q
  · exact h.beside (profileMinute_touches u) (by decide) q

theorem advanceClock (h : KeptByMoves P) {s : State} (p : P s) : P (advanceClock s) := by
  have ticked : P (s.withClock s.clock.tick) := h.beside (withClock_touches _ _) (by decide) p
  exact iteInduction (fun _ => h.offerTick _ ticked) fun _ =>
    iteInduction (fun _ => h.beside (pageCalendar_touches _) (by decide) ticked) fun _ => ticked

/-! ### Frames -/

theorem batteryFrame (h : KeptByMoves P) (f : Frame) {s : State} (p : P s) : P (batteryFrame f s) := by
  have spent : ∀ b, P (overPower (fun u => { u with spent := b }) s) := fun _ => h.powered _ rfl p
  unfold Machine.batteryFrame
  split
  · exact iteInduction (fun _ => h.beside (notice_touches _ _ _ _) (by decide) (spent true)) fun _ =>
      iteInduction (fun _ => spent false) fun _ => p
  · exact p

theorem closeFrame (h : KeptByMoves P) (m : Means) {s : State} (p : P s) : P (closeFrame m s) := by
  let f := closedFrame m s
  have offered : P (frameOffered m s) := h.beside (bs := [.front, .conv]) (by simp [frameOffered]) (by decide) p
  have picked : P (frameTaken f (frameOffered m s)) := by
    refine h.beside (profileFrame_touches _ _) (by decide)
      (freePick_of (fun u n => h.beside (withFreeCount_touches u n) (by decide)) offered fun r hr => ?_)
    obtain ⟨o, ho, rfl⟩ := List.mem_map.mp hr
    refine runAll_of (fun w hw u q => ?_) offered
    rcases mem_takingOrders ho hw with rfl | rfl | rfl | rfl
    · exact h.tamperFrame f q
    · exact h.energyFrame f q
    · exact h.batteryFrame f q
    · exact h.supplyFrame f _ q
  exact h.beside (pageFrame_touches _) (by decide) picked

theorem closeFinalFrame (h : KeptByMoves P) (elapsed : Nat) (m : Means) {s : State} (p : P s) :
    P (closeFinalFrame elapsed m s) := by
  have put : P (putFrame (makeFrame (gather elapsed m s)) (gather elapsed m s)) :=
    h.beside (bs := [.front, .conv]) (by simp) (by decide) p
  exact h.beside (profileFrame_touches _ _) (by decide) (h.batteryFrame _ (h.energyFrame _ (h.tamperFrame _ put)))

/-! ### Posted slips, host writes and the link registers (R175 to R189) -/

theorem takeClockSet (h : KeptByMoves P) (n : Fin 16) {s : State} (p : P s) : P (takeClockSet n s) := by
  have taken : P (markTaken n s) := h.beside (markTaken_touches s n) (by decide) p
  exact iteInduction (fun _ => h.beside (completeSlip_touches _ _ _ _) (by decide) taken) fun _ =>
    h.beside (completeSlip_touches _ _ _ _) (by decide) (h.setClock _ taken)

theorem takeSupplyOrder (h : KeptByMoves P) (n : Fin 16) {s : State} (p : P s) : P (takeSupplyOrder n s) := by
  have taken : P (markTaken n s) := h.beside (markTaken_touches s n) (by decide) p
  exact iteInduction (fun _ => h.beside (completeSlip_touches _ _ _ _) (by decide) (h.setCause _ _ taken)) fun _ =>
    h.beside (completeSlip_touches _ _ _ _) (by decide) taken

theorem settingsWrite (h : KeptByMoves P) (n : Fin 16) (off : Nat) {s : State} (p : P s) :
    P (settingsWrite n off s) := by
  have installed : ∀ g, P (installSettings g s) := fun g => h.evaluateCredit _ (h.judgeIdle
    (h.beside (bs := [.settings, .tamper]) (by simp) (by decide) p))
  unfold Machine.settingsWrite
  dsimp only
  split
  · exact h.beside (completeSlip_touches _ _ _ _) (by decide) p
  · exact h.beside (completeSlip_touches _ _ _ _) (by decide) (installed _)

theorem takeSettings (h : KeptByMoves P) (n : Fin 16) {s : State} (p : P s) : P (takeSettings n s) := by
  have taken : P (markTaken n s) := h.beside (markTaken_touches s n) (by decide) p
  have refused : P (completeSlip n .badArgument [] (markTaken n s)) :=
    h.beside (completeSlip_touches _ _ _ _) (by decide) taken
  exact iteInduction (fun _ => iteInduction (fun _ => h.settingsWrite _ _ taken) fun _ =>
    iteInduction (fun _ => h.beside (settingsFetch_touches _ _ _) (by decide) taken) fun _ => refused) fun _ => refused

theorem takeSlip (h : KeptByMoves P) (n : Fin 16) {s : State} (p : P s) : P (takeSlip n s) := by
  unfold Machine.takeSlip
  split
  · exact h.takeCodeSlip n p
  · exact h.takeCodeSlip n p
  · exact h.beside (takeTariffLoad_touches s n) (by decide) p
  · exact h.takeClockSet n p
  · exact h.takeSupplyOrder n p
  · exact h.takeSettings n p
  · exact h.beside (takeProfileSetup_touches s n) (by decide) p
  · exact h.beside (takeCapture_touches s n) (by decide) p
  · exact h.beside (takeUnknown_touches s n) (by decide) p

theorem hostState (h : KeptByMoves P) (n : Fin 16) (b : Byte) {s : State} (p : P s) : P (hostState n b s) := by
  have stored : ∀ {t}, OnlyTouches [.store, .link] s t → P t := fun only => h.beside only (by decide) p
  have posted : P (putSlipState n .posted (s.withLink { s.link with waiting := s.link.waiting ++ [n] })) :=
    stored (by simp)
  unfold Machine.hostState
  split
  · exact iteInduction (fun _ => h.takeSlip n posted) fun _ => posted
  all_goals exact stored (by simp)

theorem hostByte (h : KeptByMoves P) (a : Nat) (b : Byte) {s : State} (p : P s) : P (hostByte a b s) := by
  have stored : ∀ {t}, OnlyTouches [.store, .link] s t → P t := fun only => h.beside only (by decide) p
  have refused : P (collide a s) := stored (by simp)
  have put : P (putByte a b s) := stored (by simp)
  have noted : P (attnUpdate (putByte a b s)) := stored (by simp)
  have either : ∀ {q : Prop} [Decidable q] {t u : State}, P t → P u → P (if q then t else u) := fun p q =>
    iteInduction (fun _ => p) fun _ => q
  exact either refused (either refused (either (either noted refused) (either put (either (either (h.hostState _ b p)
    (either put refused)) (either refused (either refused put))))))

theorem hostBytes (h : KeptByMoves P) (a : Nat) (bytes : List Byte) {s : State} (p : P s) : P (hostBytes a bytes s) := by
  induction bytes generalizing a s with
  | nil => exact p
  | cons b bytes ih => exact ih _ (h.hostByte _ b p)

theorem storeWrite (h : KeptByMoves P) (addr : Nat) (data : List Byte) {s : State} (p : P s) :
    P (storeWrite addr data s) := by
  have shifted : P (withDataOut [] s) := h.beside (withDataOut_touches s []) (by decide) p
  exact iteInduction (fun _ => h.hostBytes _ _ shifted) fun _ => shifted

theorem postFilled (h : KeptByMoves P) (n : Fin 16) (kind : Byte) (args : List Byte) {s : State} (p : P s) :
    P (postFilled n kind args s) := by
  have shifted : P (withDataOut [] s) := h.beside (withDataOut_touches s []) (by decide) p
  exact iteInduction (fun _ => h.hostBytes _ _ (h.hostBytes _ _ (h.hostBytes _ _ shifted))) fun _ => shifted

/-- A link reset frees the decoder's slip and leaves the rest of the code unit (R110, R189). -/
theorem linkReset (h : KeptByMoves P) {s : State} (p : P s) : P (linkReset s) := by
  have freed : P (s.withCode { s.code with decoder := s.code.decoder.detached }) := h.moved rfl id p
  exact h.beside (pageAll_touches _) (by decide) (h.unmoved freed rfl rfl rfl)

theorem regWrite (h : KeptByMoves P) (a : Nat) (l : List Byte) {s : State} (p : P s) : P (regWrite a l s) := by
  have shifted : P (withDataOut [] s) := h.beside (withDataOut_touches s []) (by decide) p
  refine iteInduction (fun _ => ?_) fun _ => shifted
  split
  · exact h.beside (acknowledge_touches _ _) (by decide) shifted
  · exact h.beside (writeAconf_touches _ _) (by decide) shifted
  · have cleared := iteInduction (c := leNat (l.take 1) % 2 = 1) (motive := P)
      (fun _ => h.beside (clearCollisionFlag_touches _) (by decide) shifted) fun _ => shifted
    exact iteInduction (fun _ => h.linkReset cleared) fun _ => cleared
  · exact shifted

/-! ### The power logic (R164 to R174) -/

/-- A KEY_SET cut short loses the key it stored or keeps it (R108; assumption log 23). -/
theorem cutKeySet (h : KeptByMoves P) {s : State} (p : P s) : P (cutKeySet s) := by
  unfold Machine.cutKeySet
  split
  · refine freePick_of (fun u n => h.beside (withFreeCount_touches u n) (by decide)) p fun r mem => ?_
    rcases List.mem_pair.mp mem with rfl | rfl
    · exact p
    · exact h.coded _ rfl id p
  · exact p

theorem beginHoldup (h : KeptByMoves P) (reason : EntryReason) {s : State} (p : P s) : P (beginHoldup reason s) :=
  h.unmoved p rfl rfl rfl

theorem holdupWork (h : KeptByMoves P) {s : State} (p : P s) : P (holdupWork s) := by
  have stopped : ∀ u, OnlyTouches [.front, .conv, .energy, .tariff] u
      ((discardBacklog ((u.withFront { u.front with running := false, progress := Progress.empty }).withConv
        u.conv.abandon)).withTariff { u.tariff with load := none }) := by simp
  have reset := h.coded CodeUnit.volatileReset rfl CodeUnit.volatileReset_inRange
    (h.cutKeySet (h.beside (stopped s) (by decide) p))
  have retried := h.supplied (fun u => { u with retry := 0 }) rfl reset
  exact h.beside (savePeriod_touches _) (by decide)
    (iteInduction (fun _ => retried) fun _ => h.supplied _ rfl retried)

theorem loseMains (h : KeptByMoves P) (elapsed : Nat) (m : Means) {s : State} (p : P s) : P (loseMains elapsed m s) :=
  h.holdupWork (iteInduction (fun _ => h.closeFinalFrame _ m (h.beginHoldup _ p)) fun _ => h.beginHoldup _ p)

theorem enterWatch (h : KeptByMoves P) {s : State} (p : P s) : P (enterWatch s) := h.unmoved p rfl rfl rfl

theorem watchConversion (h : KeptByMoves P) (v : Nat) {s : State} (p : P s) : P (watchConversion v s) := by
  have written : ∀ c, P (s.withConv c) := fun c => h.beside (withConv_touches s c) (by decide) p
  exact iteInduction (fun _ => h.unmoved (written s.conv) rfl rfl rfl) fun _ =>
    iteInduction (fun _ => h.powered _ rfl (written _)) fun _ => written _

theorem watchChange (h : KeptByMoves P) {s : State} (p : P s) : P (watchChange s) := by
  have woken := h.powered (fun q => { q with watch := .awake, holdTimer := s.settings.holdTime, wakeTimer := 0 }) rfl p
  exact iteInduction (fun _ => h.beside (withConv_touches _ _) (by decide) woken) fun _ => woken

theorem startStep2 (h : KeptByMoves P) {s : State} (p : P s) : P (startStep2 s) :=
  h.beside (bs := [.store, .link, .strip]) (by simp [Machine.startStep2]) (by decide)
    (h.powered (fun q => { q with stage := .cleared }) rfl p)

theorem startStep3 (h : KeptByMoves P) {s : State} (p : P s) : P (startStep3 s) := by
  have replayed : P (s.power.events.foldl (fun s e => replayEvent e s) s) :=
    List.foldlRecOn _ _ p fun u q e _ => h.beside (replayEvent_touches u e) (by decide) q
  have emptied := h.powered (fun q => { q with events := [], overflow := 0 }) rfl
    (h.beside (powerBackNotice_touches _ s.power.events.length) (by decide) replayed)
  exact h.powered (fun q => { q with stage := .replayed }) rfl (h.beside (resumePeriods_touches _) (by decide)
    (iteInduction (fun _ => h.beside (watchLostNotice_touches _) (by decide) emptied) fun _ => emptied))

theorem startStep4 (h : KeptByMoves P) {s : State} (p : P s) : P (startStep4 s) :=
  h.beside (pageSwitches_touches _) (by decide)
    (h.powered _ rfl (h.setCause _ _ (h.setCause _ _ (h.evaluateCredit _ p))))

theorem startStep56 (h : KeptByMoves P) (v : Nat) {s : State} (p : P s) : P (startStep56 v s) := by
  have resolved := h.resolveSupply v (h.beside (withConv_touches s { s.conv with loadV := s.conv.loadV.taken })
    (by decide) p)
  exact h.beside (raise_touches _ .start) (by decide) (h.coded _ rfl id (h.powered _ rfl
    (h.beside (withFront_touches _ _) (by decide) resolved)))

theorem tryReverify (h : KeptByMoves P) {s : State} (p : P s) : P (tryReverify s) := by
  refine iteInduction (fun _ => ?_) fun _ => p
  split
  · exact iteInduction (fun _ => h.startStep56 _ p) fun _ => p
  · exact p

theorem nextStep (h : KeptByMoves P) {s : State} (p : P s) : P (nextStep s) := by
  unfold Machine.nextStep
  split
  · exact h.startStep1 p
  · exact h.startStep2 p
  · exact h.startStep3 p
  · exact h.tryReverify (h.startStep4 p)
  · exact h.tryReverify p
  · exact p

theorem stepsTo (h : KeptByMoves P) (fuel upTo : Nat) {s : State} (p : P s) : P (stepsTo fuel upTo s) := by
  induction fuel generalizing s with
  | zero => exact p
  | succ fuel ih => exact iteInduction (fun _ => ih (h.nextStep p)) fun _ => p

theorem startUp (h : KeptByMoves P) (upTo : Nat) {s : State} (p : P s) : P (startUp upTo s) := by
  have reset : P (s.withCode s.code.volatileReset) := h.moved rfl CodeUnit.volatileReset_inRange p
  exact h.stepsTo 4 upTo (h.unmoved reset rfl rfl rfl)

theorem idle (h : KeptByMoves P) {s : State} (p : P s) : P (idle s) :=
  iteInduction (fun _ => h.nextStep p) fun _ => p

theorem holdupEnds (h : KeptByMoves P) (upTo : Nat) {s : State} (p : P s) : P (holdupEnds upTo s) := by
  have ended : P (if s.supply.coil.isSome then Machine.endPulse s else s) :=
    iteInduction (fun _ => h.endPulse p) fun _ => p
  have done := h.powered (fun q => { q with holdupDone := true }) rfl ended
  exact iteInduction (fun _ => h.enterWatch done) fun _ => iteInduction (fun _ => h.startUp upTo done) fun _ => done

/-! ### Every command -/

theorem exec (h : KeptByMoves P) (c : Instr) {s : State}
    (confirm : Confirms c s → ∀ u, u.supply = s.supply → P u → P (takeConfirm u)) (p : P s) :
    ∃ t, exec c s = .next t ∧ P t := by
  have pins : ∀ x, P (s.withPins x) := fun x => h.beside (withPins_touches s x) (by decide) p
  have still : ∀ {bs t}, OnlyTouches bs s t → (∀ b ∈ moveBlocks, b ∉ bs) → P t := fun only m => h.beside only m p
  cases c with
  | frameClose m => exact ⟨_, rfl, iteInduction (fun _ => h.closeFrame m p) fun _ => p⟩
  | conversionComplete v =>
    refine ⟨_, rfl, ?_⟩
    split
    · exact h.tryReverify (h.beside (withConv_touches s _) (by decide) p)
    · exact h.watchConversion v p
    · exact p
  | coilPulseEnd => exact ⟨_, rfl, iteInduction (fun _ => h.endPulse p) fun _ => p⟩
  | verifyWindowExpiry =>
    refine ⟨_, rfl, ?_⟩
    split
    · exact iteInduction (fun _ => h.windowExpires _ p) fun _ => p
    · exact p
  | retryTimerExpiry => exact ⟨_, rfl, iteInduction (fun _ => h.enterOpening _ p) fun _ => p⟩
  | secondTick => exact ⟨_, rfl, iteInduction (fun _ => h.advanceClock p) fun _ => p⟩
  | lockExpiry => exact ⟨_, rfl, iteInduction (fun _ => h.endLock p) fun _ => p⟩
  | recloseWaitExpiry => exact ⟨_, rfl, iteInduction (fun _ => h.endOverload p) fun _ => p⟩
  | idleTimeout => exact ⟨_, rfl, iteInduction (fun _ => h.idleExpires p) fun _ => p⟩
  | testPulseHighExpiry =>
    exact ⟨_, rfl, iteInduction (fun _ => still (pulseHighEnds_touches s) (by decide)) fun _ => p⟩
  | testPulseLowGapExpiry =>
    exact ⟨_, rfl, iteInduction (fun _ => still (pulseGapEnds_touches s) (by decide)) fun _ => p⟩
  | keyPress k =>
    refine ⟨_, rfl, iteInduction (fun scans => h.scanPress k (fun enter empty => ?_) (pins _)) fun _ => pins _⟩
    exact confirm ⟨congrArg Instr.keyPress enter, (Bool.and_eq_true_iff.mp scans).1, empty⟩
  | keyRelease k => exact ⟨_, rfl, iteInduction (fun _ => h.scanRelease k (pins _)) fun _ => pins _⟩
  | decodeCompletion =>
    refine ⟨_, rfl, ?_⟩
    split
    · exact iteInduction (fun _ => h.finishDecode _ _ p) fun _ => p
    · exact p
  | keySetCompletion =>
    refine ⟨_, rfl, ?_⟩
    split
    · exact iteInduction (fun _ => h.finishKeySet _ _ _ p) fun _ => p
    · exact p
  | tariffLoadCompletion =>
    refine ⟨_, rfl, ?_⟩
    split
    · exact iteInduction (fun _ => h.beside (drainLoads_touches _ 16) (by decide)
        (still (finishLoad_touches s _) (by decide))) fun _ => p
    · exact p
  | switchChange w x =>
    exact ⟨_, rfl, iteInduction (fun _ => p) fun _ => iteInduction (fun _ => h.watchChange (pins _)) fun _ => pins _⟩
  | switchEvent w => exact ⟨_, rfl, iteInduction (fun _ => h.switchSettles w _ p) fun _ => p⟩
  | holdTimerExpiry => exact ⟨_, rfl, iteInduction (fun _ => h.powered _ rfl p) fun _ => p⟩
  | timedWake =>
    exact ⟨_, rfl, iteInduction (fun _ => h.beside (withConv_touches _ _) (by decide) (h.powered _ rfl p)) fun _ => p⟩
  | mainsLoss elapsed m =>
    refine ⟨_, rfl, ?_⟩
    split
    · exact h.loseMains elapsed m (pins _)
    · exact iteInduction (fun _ => h.enterWatch (pins _)) fun _ => pins _
    · exact pins _
    · exact pins _
  | resetnLow => exact ⟨_, rfl, iteInduction (fun _ => h.holdupWork (h.beginHoldup _ (pins _))) fun _ => pins _⟩
  | holdupCompletion upTo => exact ⟨_, rfl, iteInduction (fun _ => h.holdupEnds _ p) fun _ => p⟩
  | resetnRelease upTo => exact ⟨_, rfl, iteInduction (fun _ => h.startUp _ (pins _)) fun _ => pins _⟩
  | mainsReturn upTo =>
    have clocked : P (powerClock (s.withPins { s.pins with mains := true })) :=
      h.beside (powerClock_touches _) (by decide) (pins _)
    exact ⟨_, rfl, iteInduction (fun _ => iteInduction (fun _ => h.startUp _ clocked) fun _ =>
      h.unmoved clocked rfl rfl rfl) fun _ => clocked⟩
  | reVerification => exact ⟨_, rfl, iteInduction (fun _ => h.tryReverify (h.stepsTo 4 4 p)) fun _ => p⟩
  | storeRead a r => exact ⟨_, rfl, still (withDataOut_touches s _) (by decide)⟩
  | storeWrite a l => exact ⟨_, rfl, h.storeWrite _ l p⟩
  | topup n l => exact ⟨_, rfl, h.postFilled n _ _ p⟩
  | keySet n k => exact ⟨_, rfl, h.postFilled n _ _ p⟩
  | tariffLoad n o => exact ⟨_, rfl, h.postFilled n _ _ p⟩
  | clockSet n x => exact ⟨_, rfl, h.postFilled n _ _ p⟩
  | supplyOrderOpen n => exact ⟨_, rfl, h.postFilled n _ _ p⟩
  | supplyOrderRelease n => exact ⟨_, rfl, h.postFilled n _ _ p⟩
  | settingsWrite n o => exact ⟨_, rfl, h.postFilled n _ _ p⟩
  | settingsFetch n o => exact ⟨_, rfl, h.postFilled n _ _ p⟩
  | profileSetup n o c d r => exact ⟨_, rfl, h.postFilled n _ _ p⟩
  | capture n => exact ⟨_, rfl, h.postFilled n _ _ p⟩
  | slipKindUnknown n k => exact ⟨_, rfl, h.postFilled n _ _ p⟩
  | apendRead r => exact ⟨_, rfl, still (regRead_touches s _ _) (by decide)⟩
  | aackWrite l => exact ⟨_, rfl, h.regWrite _ l p⟩
  | aconfWrite l => exact ⟨_, rfl, h.regWrite _ l p⟩
  | clearCollision => exact ⟨_, rfl, h.regWrite _ _ p⟩
  | linkReset b => exact ⟨_, rfl, h.regWrite _ _ p⟩
  | regWriteIgnored a l => exact ⟨_, rfl, h.regWrite _ l p⟩
  | operationIgnored o n => exact ⟨_, rfl, still (withDataOut_touches s _) (by decide)⟩
  | attnPulseEnd => exact ⟨_, rfl, iteInduction (fun _ => still (withLink_touches s _) (by decide)) fun _ => p⟩
  | batteryRemoved => exact ⟨_, rfl, iteInduction (fun _ => h.unmoved p rfl rfl rfl) fun _ => pins _⟩
  | batteryFitted =>
    exact ⟨_, rfl, iteInduction (fun _ => h.unmoved p rfl rfl rfl) fun _ =>
      h.unmoved p rfl rfl rfl⟩

/-- The command at the front of the queue, or idling, keeps the property. -/
theorem step (h : KeptByMoves P) {s t : State} (run : step s = .next t)
    (confirm : ∀ c rest, s.pending = c :: rest → Confirms c s → ∀ u, u.supply = s.supply → P u → P (takeConfirm u))
    (p : P s) : P t := by
  unfold Machine.step at run
  split at run
  · rename_i c rest pending
    obtain ⟨u, commanded, q⟩ := h.exec c (s := s.withPending rest) (confirm c rest pending)
      (h.beside (withPending_touches s rest) (by decide) p)
    obtain rfl : u = t := by simpa [commanded] using run
    exact q
  · obtain rfl : Machine.idle s = t := by simpa using run
    exact h.idle p

end KeptByMoves
end Sys2Proof.Machine
end

section
/-! PROOF. What every step keeps of the code unit, and how the machine comes to CLOSING (R90, R99, R101 to R103, R114, R121).
-/

namespace Sys2Proof.Machine

/-- The code unit after step 1: kept over valid retained memory, else at its factory values (R170). -/
theorem startStep1_code (s : State) :
    (startStep1 s).code = if retainedValid s.power then s.code else CodeUnit.factory := by
  have settle : ∀ (b : Bool) (u : State), (if b then settleFromRecords u else u).code = u.code := by
    intro b u
    split <;> rfl
  have judged : (startStep1 s).code = (if retainedValid s.power then s else factoryState s).code := settle _ _
  rw [judged]
  split <;> rfl

theorem startStep1_retainedValid (s : State) : retainedValid (startStep1 s).power = true := rfl

/-- CONFIRM leaves the code unit and the power logic. -/
theorem takeConfirm_stands (s : State) :
    (takeConfirm s).code = s.code ∧ retainedValid (takeConfirm s).power = retainedValid s.power := by
  have rest := takeConfirm_touches s
  exact ⟨rest .code (by decide), congrArg retainedValid (rest.power_eq (by decide))⟩

/-! ### The code unit's ranges -/

/-- The code unit within its ranges (R88, R101 to R103). -/
def codeInRange (s : State) : Prop := s.code.inRange

theorem CodeUnit.factory_inRange : CodeUnit.factory.inRange := by
  simp [CodeUnit.inRange, CodeUnit.factory, acceptedWell, Rising]

theorem codeInRange_kept : KeptByMoves codeInRange where
  stands stand range := by rwa [codeInRange, stand.code]
  moved _ keeps range := keeps range
  accept small fresh range := by
    obtain ⟨accepted, -, lock, line⟩ := range
    exact ⟨acceptSeq_acceptedWell small (fun mem => fresh (.inl mem)) accepted, Nat.zero_le _, lock, line⟩
  startStep1 {s} range := by
    rw [codeInRange, startStep1_code]
    split
    · exact range
    · exact CodeUnit.factory_inRange

/-- Settles O33: every move of the code unit keeps its ranges, and so does every step. -/
theorem codeUnitStaysInRange : Obligations.CodeUnitStaysInRange := by
  unfold Obligations.CodeUnitStaysInRange
  intro s t run range
  refine codeInRange_kept.step run (fun _ _ _ _ u _ range => ?_) range
  rwa [codeInRange, (takeConfirm_stands u).1]

/-! ### The spent sequences -/

/-- Over valid retained memory, a list in its form with the sequence spent (R99, R101). -/
def keepsSpent (q : Nat) (s : State) : Prop :=
  retainedValid s.power = true ∧ acceptedWell s.code.accepted ∧ Spent q s.code.accepted

theorem keepsSpent_kept (q : Nat) : KeptByMoves (keepsSpent q) where
  stands stand keeps := by
    obtain ⟨valid, well, spent⟩ := keeps
    exact ⟨stand.retained valid, stand.code ▸ well, stand.code ▸ spent⟩
  moved same _ keeps := by
    obtain ⟨valid, well, spent⟩ := keeps
    exact ⟨valid, same ▸ well, same ▸ spent⟩
  accept small fresh keeps := by
    obtain ⟨valid, well, spent⟩ := keeps
    exact ⟨valid, acceptSeq_acceptedWell small (fun mem => fresh (.inl mem)) well, spent_of_acceptSeq well fresh spent⟩
  startStep1 {s} keeps := by
    obtain ⟨valid, well, spent⟩ := keeps
    have code : (startStep1 s).code = s.code := (startStep1_code s).trans (if_pos valid)
    exact ⟨startStep1_retainedValid s, code ▸ well, code ▸ spent⟩

/-- Settles O34: an acceptance spends its sequence and drops only what lies below the rest of a full list; the judgement
refuses what is spent. -/
theorem noSequenceIsAcceptedTwice : Obligations.NoSequenceIsAcceptedTwice := by
  unfold Obligations.NoSequenceIsAcceptedTwice
  refine ⟨spent_acceptSeq, fun s t run valid well q spent => ?_, fun _ _ _ passed => judgeCode_not_spent passed⟩
  obtain ⟨-, -, kept⟩ : keepsSpent q t := (keepsSpent_kept q).step run (fun _ _ _ _ u _ keeps => by
    obtain ⟨code, marks⟩ := takeConfirm_stands u
    rwa [keepsSpent, code, marks]) ⟨valid, well, spent⟩
  exact kept

/-! ### CLOSING -/

def notClosing (s : State) : Prop := s.supply.machine ≠ .closing

theorem notClosing_kept : KeptByMoves notClosing where
  stands stand other closing := other (stand.closing closing)
  moved _ _ other := other
  accept _ _ other := other
  startStep1 {s} other := by
    rw [notClosing, startStep1_supply]
    split
    · exact other
    · simp [Supply.factory]

/-- Settles O38: no command but a CONFIRM that is taken brings the machine to CLOSING. -/
theorem closingIsEnteredOnlyOnConfirm : Obligations.ClosingIsEnteredOnlyOnConfirm := by
  unfold Obligations.ClosingIsEnteredOnlyOnConfirm
  intro s t run closing
  by_contra none
  obtain ⟨other, unconfirmed⟩ := not_or.mp none
  refine notClosing_kept.step run (fun c rest pending confirms u supply still => ?_) other closing
  obtain ⟨rfl, running, empty⟩ := confirms
  obtain ⟨ready, stuck⟩ := not_or.mp fun machine => unconfirmed ⟨rest, pending, running, empty, machine⟩
  rwa [takeConfirm_refused (supply ▸ ready) (supply ▸ stuck)]

end Sys2Proof.Machine
end

section
/-! PROOF. The last second of the four timers counted in seconds (R89, R103, R122, R123, R132). -/

namespace Sys2Proof.Machine

/-! ### The lock and the idle timer -/

theorem exec_lockExpiry {s : State} (running : isRunning s = true) (last : s.code.lock = 1) :
    exec .lockExpiry s = .next (endLock s) := by simp [exec, execLockExpiry, running, last]

theorem endLock_code (s : State) : (endLock s).code = { s.code with lock := 0, failCount := 0 } := by
  rw [endLock, pageCode_code]
  rfl

theorem exec_idleTimeout {s : State} (running : isRunning s = true) (scanning : s.code.scanning = true)
    (held : s.code.held = false) (reached : s.settings.idleTimeout ≤ s.code.idle) :
    exec .idleTimeout s = .next (idleExpires s) := by
  simp [exec, execIdleTimeout, idleCounts, running, scanning, held, reached]

theorem exec_idleTimeout_early {s : State} (early : s.code.idle < s.settings.idleTimeout) :
    exec .idleTimeout s = .next s := by
  simp [exec, execIdleTimeout, Nat.not_le_of_lt early]

theorem length_entryBytes (line : List (Fin 10)) : (entryBytes line).length = 11 := by simp [entryBytes, length_padTo]

/-- The page's entry line is the line (R88). -/
theorem pageEntry_shows {s : State} (up : linkUp s = true) :
    peekBytes (pageEntry s) 0x6C 11 = entryBytes (pageEntry s).code.line := by
  have code : (pageEntry s).code = s.code := pageEntry_touches s .code (by decide)
  have shown := peekBytes_poke up 0x6C (entryBytes s.code.line)
  rw [length_entryBytes] at shown
  rw [code]
  exact shown

/-- The expiry writes an empty line to the page, where there was a line to clear (R89). -/
theorem idleExpires_shows {s : State} (up : linkUp s = true) :
    peekBytes (idleExpires s) 0x6C 11 =
      if s.code.line = [] then peekBytes s 0x6C 11 else [0, 0, 0, 0, 0, 0, 0, 0, 0, 0, 0] := by
  by_cases empty : s.code.line = []
  · rw [if_pos empty, idleExpires, if_pos empty]
  · have code : (pageEntry (clearLine s)).code = (clearLine s).code := pageEntry_touches _ .code (by decide)
    have cleared : (clearLine s).code.line = [] := rfl
    rw [if_neg empty, idleExpires, if_neg empty,
      pageEntry_shows (by rw [(clearLine_touches s).linkUp_eq (by decide), up]), code, cleared]
    decide

/-! ### The retry timer and the reclose wait -/

theorem exec_retryTimerExpiry {s : State} (running : isRunning s = true) (stuck : s.supply.machine = .stuckClosed)
    (last : s.supply.retry = 1) : exec .retryTimerExpiry s = .next (enterOpening .retry s) := by
  simp [exec, execRetryTimerExpiry, retryDue, retryExpires, running, stuck, last]

theorem exec_recloseWaitExpiry {s : State} {r : Nat} (running : isRunning s = true)
    (waiting : s.supply.overload = .waiting r) (last : r ≤ 1) :
    exec .recloseWaitExpiry s = .next (endOverload s) := by
  simp [exec, execRecloseWaitExpiry, recloseDue, running, waiting, last]

theorem endOverload_overload (s : State) : (endOverload s).supply.overload = .none :=
  congrArg History.overload (endOverload_history s)

theorem endOverload_causes (s : State) :
    (endOverload s).supply.causes = { s.supply.causes with overload := false } := by
  rw [endOverload, setCause_causes, pageSupply_supply]
  rfl

/-- A cause placed or removed while RUNNING is acted on (R116). -/
theorem setCause_acts {k : Cause} {b : Bool} {s : State} (running : isRunning s = true)
    (other : s.supply.causes.has k ≠ b) :
    setCause k b s = actOnCauses (pageSupply (overSupply (fun p => { p with causes := p.causes.put k b }) s)) := by
  have only : OnlyTouches [.store, .supply] s
      (pageSupply (overSupply (fun p => { p with causes := p.causes.put k b }) s)) := by simp
  rw [setCause, if_neg other, if_pos (by rw [only.isRunning_eq (by decide), running])]

/-- The last cause gone, an open supply awaits CONFIRM (R122). -/
theorem actOnCauses_opened {s : State} (opened : s.supply.machine = .opened)
    (empty : s.supply.causes.isEmpty = true) : actOnCauses s = changeMachine .awaitConfirm .cause false s := by
  simp [actOnCauses, opened, empty]

theorem endOverload_readies {s : State} (running : isRunning s = true) (opened : s.supply.machine = .opened)
    (alone : s.supply.causes = ⟨false, false, false, true⟩) : (endOverload s).supply.machine = .awaitConfirm := by
  have only : OnlyTouches [.store, .supply] s (pageSupply (overSupply (fun p => { p with overload := .none }) s)) := by
    simp
  rw [endOverload, setCause_acts (by rw [only.isRunning_eq (by decide), running])
    (by simp [alone, Causes.has]), actOnCauses_opened (by simpa using opened)
    (by simp [alone, Causes.put, Causes.isEmpty])]
  simp

/-- Settles O37: each expiry by its command's work at the last second. -/
theorem secondCountedTimersExpire : Obligations.SecondCountedTimersExpire := by
  unfold Obligations.SecondCountedTimersExpire
  refine ⟨fun s running last => ?_, fun s running scanning held reached => ?_, fun s early => ?_,
    fun s running stuck last => ?_, fun s r running waiting last => ?_⟩
  · exact ⟨_, exec_lockExpiry running last, endLock_code s⟩
  · exact ⟨_, exec_idleTimeout running scanning held reached, idleExpires_code s,
      idleExpires_shows (linkUp_of_isRunning running)⟩
  · exact exec_idleTimeout_early early
  · exact ⟨_, exec_retryTimerExpiry running stuck last, by simp [Converter.pulseBegins]⟩
  · exact ⟨_, exec_recloseWaitExpiry running waiting last, endOverload_overload s, endOverload_causes s,
      endOverload_readies running⟩

end Sys2Proof.Machine
end

section
/-! PROOF. Keys on the entry line, taken and not, and their releases (R86 to R88). -/

namespace Sys2Proof.Machine

/-! ### The scanner -/

theorem exec_keyPress {k : Key} {s : State} (running : isRunning s = true) (scanning : s.code.scanning = true) :
    exec (.keyPress k) s = .next (scanPress k (s.withPins (s.pins.press k))) := by
  simp [exec, execKeyPress, scans, running, scanning]

theorem exec_keyRelease {k : Key} {s : State} (running : isRunning s = true) (scanning : s.code.scanning = true) :
    exec (.keyRelease k) s = .next (scanRelease k (s.withPins (s.pins.release k))) := by
  simp [exec, execKeyRelease, scans, running, scanning]

/-- A press that is not taken sets the lockout (R86). -/
theorem scanPress_untaken {k : Key} {s : State} (up : k ∉ s.code.keysDown)
    (blocked : s.code.held = true ∨ s.code.keysDown ≠ [] ∨ s.code.lockout = true) :
    scanPress k s = overCode (fun u => { u with keysDown := k :: u.keysDown, lockout := true }) s := by
  have untaken : pressTaken s.code = false := by
    rcases blocked with held | down | lockout
    · simp [pressTaken, held]
    · simp [pressTaken, down]
    · simp [pressTaken, lockout]
  rw [scanPress, if_neg up, untaken, if_neg Bool.false_ne_true]

theorem scanRelease_down {k : Key} {s : State} (down : k ∈ s.code.keysDown) :
    scanRelease k s = overCode (fun u =>
      { u with keysDown := s.code.keysDown.erase k, lockout := u.lockout && !(s.code.keysDown.erase k).isEmpty }) s :=
  if_pos down

/-- The released input reads up (R86). -/
theorem not_mem_release (k : Key) (p : Pins) : k ∉ (p.release k).keys := by simp [Pins.release]

/-! ### A taken key -/

/-- A taken key before it acts on the line: it is down, KEYPAD is raised and the idle timer restarted (R86, R87). -/
def keyTaken (k : Key) (s : State) : State :=
  overCode (fun u => { u with idle := 0 })
    (raise .keypad (overCode (fun u => { u with keysDown := [k] }) (s.withPins (s.pins.press k))))

theorem exec_keyPress_taken {k : Key} {s : State} (running : isRunning s = true) (scanning : s.code.scanning = true)
    (keys : s.code.keysDown = []) (held : s.code.held = false) (lockout : s.code.lockout = false) :
    exec (.keyPress k) s = .next (pageEntry (pressKey k (keyTaken k s))) := by
  rw [exec_keyPress running scanning]
  simp [scanPress, pressTaken, keys, held, lockout, takePress, keyTaken]

theorem keyTaken_code (k : Key) (s : State) : (keyTaken k s).code = { s.code with keysDown := [k], idle := 0 } := by
  have raised : ∀ u, (raise .keypad u).code = u.code := fun u => raise_touches u .keypad .code (by decide)
  rw [keyTaken, overCode, State.withCode_code, raised]
  rfl

theorem keyTaken_latched (k : Key) {s : State} (up : linkUp s = true) :
    (keyTaken k s).link.latched.getLsbD 7 = true := by
  have raised := raise_latched .keypad
    (s := overCode (fun u => { u with keysDown := [k] }) (s.withPins (s.pins.press k))) up
  have link : (keyTaken k s).link = (raise .keypad (overCode (fun u => { u with keysDown := [k] })
    (s.withPins (s.pins.press k)))).link := rfl
  rw [link, raised]
  simp [AttnCause.mask, AttnCause.bit]

/-- A taken key that edits the line alone: KEYPAD is raised and the page shows the new line (R87, R88). -/
theorem keyTaken_edits (k : Key) (f : CodeUnit → CodeUnit) {s : State} (running : isRunning s = true) :
    let t := pageEntry (overCode f (keyTaken k s))
    t.code = f { s.code with keysDown := [k], idle := 0 } ∧ t.link.latched.getLsbD 7 = true ∧
      peekBytes t 0x6C 11 = entryBytes t.code.line := by
  have up := linkUp_of_isRunning running
  have edited : OnlyTouches [.code, .link, .pins] s (overCode f (keyTaken k s)) := by simp [keyTaken]
  have paged := pageEntry_touches (overCode f (keyTaken k s))
  have code : (pageEntry (overCode f (keyTaken k s))).code = f (keyTaken k s).code := paged .code (by decide)
  have link : (pageEntry (overCode f (keyTaken k s))).link = (keyTaken k s).link := paged .link (by decide)
  intro t
  refine ⟨code.trans (by rw [keyTaken_code]), ?_, pageEntry_shows (by rw [edited.linkUp_eq (by decide), up])⟩
  rw [link]
  exact keyTaken_latched k up

/-- Settles O28: a taken key edits the line, any other press sets the lockout, and the last release clears it. -/
theorem keysActOnTheEntryLine : Obligations.KeysActOnTheEntryLine := by
  unfold Obligations.KeysActOnTheEntryLine
  refine ⟨fun d s running scanning keys held lockout => ?_, fun s running scanning keys held lockout => ?_,
    fun k s running scanning up blocked => ?_, fun k s running scanning down => ?_⟩
  · exact ⟨_, exec_keyPress_taken running scanning keys held lockout, keyTaken_edits (.digit d) _ running⟩
  · exact ⟨_, exec_keyPress_taken running scanning keys held lockout, keyTaken_edits .erase _ running⟩
  · rw [exec_keyPress running scanning, scanPress_untaken (s := s.withPins (s.pins.press k)) up blocked]
    exact ⟨_, rfl, rfl, by simp⟩
  · rw [exec_keyRelease running scanning, scanRelease_down (s := s.withPins (s.pins.release k)) down]
    exact ⟨_, rfl, rfl, not_mem_release k s.pins, by simp⟩

end Sys2Proof.Machine
end

section
/-! PROOF. DECODE_COMPLETION refuses a code by the first step that fails (R92, R96 to R102). -/

namespace Sys2Proof.Machine

/-! ### The judgement's order (R96 to R100) -/

theorem exists_kind_of_code {i : Nat} (low : i < 8) : ∃ k : TamperKind, k.code = i := by
  have every : ∀ j : Fin 8, ∃ k ∈ TamperKind.all, k.code = j := by decide
  obtain ⟨k, -, code⟩ := every ⟨i, low⟩
  exact ⟨k, code⟩

theorem TamperKind.code_lt (k : TamperKind) : k.code < 8 := by cases k <;> decide

/-- A value names no kind where its low byte is 0 (R161). -/
theorem namedKinds_eq_nil_iff_mod (value : Nat) : namedKinds value = [] ↔ value % 256 = 0 := by
  have low : ∀ i, (value % 256).testBit i = (decide (i < 8) && value.testBit i) := fun i =>
    Nat.testBit_mod_two_pow value 8 i
  rw [namedKinds_eq_nil_iff]
  constructor
  · intro unset
    refine Nat.eq_of_testBit_eq fun i => ?_
    rw [low, Nat.zero_testBit]
    by_cases inside : i < 8
    · obtain ⟨k, rfl⟩ := exists_kind_of_code inside
      rw [unset k, Bool.and_false]
    · rw [decide_eq_false inside, Bool.false_and]
  · intro zero k
    have bit := low k.code
    rwa [zero, Nat.zero_testBit, decide_eq_true k.code_lt, Bool.true_and, eq_comm] at bit

theorem overCap_eq_true_iff (credit : Credit) (value : Nat) :
    overCap credit value = true ↔ 99999999 < credit.balance + value := decide_eq_true_iff

/-- Steps 7 to 9 in their order (R99, R100). -/
theorem judgeFields_eq (c : Code) (accepted : List Nat) (credit : Credit) :
    judgeFields c accepted credit =
      if c.cls = 0 ∨ 6 ≤ c.cls then .badClass
      else if c.seq ∈ accepted then .used
      else if 40 ≤ accepted.length ∧ (∃ x, accepted.head? = some x ∧ c.seq < x) then .stale
      else if c.cls = 1 ∧ 99999999 < credit.balance + c.value then .overCap
      else if c.cls = 2 ∧ c.value % 256 = 0 ∨ c.cls = 5 ∧ c.value ≠ 0 then .badValue
      else .ok := by
  unfold judgeFields
  simp only [listTop, overCap_eq_true_iff, decide_eq_true_eq, namedKinds_eq_nil_iff_mod, Option.any_eq_true, ite_or]

/-- Steps 1 to 6 in their order, then the fields (R96 to R98, R102). -/
theorem judgeCode_verdict {chars : List Byte} {digits : List Nat} (s : State) (spelled : digitsOf chars = some digits) :
    (judgeCode chars s).1 =
      if 2 ^ 64 ≤ decimal digits then .badFormat
      else if s.code.keySet = false then .noKey
      else if 0 < s.code.lock then .locked
      else if checkOf s.code.key (clearPart (decimal digits) s.code.key) ≠ decimal digits % 2 ^ 16 then .badCheck
      else judgeFields (clearFields (clearPart (decimal digits) s.code.key)) s.code.accepted s.credit := by
  unfold judgeCode
  rw [spelled]
  simp only [apply_ite Prod.fst]

theorem judgeCode_unspelled {chars : List Byte} (s : State) (unspelled : digitsOf chars = none) :
    (judgeCode chars s).1 = .badDigits := by
  rw [judgeCode, unspelled]

/-! ### What a refusal leaves (R92, R101, R102) -/

theorem exec_decodeCompletion_finishes {src : Source} {chars : List Byte} {s : State} (running : isRunning s = true)
    (decoding : s.code.decoder = .decoding src chars) : exec .decodeCompletion s = .next (finishDecode src chars s) := by
  simp [exec, execDecodeCompletion, decoding, running]

/-- A refusal settles nothing but BAD_CHECK's count and lock. -/
theorem settleCode_refused {v : Verdict} (refused : v ≠ .ok) (c : Option Code) (s : State) :
    settleCode v c s = if v = .badCheck then pageCode (overCode CodeUnit.checkFailed s) else s := by
  unfold settleCode
  split
  · exact absurd rfl refused
  · exact (if_pos rfl).symm
  · rename_i other _
    exact (if_neg other).symm

theorem settleCode_refused_touches {v : Verdict} (refused : v ≠ .ok) (c : Option Code) (s : State) :
    OnlyTouches [.store, .code] s (settleCode v c s) := by
  rw [settleCode_refused refused]
  split
  · simp
  · exact OnlyTouches.refl _ s

/-- The list, the count and the lock after a refusal. -/
theorem settleCode_refused_code {v : Verdict} (refused : v ≠ .ok) (c : Option Code) (s : State) :
    (settleCode v c s).code = if v = .badCheck then s.code.checkFailed else s.code := by
  rw [settleCode_refused refused, apply_ite State.code, pageCode_code]
  rfl

/-- The fifth failed check brings the lock into force (R102). -/
theorem CodeUnit.checkFailed_lock (u : CodeUnit) : u.checkFailed.lock = if 4 ≤ u.failCount then 600 else u.lock :=
  if_congr (by omega) rfl rfl

/-- The end of a decode with outcome `v`: its effects, the report, the arbiter. -/
def codeJudged (src : Source) (v : Verdict) (c : Option Code) (s : State) : State :=
  arbitrate (reportDecode src v c s.tamper.records (settleCode v c s))

section
variable (src : Source) {v : Verdict} (refused : v ≠ .ok) (c : Option Code) (s : State)
include refused

theorem codeRefused_touches : OnlyTouches [.store, .code, .link, .strip] s (codeJudged src v c s) :=
  (((settleCode_refused_touches refused c s).mono (by decide)).trans (reportDecode_touches _ src v c _)).trans
    ((arbitrate_touches _).mono (by decide))

/-- The report and the arbiter leave the list, the count and the lock as the refusal settled them. -/
theorem codeRefused_lists :
    let settled := if v = .badCheck then s.code.checkFailed else s.code
    (codeJudged src v c s).code.accepted = settled.accepted ∧
      (codeJudged src v c s).code.failCount = settled.failCount ∧ (codeJudged src v c s).code.lock = settled.lock := by
  obtain ⟨reported, failures, lock⟩ := reportDecode_listStands src v c s.tamper.records (settleCode v c s)
  obtain ⟨⟨arbitrated, still, locked⟩, -, -⟩ :=
    arbitrate_code (reportDecode src v c s.tamper.records (settleCode v c s))
  have code := settleCode_refused_code refused c s
  intro settled
  exact ⟨(arbitrated.trans reported).trans (congrArg CodeUnit.accepted code),
    (still.trans failures).trans (congrArg CodeUnit.failCount code),
    (locked.trans lock).trans (congrArg CodeUnit.lock code)⟩

/-- A refused slip's outcome shows as long as the arbiter does not find the slip waiting. -/
theorem codeRefused_slip {n : Fin 16} (running : isRunning s = true) (absent : n ∉ s.link.waiting) :
    slipState (codeJudged (.slip n true) v c s) n = .done ∧
      peek (codeJudged (.slip n true) v c s) (slipBase n + 2) = byteOf v.code := by
  let settled := settleCode v c s
  let result := topupResult v c s.tamper.records settled
  have only : OnlyTouches [.store, .code] s settled := settleCode_refused_touches refused c s
  have up : linkUp settled = true := by rw [only.linkUp_eq (by decide), linkUp_of_isRunning running]
  have waits : (completeSlip n v result settled).link.waiting = s.link.waiting :=
    (completeSlip_link n _ _ _).1.trans (congrArg Link.waiting (only .link (by decide)))
  obtain ⟨state, verdict, -⟩ := (completeSlip_shows n v result up).later (arbitrate_slip (by rw [waits]; exact absent))
  exact ⟨state, verdict⟩

end

/-- The keypad's hold ends with its submission, whatever the outcome (R92). -/
theorem codeJudged_keypad (v : Verdict) (c : Option Code) (s : State) :
    (codeJudged .keypad v c s).code.line = [] ∧ (codeJudged .keypad v c s).code.held = false := by
  obtain ⟨-, line, held⟩ := arbitrate_code (reportDecode .keypad v c s.tamper.records (settleCode v c s))
  rw [codeJudged, line, held, reportDecode_keypad_code]
  exact ⟨rfl, rfl⟩

/-- Settles O32: the judgement's order, and then each clause over the same refused end. -/
theorem refusedCodesChangeNoAccount : Obligations.RefusedCodesChangeNoAccount := by
  unfold Obligations.RefusedCodesChangeNoAccount
  intro s src chars running decoding
  dsimp only
  refine ⟨judgeCode_unspelled s, fun digits spelled => ?_, fun refused => ?_⟩
  · rw [judgeCode_verdict s spelled, judgeFields_eq]
  · have finished := exec_decodeCompletion_finishes running decoding
    have whole : finishDecode src chars s = codeJudged src (judgeCode chars s).1 (judgeCode chars s).2 s := rfl
    rw [whole] at finished
    generalize (judgeCode chars s).1 = v at refused finished ⊢
    generalize (judgeCode chars s).2 = c at finished
    have only := codeRefused_touches src refused c s
    obtain ⟨accepted, failures, lock⟩ := codeRefused_lists src refused c s
    refine ⟨_, finished, accepted.trans (by split <;> rfl), only.credit_eq (by decide), only.supply_eq (by decide),
      only .tamper (by decide), ?_, ?_, ?_, ?_⟩
    · rintro rfl
      exact ⟨failures, lock.trans s.code.checkFailed_lock⟩
    · intro other
      rw [failures, lock, if_neg other]
      exact ⟨rfl, rfl⟩
    · rintro n rfl absent
      exact codeRefused_slip refused c s running absent
    · rintro rfl
      exact codeJudged_keypad v c s

end Sys2Proof.Machine
end

section
/-! PROOF. TOPUP and KEY_SET at their posting, and KEY_SET at its completion (R93, R94, R108, R110, R189). -/

namespace Sys2Proof.Machine

/-! ### The posting (R93, R94, R108) -/

/-- What leaves a taken slip leaves it taken. -/
theorem SlipTaken.later {s t : State} {n : Fin 16} (h : SlipTaken s n) (same : SameBytes (slipPlace n) s t) :
    SlipTaken t n := by
  obtain ⟨state, verdict⟩ := h
  exact ⟨(slipState_eq n (same _ ⟨le_rfl, by omega⟩)).trans state, (same _ ⟨by omega, by omega⟩).trans verdict⟩

/-- A posted TOPUP or KEY_SET is taken while the decoder is idle and no submission waits for it. -/
theorem codeSlip_posted {n : Fin 16} {kind : Byte} {args : List Byte} {s : State} (free : Postable s n)
    (short : args.length ≤ 60) (code : kind = 1 ∨ kind = 2) :
    let p := slipPosted n kind args s
    postFilled n kind args s =
      if s.code.decoder = .idle ∧ s.code.waitingSub = false then takeCodeSlip n p else p := by
  intro p
  obtain ⟨running, -, -⟩ := id free
  obtain ⟨shown, -⟩ := slipPosted_body (args := args) n kind running
  have stands : p.code = s.code := slipPosted_touches n kind .code (by decide)
  have kinds : slipKind p n = 1 ∨ slipKind p n = 2 := by
    rw [shown]
    rcases code with rfl | rfl
    · exact .inl rfl
    · exact .inr rfl
  have accept : accepts p n = true ↔ s.code.decoder = .idle ∧ s.code.waitingSub = false := by
    simp [accepts, isCodeSlip, kinds, decoderIdle, stands]
  have take : takeSlip n p = takeCodeSlip n p := by
    unfold takeSlip
    rcases kinds with topup | keySet
    · rw [topup]
      rfl
    · rw [keySet]
      rfl
  rw [postFilled_eq n kind free short, take]
  exact if_congr accept rfl rfl

/-- Behind other work the slip waits at the tail (R93, R108). -/
theorem codeSlip_waits {n : Fin 16} {kind : Byte} {args : List Byte} {s : State} (free : Postable s n)
    (short : args.length ≤ 60) (code : kind = 1 ∨ kind = 2) (busy : s.code.decoder ≠ .idle ∨ s.code.waitingSub = true) :
    let t := postFilled n kind args s
    slipState t n = .posted ∧ t.link.waiting = s.link.waiting ++ [n] ∧ t.code = s.code := by
  obtain ⟨running, -, -⟩ := id free
  intro t
  have waits : t = slipPosted n kind args s := (codeSlip_posted free short code).trans
    (if_neg fun ⟨idle, unsubmitted⟩ => busy.elim (· idle) (by simp [unsubmitted]))
  rw [waits]
  exact ⟨slipPosted_state n kind running, (slipPosted_link n kind).1, slipPosted_touches n kind .code (by decide)⟩

/-- The taking: the slip marked, the code unit moved, the page written. -/
theorem codeSlip_takes {n : Fin 16} (kind : Byte) (args : List Byte) (f : CodeUnit → CodeUnit) {s : State}
    (free : Postable s n) :
    let t := pageCode (overCode f (markTaken n (slipPosted n kind args s)))
    SlipTaken t n ∧ t.link.waiting = s.link.waiting ∧ t.code = f s.code := by
  obtain ⟨running, -, -⟩ := id free
  have taken := markTaken_taken n (slipPosted_up n kind (args := args) running)
  have waits := markTaken_posted n kind (args := args) free
  have only : OnlyTouches [.store, .link] s (markTaken n (slipPosted n kind args s)) :=
    (slipPosted_touches n kind).trans (markTaken_touches _ n)
  generalize markTaken n (slipPosted n kind args s) = m at taken waits only
  have code : m.code = s.code := only .code (by decide)
  have later : SameBytes (fun a => 0x200 ≤ a) m (pageCode (overCode f m)) :=
    ((overCode_touches m f).sameBytes (by decide) _).trans (pageCode_sameBytes _)
  have link : (pageCode (overCode f m)).link = m.link := pageCode_touches (overCode f m) .link (by decide)
  refine ⟨taken.later (later.mono fun _ place => (Nat.le_add_right _ _).trans place.1),
    (congrArg Link.waiting link).trans waits, ?_⟩
  rw [pageCode_code, overCode, State.withCode_code, code]

theorem takeCodeSlip_topup {n : Fin 16} {s : State} (kind : slipKind s n = 1) :
    takeCodeSlip n s = pageCode (overCode (fun u =>
      { u with decoder := .decoding (.slip n true) (peekBytes s (slipBase n + 4) 20) }) (markTaken n s)) := if_pos kind

theorem takeCodeSlip_keySet {n : Fin 16} {s : State} (kind : slipKind s n = 2) :
    takeCodeSlip n s = pageCode (overCode (fun u =>
      { u with
        decoder := .keying n true u.keySet
        key := if u.keySet then u.key else BitVec.ofNat 64 (slipArg s n 4 8)
        keySet := true }) (markTaken n s)) := if_neg (by simp [kind])

theorem topup_taken {n : Fin 16} {chars : List Byte} {s : State} (free : Postable s n) (length : chars.length = 20)
    (idle : s.code.decoder = .idle) (unsubmitted : s.code.waitingSub = false) :
    postFilled n 1 chars s = pageCode (overCode (fun u => { u with decoder := .decoding (.slip n true) chars })
      (markTaken n (slipPosted n 1 chars s))) := by
  obtain ⟨running, -, -⟩ := id free
  obtain ⟨kind, copied⟩ := slipPosted_body (args := chars) n 1 running
  rw [length] at copied
  rw [codeSlip_posted free (by omega) (.inl rfl), if_pos ⟨idle, unsubmitted⟩, takeCodeSlip_topup kind, copied]

theorem keySet_taken {n : Fin 16} (key : BitVec 64) {s : State} (free : Postable s n)
    (idle : s.code.decoder = .idle) (unsubmitted : s.code.waitingSub = false) :
    postFilled n 2 (leBytes 8 key.toNat) s = pageCode (overCode (fun u =>
      { u with
        decoder := .keying n true u.keySet
        key := if u.keySet then u.key else key
        keySet := true }) (markTaken n (slipPosted n 2 (leBytes 8 key.toNat) s))) := by
  obtain ⟨running, -, -⟩ := id free
  obtain ⟨kind, -⟩ := slipPosted_body (args := leBytes 8 key.toNat) n 2 running
  rw [codeSlip_posted free (by simp) (.inr rfl), if_pos ⟨idle, unsubmitted⟩, takeCodeSlip_keySet kind,
    slipPosted_arg n 2 running key.isLt, BitVec.ofNat_toNat, BitVec.setWidth_eq]

/-! ### The completion (R108, R110, R189) -/

theorem exec_keySetCompletion {n : Fin 16} {live locked : Bool} {s : State} (running : isRunning s = true)
    (keying : s.code.decoder = .keying n live locked) :
    exec .keySetCompletion s = .next (finishKeySet n live locked s) := by
  simp [exec, execKeySetCompletion, keying, running]

/-- With nothing waiting the arbiter leaves the decoder idle (R93). -/
theorem arbitrate_idle {s : State} (unsubmitted : s.code.waitingSub = false) (empty : s.link.waiting = []) :
    arbitrate s = pageCode (overCode (fun u => { u with decoder := .idle }) s) := by
  let idle := pageCode (overCode (fun u => { u with decoder := .idle }) s)
  have code : idle.code = { s.code with decoder := .idle } := pageCode_code _
  have link : idle.link = s.link := pageCode_touches _ .link (by decide)
  have whole : arbitrate s =
      if idle.code.waitingSub then takeSubmission idle
      else match idle.link.waiting.find? (isCodeSlip idle) with
        | some n => takeCodeSlip n idle
        | none => idle := rfl
  rw [whole, code, link, unsubmitted, empty]
  rfl

theorem length_codeBytes (u : CodeUnit) : (codeBytes u).length = 12 := by simp [codeBytes]

/-- The page's code bytes are the code unit's (spec/11 section 11.3). -/
theorem pageCode_shows {s : State} (up : linkUp s = true) :
    peekBytes (pageCode s) 0x77 12 = codeBytes (pageCode s).code := by
  have shown := peekBytes_poke up 0x77 (codeBytes s.code)
  rw [length_codeBytes] at shown
  rw [pageCode_code]
  exact shown

theorem pageCode_offPage (s : State) : SameBytes (fun a => ¬ statusPage a) s (pageCode s) :=
  poke_sameBytes s fun b off => .inr (by
    rw [length_codeBytes]
    unfold statusPage at off
    omega)

theorem keySet_completes {n : Fin 16} (locked : Bool) {s : State} (running : isRunning s = true)
    (absent : n ∉ s.link.waiting) :
    SlipShows (finishKeySet n true locked s) n (if locked = true then .keyLocked else .ok)
      [if s.code.keySet = true then 1 else 0] := by
  have key : byteOf s.code.keySet.toNat = if s.code.keySet = true then 1 else 0 := by cases s.code.keySet <;> rfl
  let v : Verdict := if locked then .keyLocked else .ok
  have waits : (completeSlip n v [byteOf s.code.keySet.toNat] s).link.waiting = s.link.waiting :=
    (completeSlip_link n _ _ _).1
  rw [← key]
  exact (completeSlip_shows n v _ (linkUp_of_isRunning running)).later (arbitrate_slip (by rw [waits]; exact absent))

/-- With nothing waiting the decoder is IDLE after the completion (R108). -/
theorem keySet_idles (n : Fin 16) (live locked : Bool) {s : State} (unsubmitted : s.code.waitingSub = false)
    (empty : s.link.waiting = []) :
    (finishKeySet n live locked s).code = { s.code with decoder := .idle } ∧
      (finishKeySet n live locked s).link.waiting = [] := by
  let v : Verdict := if locked then .keyLocked else .ok
  let done := if live then completeSlip n v [byteOf s.code.keySet.toNat] s else s
  have completed : OnlyTouches [.store, .link] s done :=
    iteInduction (fun _ => completeSlip_touches s n v _) fun _ => OnlyTouches.refl _ s
  have code : done.code = s.code := completed .code (by decide)
  have waits : done.link.waiting = [] :=
    iteInduction (motive := fun u : State => u.link.waiting = []) (fun _ => (completeSlip_link n v _ s).1.trans empty)
      fun _ => empty
  have whole : finishKeySet n live locked s = pageCode (overCode (fun u => { u with decoder := .idle }) done) :=
    arbitrate_idle (by rw [code, unsubmitted]) waits
  have link : (pageCode (overCode (fun u => { u with decoder := .idle }) done)).link = done.link :=
    pageCode_touches _ .link (by decide)
  rw [whole, link, pageCode_code, overCode, State.withCode_code, code]
  exact ⟨rfl, waits⟩

/-- A freed slip's completion is the arbiter alone, and shows on the page (R110, R189). -/
theorem keySet_freed {n : Fin 16} (locked : Bool) {s : State} (running : isRunning s = true)
    (unsubmitted : s.code.waitingSub = false) (empty : s.link.waiting = []) :
    let t := finishKeySet n false locked s
    peekBytes t 0x77 12 = codeBytes t.code ∧ SameBytes (fun a => ¬ statusPage a) s t ∧
      OnlyTouches [.store, .code] s t := by
  intro t
  have whole : t = pageCode (overCode (fun u => { u with decoder := .idle }) s) := arbitrate_idle unsubmitted empty
  have idled := overCode_touches s fun u => { u with decoder := .idle }
  rw [whole]
  exact ⟨pageCode_shows (by rw [idled.linkUp_eq (by decide), linkUp_of_isRunning running]),
    (idled.sameBytes (by decide) _).trans (pageCode_offPage _), by simp⟩

/-- Settles O30: the slip taken or waiting by the decoder, and the completion by the slip's life. -/
theorem codeSlipsAreTakenAndKeysComplete : Obligations.CodeSlipsAreTakenAndKeysComplete := by
  unfold Obligations.CodeSlipsAreTakenAndKeysComplete
  refine ⟨fun n chars s free length idle unsubmitted => ?_, fun n key s free idle unsubmitted => ?_,
    fun n chars key s free length busy => ?_, fun s n locked running keying absent => ?_,
    fun s n locked running keying unsubmitted empty => ?_⟩
  · have run : exec (.topup n chars) s = .next (postFilled n 1 chars s) := rfl
    rw [run, topup_taken free length idle unsubmitted]
    exact ⟨_, rfl, codeSlip_takes 1 chars _ free⟩
  · have run : exec (.keySet n key) s = .next (postFilled n 2 (leBytes 8 key.toNat) s) := rfl
    rw [run, keySet_taken key free idle unsubmitted]
    exact ⟨_, rfl, codeSlip_takes 2 _ _ free⟩
  · exact ⟨⟨_, rfl, codeSlip_waits free (by omega) (.inl rfl) busy⟩,
      ⟨_, rfl, codeSlip_waits free (by simp) (.inr rfl) busy⟩⟩
  · exact ⟨_, exec_keySetCompletion running keying, keySet_completes locked running absent,
      keySet_idles n true locked⟩
  · obtain ⟨code, -⟩ := keySet_idles n false locked unsubmitted empty
    exact ⟨_, exec_keySetCompletion running keying, code, keySet_freed locked running unsubmitted empty⟩

end Sys2Proof.Machine
end

section
/-! SUPPORT. The SUPPLY attention cause at a state change (R125). -/

namespace Sys2Proof.Machine

/-- A state change raises SUPPLY (R125). -/
theorem changeMachine_raises (m : MachineState) (x : SupplyTrigger) (u : Bool) {s : State} (up : linkUp s = true) :
    (changeMachine m x u s).link.latched.getLsbD 5 = true := by
  have still : ∀ v, OnlyTouches [.store, .supply, .link, .strip, .profile] s v → linkUp v = true := fun v only => by
    rw [only.linkUp_eq (by decide), up]
  unfold changeMachine
  dsimp only
  rw [raise_latched _ (still _ (by simp [apply_ite (OnlyTouches _ _)]))]
  simp [AttnCause.mask, AttnCause.bit]

theorem enterOpening_raises (x : SupplyTrigger) {s : State} (up : linkUp s = true) :
    (enterOpening x s).link.latched.getLsbD 5 = true :=
  ((beginAttempt_touches _ _).linkGrows (by decide)).latched 5 (changeMachine_raises .opening x false up)

/-- A machine that acts on its causes and changes its state raises SUPPLY (R116, R125). -/
theorem actOnCauses_raises {s : State} (up : linkUp s = true) (moved : (actOnCauses s).supply.machine ≠ s.supply.machine) :
    (actOnCauses s).link.latched.getLsbD 5 = true := by
  unfold actOnCauses at moved ⊢
  split
  case h_1 => exact enterOpening_raises _ up
  case h_4 =>
    split
    · exact enterOpening_raises _ up
    · simp_all
  case h_7 => simp at moved
  all_goals exact changeMachine_raises _ _ _ up

/-- A cause that is already so is placed or removed by nothing (R112). -/
theorem setCause_same {k : Cause} {b : Bool} {s : State} (same : s.supply.causes.has k = b) : setCause k b s = s :=
  if_pos same

/-- A cause placed or removed that changes the state raises SUPPLY (R116, R125). -/
theorem setCause_raises {k : Cause} {b : Bool} {s : State} (running : isRunning s = true)
    (moved : (setCause k b s).supply.machine ≠ s.supply.machine) : (setCause k b s).link.latched.getLsbD 5 = true := by
  by_cases same : s.supply.causes.has k = b
  · rw [setCause_same same] at moved
    exact absurd rfl moved
  · have only : OnlyTouches [.store, .supply] s
        (pageSupply (overSupply (fun p => { p with causes := p.causes.put k b }) s)) := by simp
    rw [setCause_acts running same] at moved ⊢
    exact actOnCauses_raises (by rw [only.linkUp_eq (by decide), linkUp_of_isRunning running]) (by simpa using moved)

end Sys2Proof.Machine
end

section
/-! PROOF. The expiry of a verify window: its extension, a further pulse, the failed attempt (R119, R123 to R125). -/

namespace Sys2Proof.Machine

theorem exec_verifyWindowExpiry {s : State} {a : Attempt} (running : isRunning s = true)
    (attempt : s.supply.attempt = some a) (verify : a.phase = .verify) :
    exec .verifyWindowExpiry s = .next (windowExpires a s) := by
  simp [exec, execVerifyWindowExpiry, running, attempt, verify]

/-- The supply is weak where no closed frame reads 100.0 V or more (R119). -/
theorem weakSupply_iff (s : State) : weakSupply s = true ↔ ∀ f, s.front.last = some f → f.v < 1000 := by
  cases last : s.front.last <;> simp [weakSupply, lastV, last]

/-- The expiry's three outcomes (R119). -/
theorem windowExpires_eq (a : Attempt) (s : State) :
    windowExpires a s =
      if (∀ f, s.front.last = some f → f.v < 1000) ∧ a.extensions < 10 then
        pageSupply (overSupply (fun p =>
          { p with attempt := some { a with extensions := a.extensions + 1, window := 2000 } }) s)
      else if a.pulse < 3 then
        pageSupply (beginPulse a.direction (overSupply (fun p =>
          { p with attempt := some { a with pulse := a.pulse + 1, extensions := 0, phase := .pulse, window := 0 } }) s))
      else failAttempt a s := by
  simp only [windowExpires, Bool.and_eq_true, weakSupply_iff, decide_eq_true_eq]

theorem relayFaultNotice_supply (a : Attempt) (s : State) : (relayFaultNotice a s).supply = s.supply :=
  (relayFaultNotice_touches s a).supply_eq (by decide)

theorem relayFaultNotice_conv (a : Attempt) (s : State) : (relayFaultNotice a s).conv = s.conv :=
  relayFaultNotice_touches s a .conv (by decide)

/-- A failed close is stuck open (R124). -/
theorem failAttempt_toClose {a : Attempt} (s : State) (close : a.direction = .toClose) :
    failAttempt a s = changeMachine .stuckOpen .fault false (relayFaultNotice a s) := by
  simp [failAttempt, close]

/-- A failed open is stuck closed, and over an empty cause set closed again at once (R123). -/
theorem failAttempt_toOpen {a : Attempt} (s : State) (opens : a.direction = .toOpen) :
    failAttempt a s =
      let stuck := changeMachine .stuckClosed .fault false (relayFaultNotice a s)
      if s.supply.causes.isEmpty then changeMachine .closed .cause false stuck
      else pageSupply (overSupply (fun p => { p with retry := 600 }) stuck) := by
  simp [failAttempt, opens, relayFaultNotice_supply]

/-- Whatever its direction, a failed attempt is over, leaves the converter, and raises SUPPLY (R123 to R125). -/
theorem failAttempt_ends (a : Attempt) {s : State} (up : linkUp s = true) :
    (failAttempt a s).supply.attempt = none ∧ (failAttempt a s).conv = s.conv ∧
      (failAttempt a s).link.latched.getLsbD 5 = true := by
  have noted : linkUp (relayFaultNotice a s) = true := by
    rw [(relayFaultNotice_touches s a).linkUp_eq (by decide), up]
  cases direction : a.direction with
  | toClose =>
    rw [failAttempt_toClose s direction]
    exact ⟨by simp, by simp [relayFaultNotice_conv], changeMachine_raises _ _ _ noted⟩
  | toOpen =>
    have stuck := changeMachine_raises .stuckClosed .fault false noted
    have stuckUp : linkUp (changeMachine .stuckClosed .fault false (relayFaultNotice a s)) = true := by
      rw [(changeMachine_touches _ _ _ _).linkUp_eq (by decide), noted]
    rw [failAttempt_toOpen s direction]
    dsimp only
    split
    · exact ⟨by simp, by simp [relayFaultNotice_conv], changeMachine_raises _ _ _ stuckUp⟩
    · refine ⟨by simp, by simp [relayFaultNotice_conv], ?_⟩
      exact (OnlyTouches.linkGrows (bs := [.store, .supply]) (by simp) (by decide)).latched 5 stuck

/-- Settles O36: the three outcomes, each by its lemma. -/
theorem verifyWindowExpiryExtendsPulsesOrFails : Obligations.VerifyWindowExpiryExtendsPulsesOrFails := by
  unfold Obligations.VerifyWindowExpiryExtendsPulsesOrFails
  intro s a running attempt verify
  rw [exec_verifyWindowExpiry running attempt verify, windowExpires_eq]
  refine ⟨fun weak room => ?_, fun full pulses => ?_, fun full spent => ?_⟩
  · rw [if_pos ⟨weak, room⟩]
    exact ⟨_, rfl, by simp, by simp⟩
  · rw [if_neg full, if_pos pulses]
    exact ⟨_, rfl, by simp [beginPulse, Converter.pulseBegins], by simp [beginPulse]⟩
  · rw [if_neg full, if_neg (by omega)]
    obtain ⟨ended, conv, raised⟩ := failAttempt_ends a (linkUp_of_isRunning running)
    refine ⟨_, rfl, ended, conv, raised, fun close => ?_, fun opens empty => ?_, fun opens cause => ?_⟩
    · simp [failAttempt_toClose s close]
    · simp [failAttempt_toOpen s opens, empty]
    · simp [failAttempt_toOpen s opens, cause]

end Sys2Proof.Machine
end

section
/-! PROOF. RE_VERIFICATION with LOAD_V fresh, and without (R14, R128, R129, R173). -/

namespace Sys2Proof.Machine

/-- Without a fresh LOAD_V the re-verification waits (R14, R129). -/
theorem tryReverify_waits {s : State} (none : s.conv.loadV.value = none ∨ s.conv.loadV.fresh = false) :
    tryReverify s = s := by
  unfold tryReverify
  split
  · rcases none with absent | stale
    · simp [absent]
    · cases s.conv.loadV.value <;> simp [stale]
  · rfl

/-- Where the resolution is OPENING an open attempt begins (R129). -/
theorem resolveSupply_attempts {loadV : Nat} {s : State} (opening : (resolveSupply loadV s).supply.machine = .opening) :
    (resolveSupply loadV s).supply.attempt = some ⟨.toOpen, 1, .pulse, 0, 0, none⟩ ∧
      (resolveSupply loadV s).supply.coil = some .toOpen := by
  rw [(resolveSupply_supply loadV s).1] at opening
  unfold resolveSupply
  dsimp only
  rw [if_pos opening]
  simp

/-- Step 6 sets the scanner running and raises START (R86, R173). -/
theorem startStep6_starts {s : State} (mains : s.power.state = .mains) :
    (startStep6 s).code.scanning = true ∧ (startStep6 s).link.latched.getLsbD 3 = true := by
  constructor
  · rw [startStep6, (raise_touches _ .start .code (by decide) : _ = _)]
    rfl
  · rw [startStep6, raise_latched _ (by simp [linkUp, overPower, overCode, mains, Stage.num])]
    simp [AttnCause.mask, AttnCause.bit]

/-- Steps 5 and 6 as they start the scanner, raise START and begin an open attempt (R129, R173). -/
theorem startStep56_starts {s : State} (loadV : Nat) (mains : s.power.state = .mains) :
    let t := startStep56 loadV s
    t.code.scanning = true ∧ t.link.latched.getLsbD 3 = true ∧
      (t.supply.machine = .opening →
        t.supply.attempt = some ⟨.toOpen, 1, .pulse, 0, 0, none⟩ ∧ t.supply.coil = some .toOpen) := by
  let taken := s.withConv { s.conv with loadV := s.conv.loadV.taken }
  have power : (resolveSupply loadV taken).power = s.power := resolveSupply_touches taken loadV .power (by decide)
  obtain ⟨scanning, start⟩ := startStep6_starts (s := resolveSupply loadV taken) (by rw [power, mains])
  unfold startStep56
  dsimp only
  rw [startStep6_supply]
  exact ⟨scanning, start, resolveSupply_attempts⟩

/-- Settles O41: steps 5 and 6 over the fresh reading, the machine by R129's table; and the wait. -/
theorem reVerificationResolvesTheMachine : Obligations.ReVerificationResolvesTheMachine := by
  unfold Obligations.ReVerificationResolvesTheMachine
  refine ⟨fun s v mains stage value fresh => ?_, fun s mains stage none => ?_⟩
  · obtain ⟨running, front, mark, taken, causes, machine⟩ := startStep56_resolves v mains
    obtain ⟨scanning, start, attempt⟩ := startStep56_starts v mains
    refine ⟨startStep56 v s, ?_, running, front, scanning, mark, causes, taken, start, ?_, ?_, ?_, ?_, attempt⟩
    · rw [exec_reVerification_of_recomputed mains stage,
        tryReverify_of_fresh (b := s.conv.loadV.settle) mains stage (by rw [← value, ← fresh])]
    all_goals
      rw [machine, resolveMachine_reading]
      intro reading set
    · rw [if_pos reading, if_neg (by simp [set])]
    · rw [if_pos reading, if_pos set]
    · rw [if_neg (Nat.not_lt.mpr reading), if_pos set]
    · rw [if_neg (Nat.not_lt.mpr reading), if_neg (by simp [set])]
  · rw [exec_reVerification_of_recomputed mains stage, tryReverify_waits none]

end Sys2Proof.Machine
end

section
/-! PROOF. SUPPLY_ORDER at its posting (R116, R122, R125, R134). -/

namespace Sys2Proof.Machine

/-- The argument of an order: OPEN places ORDER and RELEASE removes it (R134). -/
def orderArg (place : Bool) : Nat := if place then 1 else 2

theorem orderArg_names (place : Bool) :
    (orderArg place = 1 ∨ orderArg place = 2) ∧ decide (orderArg place = 1) = place := by
  cases place <;> decide

/-- The end of an order that is taken: the machine has acted, and the slip reports the state it is left in (R134). -/
def orderDone (n : Fin 16) (place : Bool) (m : State) : State :=
  let acted := setCause .order place m
  completeSlip n .ok [byteOf acted.supply.machine.code, acted.supply.causes.byte, byteOf acted.supply.causes.reason] acted

/-- A posted order is taken at once, over the slip taken and nothing else moved. -/
theorem supplyOrder_taken {n : Fin 16} {s : State} (place : Bool) (free : Postable s n) :
    ∃ m, SlipFrame n s m ∧ postFilled n 5 (leBytes 1 (orderArg place)) s = orderDone n place m := by
  obtain ⟨running, -, -⟩ := id free
  have posted := slipPosted_frame n 5 (args := leBytes 1 (orderArg place)) running (by simp)
  have arg := slipPosted_arg n 5 (k := 1) (v := orderArg place) running (by cases place <;> decide)
  obtain ⟨kind, -⟩ := slipPosted_body (args := leBytes 1 (orderArg place)) n 5 running
  have filled := postFilled_eq (args := leBytes 1 (orderArg place)) n 5 free (by simp)
  generalize slipPosted n 5 (leBytes 1 (orderArg place)) s = p at *
  have kind_eq : slipKind p n = 5 := kind
  have accept : accepts p n = true := by simp [accepts, isCodeSlip, isLoadSlip, kind_eq]
  have take : takeSlip n p = takeSupplyOrder n p := by
    unfold takeSlip
    rw [kind_eq]
    rfl
  obtain ⟨named, places⟩ := orderArg_names place
  refine ⟨markTaken n p, posted.marked, ?_⟩
  rw [filled, if_pos accept, take, takeSupplyOrder, arg]
  dsimp only
  rw [if_pos named, places]
  rfl

theorem Causes.put_order (c : Causes) (b : Bool) : c.put .order b = { c with order := b } := rfl

/-- The order's end, over the machine that has acted (R116, R125, R134). -/
theorem orderDone_effects {n : Fin 16} {m : State} (place : Bool) (running : isRunning m = true) :
    let t := orderDone n place m
    t.supply = (setCause .order place m).supply ∧ t.supply.causes = { m.supply.causes with order := place } ∧
      SlipShows t n .ok [byteOf t.supply.machine.code, t.supply.causes.byte, byteOf t.supply.causes.reason] ∧
      (m.supply.causes.order = place → t.supply = m.supply) ∧
      (t.supply.machine ≠ m.supply.machine → t.link.latched.getLsbD 5 = true) := by
  have up : linkUp (setCause .order place m) = true := by
    rw [(setCause_touches m .order place).linkUp_eq (by decide), linkUp_of_isRunning running]
  have supply : (orderDone n place m).supply = (setCause .order place m).supply :=
    (completeSlip_touches _ n _ _).supply_eq (by decide)
  have latched : (orderDone n place m).link.latched = (setCause .order place m).link.latched :=
    (completeSlip_link n _ _ _).2
  dsimp only
  rw [supply, latched]
  refine ⟨rfl, setCause_causes .order place m, completeSlip_shows n _ _ up, fun same => ?_, setCause_raises running⟩
  rw [setCause_same (k := .order) same]

/-- An order that moves ORDER, by the state of the machine it finds (R116, R122, R134). -/
theorem setOrder_acts {m : State} {place : Bool} (running : isRunning m = true)
    (other : m.supply.causes.order ≠ place) :
    ∃ u, u.supply = { m.supply with causes := { m.supply.causes with order := place } } ∧
      setCause .order place m = actOnCauses u :=
  ⟨_, by simp [Causes.put_order], setCause_acts running other⟩

/-- OPEN with ORDER not yet placed opens a closed supply and takes a ready one back to OPEN (R116, R122). -/
theorem setOrder_opens {m : State} (running : isRunning m = true) (absent : m.supply.causes.order = false) :
    let u := (setCause .order true m).supply
    (m.supply.machine = .closed → u.machine = .opening ∧ u.attempt = some ⟨.toOpen, 1, .pulse, 0, 0, none⟩ ∧
      u.coil = some .toOpen) ∧
    (m.supply.machine = .awaitConfirm → u.machine = .opened) := by
  obtain ⟨u, supply, acts⟩ := setOrder_acts (place := true) running (by simp [absent])
  have cause : u.supply.causes.isEmpty = false := by simp [supply, Causes.isEmpty]
  rw [acts]
  refine ⟨fun closed => ?_, fun ready => ?_⟩
  · have machine : u.supply.machine = .closed := by rw [supply, closed]
    simp [actOnCauses, machine, cause]
  · have machine : u.supply.machine = .awaitConfirm := by rw [supply, ready]
    simp [actOnCauses, machine, cause]

/-- The machine comes to CLOSING by no cause (R121). -/
theorem actOnCauses_closing {s : State} (closing : (actOnCauses s).supply.machine = .closing) :
    s.supply.machine = .closing := by
  unfold actOnCauses at closing
  split at closing
  case h_4 machine _ => exact machine
  case h_7 => exact closing
  all_goals simp at closing

/-- RELEASE of the last cause makes an open supply ready for CONFIRM, and none begins a close (R121, R122). -/
theorem setOrder_releases {m : State} (running : isRunning m = true) :
    let u := (setCause .order false m).supply
    (m.supply.causes = ⟨false, true, false, false⟩ → m.supply.machine = .opened → u.machine = .awaitConfirm) ∧
    (m.supply.machine ≠ .closing → u.machine ≠ .closing) := by
  refine ⟨fun alone opened => ?_, fun other closing => ?_⟩
  · obtain ⟨u, supply, acts⟩ := setOrder_acts (place := false) running (by simp [alone])
    rw [acts, actOnCauses_opened (by rw [supply, opened]) (by simp [supply, alone, Causes.isEmpty])]
    simp
  · by_cases same : m.supply.causes.order = false
    · rw [setCause_same (k := .order) same] at closing
      exact other closing
    · obtain ⟨u, supply, acts⟩ := setOrder_acts running same
      rw [acts] at closing
      have before := actOnCauses_closing closing
      rw [supply] at before
      exact other before

/-- Settles O40: the order taken, then what placing and removing ORDER brings about. -/
theorem supplyOrdersPlaceAndRemoveOrder : Obligations.SupplyOrdersPlaceAndRemoveOrder := by
  unfold Obligations.SupplyOrdersPlaceAndRemoveOrder
  refine ⟨fun n s free => ?_, fun n s free => ?_⟩
  · obtain ⟨m, frame, taken⟩ := supplyOrder_taken true free
    have running : isRunning m = true := by rw [frame.touches.isRunning_eq (by decide), free.1]
    obtain ⟨acted, causes, shown, same, raised⟩ := orderDone_effects (n := n) true running
    rw [← frame.touches.supply_eq (by decide)]
    refine ⟨orderDone n true m, congrArg _ taken, causes, shown, same, raised, ?_⟩
    rw [acted]
    exact ⟨fun absent => (setOrder_opens running absent).1, fun absent => (setOrder_opens running absent).2⟩
  · obtain ⟨m, frame, taken⟩ := supplyOrder_taken false free
    have running : isRunning m = true := by rw [frame.touches.isRunning_eq (by decide), free.1]
    obtain ⟨acted, causes, shown, same, raised⟩ := orderDone_effects (n := n) false running
    rw [← frame.touches.supply_eq (by decide)]
    refine ⟨orderDone n false m, congrArg _ taken, causes, shown, same, raised, ?_⟩
    rw [acted]
    exact setOrder_releases running

end Sys2Proof.Machine
end

section
/-! SUPPORT. A frame taken by each block that takes it once, in any of the orders that are free, packaged once for any
property of what is still due (R6, R22, R130, R191; assumption logs 11, 56). -/

namespace Sys2Proof.Machine

/-- What a frame still has to come to of the blocks that take it once: the energy register block, the supply controller,
the low-battery judgement. -/
structure Due where
  bill : Bool
  supply : Bool
  judge : Bool

/-- Works that do what is due, each once, with any work of the tamper watch between them; with the machine CLOSED the
supply controller comes after the energy register block (R130). -/
inductive Takes (f : Frame) (m : MachineState) : Due → List (State → State) → Prop
  | done : Takes f m ⟨false, false, false⟩ []
  | tamper {d o} : Takes f m d o → Takes f m d (tamperFrame f :: o)
  | bill {p j o} : (m = .closed → p = true) → Takes f m ⟨false, p, j⟩ o → Takes f m ⟨true, p, j⟩ (energyFrame f :: o)
  | supply {b j o} : Takes f m ⟨b, false, j⟩ o → Takes f m ⟨b, true, j⟩ (supplyWork f :: o)
  | judge {b p o} : Takes f m ⟨b, p, false⟩ o → Takes f m ⟨b, p, true⟩ (batteryFrame f :: o)

variable {f : Frame} {m : MachineState}

theorem takes_of_frameOrders {o : List (State → State)} (ho : o ∈ frameOrders f m) : Takes f m ⟨true, true, false⟩ o := by
  unfold frameOrders at ho
  split at ho
  · rw [List.mem_singleton.mp ho]
    exact .tamper (.bill (fun _ => rfl) (.supply .done))
  · rename_i other
    simp only [List.mem_cons, List.not_mem_nil, or_false] at ho
    rcases ho with rfl | rfl | rfl
    · exact .tamper (.bill (fun _ => rfl) (.supply .done))
    · exact .tamper (.supply (.bill (fun closed => absurd closed other) .done))
    · exact .supply (.tamper (.bill (fun closed => absurd closed other) .done))

/-- The low-battery judgement may come at any place. -/
theorem Takes.insert_judge {d : Due} {p o : List (State → State)} (h : Takes f m d p) (judged : d.judge = false)
    (ho : o ∈ insertions (batteryFrame f) p) : Takes f m { d with judge := true } o := by
  induction h generalizing o with
  | done =>
    rw [List.mem_singleton.mp ho]
    exact .judge .done
  | tamper h ih =>
    rcases List.mem_cons.mp ho with rfl | later
    · exact .judge (judged ▸ h.tamper)
    · obtain ⟨o, mem, rfl⟩ := List.mem_map.mp later
      exact .tamper (ih judged mem)
  | bill order h ih =>
    obtain rfl : _ = false := judged
    rcases List.mem_cons.mp ho with rfl | later
    · exact .judge (.bill order h)
    · obtain ⟨o, mem, rfl⟩ := List.mem_map.mp later
      exact .bill order (ih rfl mem)
  | supply h ih =>
    obtain rfl : _ = false := judged
    rcases List.mem_cons.mp ho with rfl | later
    · exact .judge (.supply h)
    · obtain ⟨o, mem, rfl⟩ := List.mem_map.mp later
      exact .supply (ih rfl mem)
  | judge => cases judged

theorem takes_of_takingOrders {s : State} {o : List (State → State)} (ho : o ∈ takingOrders f s) :
    Takes f s.supply.machine ⟨true, true, true⟩ o := by
  unfold takingOrders at ho
  dsimp only at ho
  split at ho
  · obtain ⟨p, hp, hins⟩ := List.mem_flatMap.mp ho
    exact (takes_of_frameOrders hp).insert_judge rfl hins
  · obtain ⟨p, hp, rfl⟩ := List.mem_map.mp ho
    exact (takes_of_frameOrders hp).insert_judge rfl (mem_insertions_iff.mpr ⟨p, [], by simp, rfl⟩)

/-- A property of what is due and of the state, kept by each work as it does its part. -/
structure KeptByTaking (f : Frame) (m : MachineState) (P : Due → State → Prop) : Prop where
  count : ∀ d t n, P d t → P d (t.withFreeCount n)
  tamper : ∀ {d t}, P d t → P d (tamperFrame f t)
  bill : ∀ {p j t}, (m = .closed → p = true) → P ⟨true, p, j⟩ t → P ⟨false, p, j⟩ (energyFrame f t)
  supply : ∀ {b j t}, P ⟨b, true, j⟩ t → P ⟨b, false, j⟩ (supplyWork f t)
  judge : ∀ {b p t}, P ⟨b, p, true⟩ t → P ⟨b, p, false⟩ (batteryFrame f t)

theorem runAll_cons (w : State → State) (o : List (State → State)) (s : State) : runAll (w :: o) s = runAll o (w s) := rfl

theorem KeptByTaking.run {P : Due → State → Prop} (h : KeptByTaking f m P) {d : Due} {o : List (State → State)}
    (takes : Takes f m d o) {t : State} (base : P d t) : P ⟨false, false, false⟩ (runAll o t) := by
  induction takes generalizing t with
  | done => exact base
  | tamper _ ih => rw [runAll_cons]; exact ih (h.tamper base)
  | bill order _ ih => rw [runAll_cons]; exact ih (h.bill order base)
  | supply _ ih => rw [runAll_cons]; exact ih (h.supply base)
  | judge _ ih => rw [runAll_cons]; exact ih (h.judge base)

/-- A closed frame is taken by all blocks, and then by the profile period and the status page. -/
theorem KeptByTaking.closeFrame {means : Means} {s : State} {P : Due → State → Prop}
    (h : KeptByTaking (closedFrame means s) s.supply.machine P) (base : P ⟨true, true, true⟩ (frameOffered means s)) :
    ∃ u, P ⟨false, false, false⟩ u ∧
      closeFrame means s = pageFrame (profileFrame (closedFrame means s).v u) := by
  refine ⟨freePick ((takingOrders (closedFrame means s) (frameOffered means s)).map fun o =>
    runAll o (frameOffered means s)) (frameOffered means s), ?_, rfl⟩
  refine freePick_of_ne (h.count _) (by simpa using takingOrders_ne_nil _ _) fun r hr => ?_
  obtain ⟨o, ho, rfl⟩ := List.mem_map.mp hr
  exact h.run (takes_of_takingOrders ho) base

end Sys2Proof.Machine
end

section
/-! SUPPORT. How a frame's works move the cause set (R73, R116, R156): the tamper watch places TAMPER, one watt-hour moves
CREDIT, the supply controller places OVERLOAD, and a work that moves none leaves the supply controller's record. -/

namespace Sys2Proof.Machine

/-- A work that can place or remove one cause, and else leaves the supply controller's record. -/
def MovesCause (k : Cause) (b : Bool) (s t : State) : Prop :=
  t.supply = s.supply ∨ s.supply.causes.has k ≠ b ∧ t.supply.causes = s.supply.causes.put k b

theorem MovesCause.refl (k : Cause) (b : Bool) (s : State) : MovesCause k b s s := .inl rfl

theorem Causes.has_put_same (c : Causes) (k : Cause) (b : Bool) : (c.put k b).has k = b := by
  cases k <;> rfl

theorem MovesCause.trans {k : Cause} {b : Bool} {s t u : State} (h : MovesCause k b s t) (g : MovesCause k b t u) :
    MovesCause k b s u := by
  rcases g with same | ⟨other, put⟩
  · rw [MovesCause, same]
    exact h
  · rcases h with same | ⟨-, before⟩
    · rw [same] at other put
      exact .inr ⟨other, put⟩
    · rw [before, Causes.has_put_same] at other
      exact absurd rfl other

theorem OnlyTouches.movesCause {bs : List Block} {s t : State} (h : OnlyTouches bs s t) (m : Block.supply ∉ bs)
    (k : Cause) (b : Bool) : MovesCause k b s t := .inl (h.supply_eq m)

theorem setCause_movesCause (k : Cause) (b : Bool) (s : State) : MovesCause k b s (setCause k b s) := by
  by_cases same : s.supply.causes.has k = b
  · rw [setCause_same same]
    exact .refl k b s
  · exact .inr ⟨same, setCause_causes k b s⟩

/-- Only a disconnecting kind that leaves CLEAR places TAMPER (R156). -/
theorem kindOn_movesCause (k : TamperKind) (more : List Byte) (s : State) :
    MovesCause .tamper true s (kindOn k more s) := by
  have record : ∀ u, OnlyTouches [.store, .tamper, .link, .strip, .profile] s u → MovesCause .tamper true s u :=
    fun _ h => h.movesCause (by decide) _ _
  unfold kindOn
  dsimp only
  split
  · exact (record _ (by simp)).trans (setCause_movesCause _ _ _)
  · exact record _ (by simp)

theorem judgeKind_movesCause (f : Frame) (k : FrameKind) (s : State) :
    MovesCause .tamper true s (judgeKind f k s) := by
  have window : ∀ x, MovesCause .tamper true s (s.withTamper x) := fun x =>
    (withTamper_touches s x).movesCause (by decide) _ _
  unfold judgeKind
  dsimp only
  split
  · exact (window _).trans (kindOn_movesCause _ _ _)
  · split
    · exact (window _).trans ((kindOff_touches _ _).movesCause (by decide) _ _)
    · exact window _

theorem tamperFrame_movesCause (f : Frame) (s : State) : MovesCause .tamper true s (tamperFrame f s) := by
  have judged : MovesCause .tamper true s (FrameKind.all.foldl (fun s k => judgeKind f k s) s) :=
    List.foldlRecOn _ _ (.refl _ _ s) fun u h k _ => h.trans (judgeKind_movesCause f k u)
  exact judged.trans ((pageWindows_touches _).movesCause (by decide) _ _)

/-- An evaluation places CREDIT or removes it, or moves nothing (R73). -/
theorem evaluateCredit_movesCause (x : CreditTrigger) (s : State) :
    ∃ b, MovesCause .credit b s (evaluateCredit x s) := by
  have paged : OnlyTouches [.store, .credit] s (pageCredit (s.withCredit (s.credit.evaluated s.settings s.clock))) := by
    simp
  have announced : OnlyTouches [.store, .credit, .link, .strip] s (raise .credit (creditStateNotice s.credit.state x
      (pageCredit (s.withCredit (s.credit.evaluated s.settings s.clock))))) := by simp
  have still := fun b => announced.movesCause (by decide) .credit b
  unfold evaluateCredit
  dsimp only
  split
  · exact ⟨true, paged.movesCause (by decide) _ _⟩
  · split
    · exact ⟨true, (still _).trans (setCause_movesCause _ _ _)⟩
    · split
      · exact ⟨false, (still _).trans (setCause_movesCause _ _ _)⟩
      · exact ⟨true, still _⟩

/-- A watt-hour is evaluated once (R64, R73). -/
theorem carry_movesCause (s : State) : ∃ b, MovesCause .credit b s (carry s) := by
  let counted := countWattHour (s.withEnergy { s.energy with billed :=
    { s.energy.billed with wh := (s.energy.billed.wh + 1) % 1000000000 } })
  let paid := pageCredit (counted.withCredit (counted.credit.energyDebit (unitRate s.tariff s.clock)))
  have before : OnlyTouches [.store, .energy, .tariff, .credit] s paid := by simp [paid, counted]
  have later : ∀ u, OnlyTouches [.store, .energy, .profile] u (owePulse (profileWattHour u)) := by simp
  obtain ⟨b, evaluated⟩ := evaluateCredit_movesCause .energy paid
  exact ⟨b, ((before.movesCause (by decide) _ _).trans evaluated).trans ((later _).movesCause (by decide) _ _)⟩

theorem carries_tamperCause (n : Nat) (s : State) : (carries n s).supply.causes.tamper = s.supply.causes.tamper := by
  induction n generalizing s with
  | zero => rfl
  | succ n ih =>
    rw [carries, ih]
    obtain ⟨b, same | ⟨-, put⟩⟩ := carry_movesCause s
    · rw [same]
    · rw [put]
      rfl

/-- The watt-hours of a frame leave TAMPER (R73). -/
theorem energyFrame_tamperCause (f : Frame) (s : State) :
    (energyFrame f s).supply.causes.tamper = s.supply.causes.tamper := by
  rw [(energyFrame_carries f s).supply_eq (by decide), carries_tamperCause]
  rfl

/-- A frame of at most one watt-hour moves CREDIT at most once (R29, R64). -/
theorem energyFrame_movesCause {f : Frame} {s : State} (few : frameCarries f s ≤ 1) :
    ∃ b, MovesCause .credit b s (energyFrame f s) := by
  have page := energyFrame_carries f s
  have billed := withEnergy_touches s (s.energy.billedBy s.settings f (basePower s f))
  generalize s.withEnergy (s.energy.billedBy s.settings f (basePower s f)) = u at page billed
  have carried : ∃ b, MovesCause .credit b u (carries (frameCarries f s) u) := by
    rcases Nat.le_one_iff_eq_zero_or_eq_one.mp few with none | one
    · rw [none]
      exact ⟨true, .refl _ _ u⟩
    · rw [one]
      exact carry_movesCause u
  obtain ⟨b, moves⟩ := carried
  exact ⟨b, ((billed.movesCause (by decide) _ _).trans moves).trans (page.movesCause (by decide) _ _)⟩

/-- An attempt notes a LOAD_V beside its phase (R125). -/
theorem noteLoadV_leaves (f : Frame) (s : State) :
    (noteLoadV f s).supply.machine = s.supply.machine ∧ (noteLoadV f s).supply.causes = s.supply.causes ∧
      inVerify (noteLoadV f s).supply = inVerify s.supply := by
  unfold noteLoadV
  split
  · cases attempt : s.supply.attempt <;> simp [inVerify, attempt]
  · exact ⟨rfl, rfl, rfl⟩

theorem overloadTrip_causes (power : Nat) (s : State) :
    (overloadTrip power s).supply.causes = s.supply.causes.put .overload true := by
  unfold overloadTrip
  dsimp only
  rw [(notice_touches _ _ _ _).supply_eq (by decide), setCause_causes]
  simp

/-- The supply controller's frame moves neither CREDIT nor TAMPER. -/
theorem supplyFrame_causes (f : Frame) (power : Nat) (s : State) :
    (supplyFrame f power s).supply.causes.credit = s.supply.causes.credit ∧
      (supplyFrame f power s).supply.causes.tamper = s.supply.causes.tamper := by
  obtain ⟨-, noted, -⟩ := noteLoadV_leaves f s
  unfold supplyFrame
  dsimp only
  split
  · unfold overloadFrame
    dsimp only
    split_ifs
    · rw [overloadTrip_causes]
      exact ⟨rfl, rfl⟩
    all_goals simp
  · split_ifs <;> simp [noted]
  · split <;> simp [noted]
  · split <;> simp
  all_goals exact ⟨rfl, rfl⟩

end Sys2Proof.Machine
end

section
/-! SUPPORT. The record in which the supply controller takes a frame that moves neither CREDIT nor TAMPER (R117, R118,
R123, R130, R131), and what the other blocks leave of it. -/

namespace Sys2Proof.Machine

/-- The registers through a frame's carries: the power stands (R25, R28). -/
theorem carries_power (n : Nat) (s : State) : (carries n s).energy.power = s.energy.power := by
  induction n generalizing s with
  | zero => rfl
  | succ n ih =>
    rw [carries, ih, carry_energy]
    dsimp only
    split <;> rfl

/-- A whole second's frame carries what its billed power and the remainder hold (R27 to R29). -/
theorem frameCarries_second {f : Frame} {u : State} (second : f.duration = 1000) :
    frameCarries f u = (u.energy.billed.rem + (energyFrame f u).energy.power) / 3600000 := by
  have power : (energyFrame f u).energy.power = min (basePower u f).power powerClamp := by
    rw [(energyFrame_carries f u).energy_eq (by decide), carries_power]
    rfl
  rw [power, frameCarries, second, frameEnergy_second]
  rfl

/-- What the supply controller's work goes by, beside its record. -/
structure WorksAlike (s t : State) : Prop where
  settings : t.settings = s.settings
  clock : t.clock = s.clock
  running : isRunning t = isRunning s

theorem WorksAlike.trans {s t u : State} (h : WorksAlike s t) (g : WorksAlike t u) : WorksAlike s u :=
  ⟨g.settings.trans h.settings, g.clock.trans h.clock, g.running.trans h.running⟩

theorem OnlyTouches.worksAlike {bs : List Block} {s t : State} (h : OnlyTouches bs s t)
    (m : ∀ b ∈ [Block.settings, .clock, .power], b ∉ bs) : WorksAlike s t :=
  ⟨h .settings (m _ (by decide)), h.clock_eq (m _ (by decide)), h.isRunning_eq (m _ (by decide))⟩

theorem batteryFrame_worksAlike (f : Frame) (s : State) : WorksAlike s (batteryFrame f s) := by
  have only := batteryFrame_touches s f
  obtain ⟨-, state, stage⟩ := batteryFrame_frameStands f s
  exact ⟨only .settings (by decide), only.clock_eq (by decide), by rw [isRunning, state, stage]; rfl⟩

/-- By `t` the frame has moved neither CREDIT nor TAMPER, and, once billed, holds at most one watt-hour. -/
structure Quiet (s : State) (bill : Bool) (t : State) : Prop where
  credit : t.supply.causes.credit = s.supply.causes.credit
  tamper : t.supply.causes.tamper = s.supply.causes.tamper
  few : bill = false → s.energy.billed.rem + t.energy.power < 7200000

/-- The supply controller has taken the frame over the record of `s`, and, in CLOSED, by the power billed in `t`. -/
def Supplied (f : Frame) (s t : State) : Prop :=
  ∃ u, u.supply = s.supply ∧ WorksAlike s u ∧ t.supply = (supplyWork f u).supply ∧
    (s.supply.machine = .closed → u.energy.power = t.energy.power)

/-- From `s` to `t` the frame is on its way: as long as it is quiet, the record stands until the supply controller takes
it, and from then on. -/
structure SupplyTo (f : Frame) (s : State) (bill supply : Bool) (t : State) : Prop where
  alike : WorksAlike s t
  energy : bill = true → t.energy = s.energy
  credit : bill = true → t.supply.causes.credit = s.supply.causes.credit
  tamper : s.supply.causes.tamper = true → t.supply.causes.tamper = true
  waits : supply = true → Quiet s bill t → t.supply = s.supply
  taken : supply = false → Quiet s bill t → Supplied f s t

variable {f : Frame} {s t u : State} {b p : Bool}

theorem Supplied.later (h : Supplied f s t) (supply : u.supply = t.supply)
    (energy : s.supply.machine = .closed → u.energy.power = t.energy.power) : Supplied f s u := by
  obtain ⟨v, record, alike, taken, power⟩ := h
  exact ⟨v, record, alike, supply.trans taken, fun closed => (power closed).trans (energy closed).symm⟩

/-- A work that leaves the registers, and the record as long as the frame is quiet. -/
theorem SupplyTo.later (h : SupplyTo f s b p t) (alike : WorksAlike t u) (energy : u.energy = t.energy)
    (credit : u.supply.causes.credit = t.supply.causes.credit)
    (tamper : t.supply.causes.tamper = true → u.supply.causes.tamper = true)
    (still : Quiet s b u → u.supply = t.supply) : SupplyTo f s b p u := by
  have before : Quiet s b u → Quiet s b t := fun quiet =>
    ⟨by rw [← still quiet]; exact quiet.credit, by rw [← still quiet]; exact quiet.tamper,
      fun billed => energy ▸ quiet.few billed⟩
  exact ⟨h.alike.trans alike, fun due => energy.trans (h.energy due), fun due => credit.trans (h.credit due),
    fun was => tamper (h.tamper was), fun due quiet => (still quiet).trans (h.waits due (before quiet)),
    fun done quiet => (h.taken done (before quiet)).later (still quiet) fun _ => by rw [energy]⟩

/-- TAMPER, once placed, is not taken out again by a frame, so a placing shows at its end. -/
theorem SupplyTo.tamperFrame (h : SupplyTo f s b p t) : SupplyTo f s b p (tamperFrame f t) := by
  have only := tamperFrame_touches t f
  have alike := only.worksAlike (by decide)
  have energy := only.energy_eq (by decide)
  rcases tamperFrame_movesCause f t with same | ⟨absent, put⟩
  · exact h.later alike energy (by rw [same]) (by rw [same]; exact id) fun _ => same
  · have placed : (Machine.tamperFrame f t).supply.causes.tamper = true := by rw [put]; rfl
    refine h.later alike energy (by rw [put]; rfl) (fun _ => placed) fun quiet => ?_
    exact absurd (h.tamper (quiet.tamper.symm.trans placed)) absent

/-- At most one watt-hour moves CREDIT at most once, and so shows it at the frame's end. -/
theorem SupplyTo.energyFrame (second : f.duration = 1000) (order : s.supply.machine = .closed → p = true)
    (h : SupplyTo f s true p t) : SupplyTo f s false p (energyFrame f t) := by
  have only := energyFrame_touches t f
  have tamper := energyFrame_tamperCause f t
  have still : Quiet s false (Machine.energyFrame f t) → (Machine.energyFrame f t).supply = t.supply := by
    intro quiet
    have few := quiet.few rfl
    have carried := frameCarries_second (u := t) second
    rw [h.energy rfl] at carried
    obtain ⟨b, same | ⟨other, put⟩⟩ := energyFrame_movesCause (f := f) (s := t) (by omega)
    · exact same
    · have moved : (Machine.energyFrame f t).supply.causes.credit = b := by rw [put]; rfl
      exact absurd ((h.credit rfl).trans (quiet.credit.symm.trans moved)) other
  have before : Quiet s false (Machine.energyFrame f t) → Quiet s true t := fun quiet =>
    ⟨by rw [← still quiet]; exact quiet.credit, by rw [← still quiet]; exact quiet.tamper, nofun⟩
  exact ⟨h.alike.trans (only.worksAlike (by decide)), nofun, nofun, fun was => tamper.trans (h.tamper was),
    fun due quiet => (still quiet).trans (h.waits due (before quiet)),
    fun done quiet => (h.taken done (before quiet)).later (still quiet) fun closed => nomatch done ▸ order closed⟩

theorem SupplyTo.supplyWork (h : SupplyTo f s b true t) : SupplyTo f s b false (supplyWork f t) := by
  have only : OnlyTouches _ t (Machine.supplyWork f t) := supplyFrame_touches t f _
  have energy : (Machine.supplyWork f t).energy = t.energy := only.energy_eq (by decide)
  obtain ⟨credit, tamper⟩ : (Machine.supplyWork f t).supply.causes.credit = _ ∧
    (Machine.supplyWork f t).supply.causes.tamper = _ := supplyFrame_causes f t.energy.power t
  refine ⟨h.alike.trans (only.worksAlike (by decide)), fun due => energy.trans (h.energy due),
    fun due => credit.trans (h.credit due), fun was => tamper.trans (h.tamper was), nofun, fun _ quiet => ?_⟩
  have record := h.waits rfl ⟨credit ▸ quiet.credit, tamper ▸ quiet.tamper, energy ▸ quiet.few⟩
  exact ⟨t, record, h.alike, rfl, fun _ => by rw [energy]⟩

theorem SupplyTo.beside (h : SupplyTo f s b p t) (alike : WorksAlike t u) (energy : u.energy = t.energy)
    (supply : u.supply = t.supply) : SupplyTo f s b p u :=
  h.later alike energy (by rw [supply]) (by rw [supply]; exact id) fun _ => supply

theorem supplyTo_kept (second : f.duration = 1000) (s : State) :
    KeptByTaking f s.supply.machine fun d => SupplyTo f s d.bill d.supply where
  count _ t n h := h.beside ((withFreeCount_touches t n).worksAlike (by decide)) rfl rfl
  tamper h := h.tamperFrame
  bill order h := h.energyFrame second order
  supply h := h.supplyWork
  judge h := h.beside (batteryFrame_worksAlike f _) ((batteryFrame_touches _ f).energy_eq (by decide))
    ((batteryFrame_touches _ f).supply_eq (by decide))

/-- A frame that is quiet at its close has been taken by the supply controller over the record it found. -/
theorem closeFrame_supplied {m : Means} {s : State}
    (few : s.energy.billed.rem + (closeFrame m s).energy.power < 7200000)
    (credit : (closeFrame m s).supply.causes.credit = s.supply.causes.credit)
    (tamper : (closeFrame m s).supply.causes.tamper = s.supply.causes.tamper) :
    Supplied (closedFrame m s) s (closeFrame m s) := by
  have begun : SupplyTo (closedFrame m s) s true true (frameOffered m s) :=
    ⟨⟨rfl, rfl, rfl⟩, fun _ => rfl, fun _ => rfl, id, fun _ _ => rfl, nofun⟩
  obtain ⟨u, taken, whole⟩ := (supplyTo_kept (f := closedFrame m s) rfl s).closeFrame begun
  have only : OnlyTouches [.store, .profile] u (closeFrame m s) := by rw [whole]; simp
  have supply := only.supply_eq (by decide)
  have energy := only.energy_eq (by decide)
  rw [energy] at few
  rw [supply] at credit tamper
  exact (taken.taken rfl ⟨credit, tamper, fun _ => few⟩).later supply fun _ => by rw [energy]

end Sys2Proof.Machine
end

section
/-! SUPPORT. The low-battery judgement (R194) and the profile period (R197) while the blocks take a frame. -/

namespace Sys2Proof.Machine

/-! ### The spent mark (R194) -/

/-- The power logic after the judgement of a fresh BATTERY. -/
def Power.judged (p : Power) (v : Nat) : Power :=
  if p.spent = false ∧ v < 2600 then { p with spent := true }
  else if p.spent = true ∧ 2800 < v then { p with spent := false }
  else p

/-- The power logic after the judgement of a frame: by its BATTERY where that is fresh. -/
def Power.taken (p : Power) (f : Frame) : Power :=
  match freshBattery f with
  | some v => p.judged v
  | none => p

theorem batteryFrame_power (f : Frame) (s : State) : (batteryFrame f s).power = s.power.taken f := by
  have noted : ∀ k h d u, (notice k h d u).power = u.power := fun k h d u =>
    (notice_touches u k h d).power_eq (by decide)
  cases fresh : freshBattery f with
  | none => simp [batteryFrame, Power.taken, fresh]
  | some v =>
    cases spent : s.power.spent <;>
      simp [batteryFrame, Power.taken, fresh, Power.judged, spent, apply_ite State.power, noted, overPower]

theorem freshBattery_fresh {f : Frame} {v : Nat} (fresh : f.battery.fresh = true) (value : f.battery.value = some v) :
    freshBattery f = some v := by simp [freshBattery, fresh, value]

theorem freshBattery_stale {f : Frame} (stale : f.battery.fresh = false) : freshBattery f = none := by
  simp [freshBattery, stale]

theorem powerTaken_kept (f : Frame) (m : MachineState) (p : Power) :
    KeptByTaking f m fun d t => t.power = if d.judge then p else p.taken f where
  count _ _ _ h := h
  tamper {_ t} h := ((tamperFrame_touches t f).power_eq (by decide)).trans h
  bill {_ _ t} _ h := ((energyFrame_touches t f).power_eq (by decide)).trans h
  supply {_ _ t} h := ((supplyFrame_touches t f _).power_eq (by decide)).trans h
  judge {b q t} h := by
    have before : t.power = p := h
    exact (batteryFrame_power f t).trans (congrArg (Power.taken · f) before)

/-- A frame close judges the battery once (R194). -/
theorem closeFrame_power (m : Means) (s : State) : (closeFrame m s).power = s.power.taken (closedFrame m s) := by
  obtain ⟨u, taken, whole⟩ := (powerTaken_kept (closedFrame m s) s.supply.machine s.power).closeFrame (s := s) rfl
  have only : OnlyTouches [.store, .profile] u (closeFrame m s) := by rw [whole]; simp
  exact (only.power_eq (by decide)).trans taken

/-! ### The period in progress (R197) -/

/-- From `s` to `t` a period in range has counted `n` watt-hours more; its marks of tamper and supply may be set too. -/
def PeriodGains (n : Nat) (s t : State) : Prop :=
  ∀ p, s.profile.period = some p → p.wh ≤ 65535 → ∃ x o,
    t.profile.period = some { p with wh := min (p.wh + n) 65535, tamper := x, supplyOpen := o }

theorem PeriodGains.trans {a b : Nat} {s t u : State} (h : PeriodGains a s t) (g : PeriodGains b t u) :
    PeriodGains (a + b) s u := by
  intro p period range
  obtain ⟨x, o, first⟩ := h p period range
  obtain ⟨y, q, second⟩ := g _ first (Nat.min_le_right _ _)
  have sum : min (min (p.wh + a) 65535 + b) 65535 = min (p.wh + (a + b)) 65535 := by omega
  exact ⟨y, q, by rw [second, ← sum]⟩

theorem PeriodGains.andThen {a : Nat} {s t u : State} (h : PeriodGains a s t) (g : PeriodGains 0 t u) :
    PeriodGains a s u := h.trans g

theorem WorkFrame.periodGains {s t : State} (h : WorkFrame s t) : PeriodGains 0 s t := by
  obtain ⟨b, opened⟩ := h.period
  intro p period range
  refine ⟨p.tamper, p.supplyOpen || b, ?_⟩
  rw [opened, period, Nat.add_zero, Nat.min_eq_left range]
  rfl

theorem OnlyTouches.periodGains {bs : List Block} {s t : State} (h : OnlyTouches bs s t) (m : Block.profile ∉ bs) :
    PeriodGains 0 s t := by
  have profile : t.profile = s.profile := h .profile m
  intro p period range
  exact ⟨p.tamper, p.supplyOpen, by rw [profile, period, Nat.add_zero, Nat.min_eq_left range]⟩

theorem profileTamper_periodGains (s : State) : PeriodGains 0 s (profileTamper s) := by
  intro p period range
  refine ⟨true, p.supplyOpen, ?_⟩
  rw [Nat.add_zero, Nat.min_eq_left range]
  simp [profileTamper, overPeriod, period]

theorem profileWattHour_periodGains (s : State) : PeriodGains 1 s (profileWattHour s) := fun p period _ =>
  ⟨p.tamper, p.supplyOpen, by simp [profileWattHour, overPeriod, period]⟩

theorem setCause_periodGains (k : Cause) (b : Bool) (s : State) : PeriodGains 0 s (setCause k b s) :=
  (workFrame_holds.setCause k b s).periodGains

theorem kindOn_periodGains (k : TamperKind) (more : List Byte) (s : State) : PeriodGains 0 s (kindOn k more s) := by
  have raised : ∀ u, OnlyTouches [.store, .tamper, .link, .strip] s u → PeriodGains 0 s (profileTamper u) := fun u only =>
    (only.periodGains (by decide)).andThen (profileTamper_periodGains u)
  unfold kindOn
  dsimp only
  split
  · exact (raised _ (by simp)).andThen (setCause_periodGains _ _ _)
  · exact raised _ (by simp)

theorem judgeKind_periodGains (f : Frame) (k : FrameKind) (s : State) : PeriodGains 0 s (judgeKind f k s) := by
  have window : ∀ x, PeriodGains 0 s (s.withTamper x) := fun x => (withTamper_touches s x).periodGains (by decide)
  unfold judgeKind
  dsimp only
  split
  · exact (window _).andThen (kindOn_periodGains _ _ _)
  · split
    · exact (window _).andThen ((kindOff_touches _ _).periodGains (by decide))
    · exact window _

theorem tamperFrame_periodGains (f : Frame) (s : State) : PeriodGains 0 s (tamperFrame f s) := by
  have judged : PeriodGains 0 s (FrameKind.all.foldl (fun s k => judgeKind f k s) s) :=
    List.foldlRecOn _ _ ((OnlyTouches.refl [] s).periodGains (by decide)) fun u h k _ =>
      h.andThen (judgeKind_periodGains f k u)
  exact judged.andThen ((pageWindows_touches _).periodGains (by decide))

namespace HoldsOfWorks

variable {R : State → State → Prop}

theorem overloadFrame (h : HoldsOfWorks R) (f : Frame) (power : Nat) (s : State) : R s (overloadFrame f power s) := by
  have trip : R s (overloadTrip power s) :=
    h.trans (h.overSupply _ s) (h.trans (h.setCause _ _ _) (h.notice _ _ _ _))
  unfold Machine.overloadFrame
  exact iteInduction (fun _ => iteInduction (fun _ => iteInduction (fun _ => trip) fun _ => h.overSupply _ s) fun _ =>
    h.overSupply _ s) fun _ => h.refl s

/-- The supply controller's frame (R117, R118, R123, R130). -/
theorem supplyFrame (h : HoldsOfWorks R) (f : Frame) (power : Nat) (s : State) : R s (supplyFrame f power s) := by
  have noted : R s (noteLoadV f s) := h.own ((noteLoadV_touches s f).mono (by decide))
  have change : ∀ m x u, R s u → R s (Machine.changeMachine m x false u) := fun m x u before =>
    h.trans before (h.changeMachine m x false u)
  unfold Machine.supplyFrame
  split
  · exact h.overloadFrame f power s
  · dsimp only
    split
    · split
      · exact change _ _ _ (change _ _ _ noted)
      · exact change _ _ _ noted
    · exact noted
  · dsimp only
    split
    · exact change _ _ _ noted
    · exact noted
  · split
    · exact h.changeMachine _ _ _ s
    · exact h.refl s
  all_goals exact h.refl s

end HoldsOfWorks

/-- A watt-hour handed off is counted in the period (R30, R197). -/
theorem carry_periodGains (s : State) : PeriodGains 1 s (carry s) := by
  let counted := countWattHour (s.withEnergy { s.energy with billed :=
    { s.energy.billed with wh := (s.energy.billed.wh + 1) % 1000000000 } })
  let debited := energyDebit (unitRate s.tariff s.clock) counted
  have before : PeriodGains 0 s counted :=
    OnlyTouches.periodGains (bs := [.energy, .tariff]) (by simp [counted]) (by decide)
  have debit : WorkFrame counted debited := workFrame_holds.trans (workFrame_holds.withCredit _ _)
    (workFrame_holds.evaluateCredit _ _)
  have hand : PeriodGains 1 s (profileWattHour debited) :=
    (Nat.zero_add 1 ▸ (before.andThen debit.periodGains).trans (profileWattHour_periodGains debited))
  exact hand.andThen ((owePulse_touches _).periodGains (by decide))

theorem carries_periodGains (n : Nat) (s : State) : PeriodGains n s (carries n s) := by
  induction n generalizing s with
  | zero => exact (OnlyTouches.refl [] s).periodGains (by decide)
  | succ n ih =>
    have counted := (carry_periodGains s).trans (ih (carry s))
    rwa [Nat.add_comm] at counted

theorem energyFrame_periodGains (f : Frame) (s : State) : PeriodGains (frameCarries f s) s (energyFrame f s) := by
  have billed : PeriodGains 0 s (s.withEnergy (s.energy.billedBy s.settings f (basePower s f))) :=
    (withEnergy_touches s _).periodGains (by decide)
  have carried := (billed.trans (carries_periodGains (frameCarries f s) _)).andThen
    ((energyFrame_carries f s).periodGains (by decide))
  rwa [Nat.zero_add] at carried

/-- Before the frame is billed the period and the registers wait; from then on the period has its watt-hours. -/
structure PeriodTo (s : State) (bill : Bool) (t : State) : Prop where
  energy : bill = true → t.energy = s.energy
  gains : PeriodGains (if bill then 0 else (s.energy.billed.rem + t.energy.power) / 3600000) s t

theorem PeriodTo.later {s t u : State} {b : Bool} (h : PeriodTo s b t) (energy : u.energy = t.energy)
    (gains : PeriodGains 0 t u) : PeriodTo s b u :=
  ⟨fun due => energy.trans (h.energy due), by rw [energy]; exact h.gains.andThen gains⟩

theorem periodTo_kept {f : Frame} (second : f.duration = 1000) (m : MachineState) (s : State) :
    KeptByTaking f m fun d => PeriodTo s d.bill where
  count _ t n h := h.later rfl ((withFreeCount_touches t n).periodGains (by decide))
  tamper {_ t} h := h.later ((tamperFrame_touches t f).energy_eq (by decide)) (tamperFrame_periodGains f t)
  bill {_ _ t} _ h := by
    have waits : PeriodGains 0 s t := h.gains
    have carried := waits.trans (energyFrame_periodGains f t)
    rw [Nat.zero_add, frameCarries_second second, h.energy rfl] at carried
    exact ⟨nofun, carried⟩
  supply {_ _ t} h := h.later ((supplyFrame_touches t f _).energy_eq (by decide))
    (workFrame_holds.supplyFrame f t.energy.power t).periodGains
  judge {_ _ t} h := h.later ((batteryFrame_touches t f).energy_eq (by decide))
    ((batteryFrame_touches t f).periodGains (by decide))

/-- A frame close counts its watt-hours in the period, and then takes its V into the period's extremes (R197). -/
theorem closeFrame_period {m : Means} {s : State} {p : Period} (period : s.profile.period = some p)
    (range : p.wh ≤ 65535) : ∃ x o, (closeFrame m s).profile.period = some { p with
      wh := min (p.wh + (s.energy.billed.rem + (closeFrame m s).energy.power) / 3600000) 65535
      minV := some (match p.minV with | some x => min x (closedFrame m s).v | none => (closedFrame m s).v)
      maxV := some (match p.maxV with | some x => max x (closedFrame m s).v | none => (closedFrame m s).v)
      tamper := x, supplyOpen := o } := by
  have begun : PeriodTo (frameOffered m s) true (frameOffered m s) :=
    ⟨fun _ => rfl, (OnlyTouches.refl [] _).periodGains (by decide)⟩
  obtain ⟨u, taken, whole⟩ :=
    (periodTo_kept (f := closedFrame m s) rfl s.supply.machine (frameOffered m s)).closeFrame (s := s) begun
  have only : OnlyTouches [.store, .profile] u (closeFrame m s) := by rw [whole]; simp
  have paged : (closeFrame m s).profile = (profileFrame (closedFrame m s).v u).profile := by
    rw [whole]
    exact pageFrame_touches _ .profile (by decide)
  obtain ⟨x, o, counted⟩ := taken.gains p period range
  refine ⟨x, o, ?_⟩
  rw [paged, only.energy_eq (by decide)]
  exact congrArg (Option.map _) counted

end Sys2Proof.Machine
end

section
/-! PROOF. The normal frame in the supply controller, by the state of the machine, in the low-battery judgement with its
notice, and in the profile period (R117, R118, R123, R130, R131, R194, R197). -/

namespace Sys2Proof.Machine

variable {f : Frame} {power : Nat} {u : State}

theorem deadLoad_iff (f : Frame) :
    deadLoad f = true ↔ f.loadV.fresh = true ∧ ∃ v, f.loadV.value = some v ∧ v < 200 := by
  cases value : f.loadV.value <;> simp [deadLoad, value]

theorem liveLoad_iff (f : Frame) :
    liveLoad f = true ↔ f.loadV.fresh = true ∧ ∃ v, f.loadV.value = some v ∧ 200 ≤ v ∧ f.v * 4 ≤ v * 5 := by
  cases value : f.loadV.value <;> simp [liveLoad, value]

/-! ### The machine's states (R117, R118, R123) -/

/-- OPENING is verified by a dead load, and otherwise goes on (R117). -/
theorem supplyFrame_opening (opening : u.supply.machine = .opening) :
    (supplyFrame f power u).supply =
      if inVerify u.supply = true ∧ deadLoad f = true then
        { (noteLoadV f u).supply with
          machine := if u.supply.causes.isEmpty then .awaitConfirm else .opened, attempt := none, retry := 0 }
      else (noteLoadV f u).supply := by
  obtain ⟨machine, causes, verify⟩ := noteLoadV_leaves f u
  unfold supplyFrame
  rw [opening]
  dsimp only
  rw [verify]
  by_cases verified : inVerify u.supply = true ∧ deadLoad f = true
  · rw [if_pos (by simpa using verified), if_pos verified]
    cases empty : u.supply.causes.isEmpty <;> simp [causes, machine, opening, empty]
  · rw [if_neg (by simpa using verified), if_neg verified]

/-- CLOSING is verified by a live load, and otherwise goes on (R118). -/
theorem supplyFrame_closing (closing : u.supply.machine = .closing) :
    (supplyFrame f power u).supply =
      if inVerify u.supply = true ∧ liveLoad f = true then
        { (noteLoadV f u).supply with machine := .closed, attempt := none, retry := 0 }
      else (noteLoadV f u).supply := by
  obtain ⟨machine, -, verify⟩ := noteLoadV_leaves f u
  unfold supplyFrame
  rw [closing]
  dsimp only
  rw [verify]
  by_cases verified : inVerify u.supply = true ∧ liveLoad f = true
  · rw [if_pos (by simpa using verified), if_pos verified]
    simp [machine, closing]
  · rw [if_neg (by simpa using verified), if_neg verified]

/-- STUCK_CLOSED ends in a dead load (R123). -/
theorem supplyFrame_stuckClosed (stuck : u.supply.machine = .stuckClosed) :
    supplyFrame f power u = if deadLoad f = true then changeMachine .opened .loadDead false u else u := by
  simp [supplyFrame, stuck]

/-- An open supply takes no frame. -/
theorem supplyFrame_open (opened : u.supply.machine = .opened ∨ u.supply.machine = .awaitConfirm ∨
    u.supply.machine = .stuckOpen) : supplyFrame f power u = u := by
  rcases opened with machine | machine | machine <;> simp [supplyFrame, machine]

/-! ### The overload (R130, R131) -/

/-- With a limit set, a whole second in CLOSED counts towards a trip, or starts the count anew (R130). -/
theorem supplyFrame_closed (closed : u.supply.machine = .closed) (second : f.duration = 1000)
    (limit : u.supply.limit ≠ 0) :
    supplyFrame f power u =
      if u.supply.limit * 1000 < power then
        if u.settings.tripDelay ≤ u.supply.overCount + 1 then overloadTrip power u
        else pageSupply (overSupply (fun p => { p with overCount := u.supply.overCount + 1 }) u)
      else pageSupply (overSupply (fun p => { p with overCount := 0 }) u) := by
  simp [supplyFrame, closed, overloadFrame, second, limit]

theorem supplyFrame_unlimited (closed : u.supply.machine = .closed) (none : u.supply.limit = 0) :
    supplyFrame f power u = u := by
  simp [supplyFrame, closed, overloadFrame, none]

/-- The state an overload trips to, by the history that then stands (R131). -/
def tripState (u : State) (trips : List Nat) : Overload :=
  if u.settings.tripLimit ≤ trips.length then .latched else .waiting u.settings.recloseWait

/-- The history with the present trip, the ten latest (R131). -/
def tripHistory (u : State) : List Nat := (u.supply.trips ++ [u.clock.count]).drop (u.supply.trips.length - 9)

/-- A trip over an empty cause set places OVERLOAD and opens (R116, R131). -/
theorem overloadTrip_supply (running : isRunning u = true) (closed : u.supply.machine = .closed)
    (empty : u.supply.causes.isEmpty = true) :
    (overloadTrip power u).supply = { u.supply with
      causes := { u.supply.causes with overload := true }
      machine := .opening
      attempt := some ⟨.toOpen, 1, .pulse, 0, 0, none⟩
      coil := some .toOpen
      retry := 0
      overCount := 0
      trips := tripHistory u
      overload := tripState u (tripHistory u) } := by
  let tripped := pageSupply (overSupply (fun p =>
    { p with overCount := 0, trips := tripHistory u, overload := tripState u (tripHistory u) }) u)
  have only : OnlyTouches [.store, .supply] u tripped := by simp [tripped]
  have absent : tripped.supply.causes.has .overload ≠ true := by
    have none : u.supply.causes.overload = false := by simp_all [Causes.isEmpty]
    simp [tripped, Causes.has, none]
  have noted : (overloadTrip power u).supply = (setCause .overload true tripped).supply := by
    unfold overloadTrip
    dsimp only
    rw [(notice_touches _ _ _ _).supply_eq (by decide)]
    simp [tripped, tripState, tripHistory]
  rw [noted, setCause_acts (by rw [only.isRunning_eq (by decide), running]) absent, actOnCauses]
  simp [tripped, closed, Causes.put, Causes.isEmpty]

/-! ### The notice (R191, R194) -/

theorem batteryFrame_notice {s : State} {v : Nat} (ready : s.power.spent = false) (fresh : f.battery.fresh = true)
    (value : f.battery.value = some v) (low : v < 2600) :
    batteryFrame f s = notice .batteryLow 0 (leBytes 2 v) (overPower (fun p => { p with spent := true }) s) := by
  simp [batteryFrame, freshBattery_fresh fresh value, ready, low]

theorem batteryFrame_shows {s : State} {v : Nat} (up : linkUp s = true) (index : s.strip.writeIndex ≤ 31)
    (room : unread s < 31) (ready : s.power.spent = false) (fresh : f.battery.fresh = true)
    (value : f.battery.value = some v) (low : v < 2600) :
    peekBytes (batteryFrame f s) (0x600 + 16 * s.strip.writeIndex) 8 =
      [byteOf NoticeKind.batteryLow.code, byteOf (128 * s.clock.valid.toNat)] ++ leBytes 4 s.clock.count ++
        leBytes 2 v := by
  let spent := overPower (fun p => { p with spent := true }) s
  obtain ⟨shown, -⟩ := writeNotice_shows .batteryLow 0 (now s) (leBytes 2 v) (s := spent) up index room
  have cut := noticeBytes_take .batteryLow 0 (now s) (d := leBytes 2 v) (by simp)
  rw [length_leBytes, Nat.zero_add] at cut
  rw [batteryFrame_notice ready fresh value low, peekBytes_take _ _ 8 8]
  exact (congrArg (List.take 8) shown).trans cut

/-! ### The frame -/

/-- The judgement of a fresh BATTERY at its edges (R194). -/
theorem Power.judged_cases (p : Power) (v : Nat) :
    (p.spent = false → v < 2600 → p.judged v = { p with spent := true }) ∧
    (p.spent = true → 2800 < v → p.judged v = { p with spent := false }) ∧
    (p.spent = false → 2600 ≤ v → p.judged v = p) ∧ (p.spent = true → v ≤ 2800 → p.judged v = p) := by
  cases spent : p.spent <;> simp +contextual [Power.judged, spent, Nat.not_lt_of_le]

/-- Settles O10: the supply controller's frame over the record it found, by the state of the machine; then the judgement,
the period and the notice, each by its lemma. -/
theorem frameCloseRunsSupplyBatteryAndProfile : Obligations.FrameCloseRunsSupplyBatteryAndProfile := by
  unfold Obligations.FrameCloseRunsSupplyBatteryAndProfile
  refine ⟨fun m s running opened => ?_, fun f v s up index room ready fresh value low =>
    batteryFrame_shows up index room ready fresh value low⟩
  refine ⟨closeFrame m s, closedFrame m s, exec_frameClose m running opened,
    congrArg FrontEnd.last (offerFrame_front (closedFrame m s) (frameOffered m s)), ?_⟩
  have second : (closedFrame m s).duration = 1000 := rfl
  dsimp only
  rw [← deadLoad_iff, ← liveLoad_iff]
  refine ⟨fun few credit tamper => ?_, fun v fresh value => ?_, fun stale => ?_, fun p period range => ?_⟩
  · obtain ⟨u, record, ⟨settings, clock, runs⟩, taken, power⟩ := closeFrame_supplied few credit tamper
    have work : supplyWork (closedFrame m s) u = supplyFrame (closedFrame m s) u.energy.power u := rfl
    rw [taken, work, ← record, ← settings, ← clock]
    rw [← record] at power
    refine ⟨fun opening verify dead => ?_, fun opening other => ?_, fun closing verify live => ?_, fun closing other => ?_,
      fun stuck dead => ?_, fun stuck live => ?_, fun still => ?_, fun closed none => ?_, fun closed limit below => ?_,
      fun closed limit above early => ?_, fun closed limit above due empty => ?_⟩
    · rw [supplyFrame_opening opening, if_pos ⟨verify, dead⟩]
      exact ⟨rfl, rfl⟩
    · rw [supplyFrame_opening opening, if_neg (fun ⟨verify, dead⟩ => other.elim (by simp [verify]) (· dead)),
        (noteLoadV_leaves _ u).1, opening]
    · rw [supplyFrame_closing closing, if_pos ⟨verify, live⟩]
      exact ⟨rfl, rfl⟩
    · rw [supplyFrame_closing closing, if_neg (fun ⟨verify, live⟩ => other.elim (by simp [verify]) (· live)),
        (noteLoadV_leaves _ u).1, closing]
    · rw [supplyFrame_stuckClosed stuck, if_pos dead]
      simp
    · rw [supplyFrame_stuckClosed stuck, if_neg live]
    · rw [supplyFrame_open still]
    · rw [supplyFrame_unlimited closed none]
    · rw [supplyFrame_closed closed second limit, if_neg (by rwa [power closed])]
      simp
    · rw [supplyFrame_closed closed second limit, if_pos (by rwa [power closed]),
        if_neg (Nat.not_le.mpr early)]
      simp
    · rw [supplyFrame_closed closed second limit, if_pos (by rwa [power closed]), if_pos due,
        overloadTrip_supply (runs.trans running) closed empty]
      exact ⟨rfl, rfl, rfl, rfl, rfl, rfl, rfl⟩
  · rw [closeFrame_power, Power.taken, freshBattery_fresh fresh value]
    exact s.power.judged_cases v
  · rw [closeFrame_power, Power.taken, freshBattery_stale stale]
  · obtain ⟨x, o, closed⟩ := closeFrame_period (m := m) period range
    exact ⟨_, closed, rfl, rfl, rfl, rfl, rfl, rfl⟩

end Sys2Proof.Machine
end

section
/-! SUPPORT. The tamper watch's shared operations, field by field: a record's transitions, and what a kind that turns
ACTIVE or ceases leaves (R139, R141, R142, R147, R156, R158). -/

namespace Sys2Proof.Machine

theorem TamperRecords.set_get (r : TamperRecords) (k : TamperKind) : r.set k (r.get k) = r := by cases k <;> rfl

/-- CLEAR or LATCHED to ACTIVE, and no transition of an ACTIVE record (R139, R141). -/
theorem TamperRecord.activated_eq (r : TamperRecord) (x : Stamp) (b : Bool) :
    r.activated x b =
      if r.status = .active then { r with onBattery := r.onBattery || b }
      else ⟨.active, if r.status = .clear then some x else r.first, some x, min (r.count + 1) 65535,
        r.onBattery || b⟩ := by
  unfold TamperRecord.activated
  cases status : r.status <;> simp [bump]

/-- ACTIVE to LATCHED, and no transition of another record (R139, R142). -/
theorem TamperRecord.ceased_eq (r : TamperRecord) (x : Stamp) (b : Bool) :
    r.ceased x b =
      { (if r.status = .active then { r with status := .latched, last := some x } else r) with
        onBattery := r.onBattery || b } := by
  unfold TamperRecord.ceased
  split <;> rfl

theorem TamperRecord.activated_of_inactive {r : TamperRecord} (inactive : r.status ≠ .active) (x : Stamp) :
    r.activated x false =
      ⟨.active, if r.status = .clear then some x else r.first, some x, min (r.count + 1) 65535, r.onBattery⟩ := by
  rw [TamperRecord.activated_eq, if_neg inactive, Bool.or_false]

theorem TamperRecord.activated_of_active {r : TamperRecord} (active : r.status = .active) (x : Stamp) :
    r.activated x false = r := by
  rw [TamperRecord.activated_eq, if_pos active, Bool.or_false]

theorem TamperRecord.ceased_of_active {r : TamperRecord} (active : r.status = .active) (x : Stamp) :
    r.ceased x false = { r with status := .latched, last := some x } := by
  rw [TamperRecord.ceased_eq, if_pos active, Bool.or_false]

theorem TamperRecord.ceased_of_inactive {r : TamperRecord} (inactive : r.status ≠ .active) (x : Stamp) :
    r.ceased x false = r := by
  rw [TamperRecord.ceased_eq, if_neg inactive, Bool.or_false]

variable (k : TamperKind) (more : List Byte) (s : State)

theorem putRecord_tamper (r : TamperRecord) :
    (putRecord k r s).tamper = { s.tamper with records := s.tamper.records.set k r } := by
  have page : ∀ u, OnlyTouches [.store] u (pageLamp (pageRecord k u)) := by simp
  exact page _ .tamper (by decide)

/-- A kind turned ACTIVE with its notice and its attention cause, before the cause set follows (R147, R158). -/
def kindTold : State :=
  let r := (s.tamper.records.get k).activated (now s) false
  profileTamper (raise .tamper (tamperOn k false (now s) (s.tamper.records.get k).status r.status r.count more
    (putRecord k r s)))

theorem kindOn_eq :
    kindOn k more s =
      if disconnecting k && decide ((s.tamper.records.get k).status = .clear)
      then setCause .tamper true (kindTold k more s) else kindTold k more s := rfl

theorem kindTold_touches : OnlyTouches [.store, .tamper, .link, .strip, .profile] s (kindTold k more s) := by
  simp [kindTold]

theorem kindTold_tamper :
    (kindTold k more s).tamper =
      { s.tamper with records := s.tamper.records.set k ((s.tamper.records.get k).activated (now s) false) } := by
  have told : OnlyTouches [.store, .link, .strip, .profile]
      (putRecord k ((s.tamper.records.get k).activated (now s) false) s) (kindTold k more s) := by simp [kindTold]
  rw [← putRecord_tamper]
  exact told .tamper (by decide)

theorem kindOn_tamper :
    (kindOn k more s).tamper =
      { s.tamper with records := s.tamper.records.set k ((s.tamper.records.get k).activated (now s) false) } := by
  rw [kindOn_eq, ← kindTold_tamper k more s]
  split
  · exact setCause_touches _ .tamper true .tamper (by decide)
  · rfl

theorem kindOff_tamper :
    (kindOff k s).tamper =
      { s.tamper with records := s.tamper.records.set k ((s.tamper.records.get k).ceased (now s) false) } := by
  rw [← putRecord_tamper]
  exact tamperOff_touches _ _ _ _ _ _ _ .tamper (by decide)

/-- A kind that does not disconnect leaves the supply controller (R137, R156). -/
theorem kindOn_supply (harmless : disconnecting k = false) : (kindOn k more s).supply = s.supply := by
  rw [kindOn_eq, harmless]
  exact (kindTold_touches k more s).supply_eq (by decide)

/-- A disconnecting kind that leaves CLEAR places TAMPER (R156). -/
theorem kindOn_places (kind : disconnecting k = true) (clear : (s.tamper.records.get k).status = .clear) :
    (kindOn k more s).supply.causes.tamper = true := by
  rw [kindOn_eq, if_pos (by simp [kind, clear]), setCause_causes]
  rfl

/-- No attention cause is lost. -/
theorem kindOn_linkGrows : LinkGrows s (kindOn k more s) := by
  have told : LinkGrows s (kindTold k more s) :=
    ((((putRecord_touches s k _).linkGrows (by decide)).trans (writeNotice_linkGrows _ _ _ _ _)).trans
      (raise_linkGrows .tamper _)).trans ((profileTamper_touches _).linkGrows (by decide))
  rw [kindOn_eq]
  split
  · exact told.trans (workFrame_holds.setCause .tamper true _).link
  · exact told

theorem kindOff_linkGrows : LinkGrows s (kindOff k s) :=
  ((putRecord_touches s k _).linkGrows (by decide)).trans (writeNotice_linkGrows _ _ _ _ _)

/-- A kind that enters ACTIVE raises TAMPER (R158). -/
theorem kindOn_raises (up : linkUp s = true) : (kindOn k more s).link.latched.getLsbD 4 = true := by
  have told : (kindTold k more s).link.latched.getLsbD 4 = true := by
    have before : ∀ u, OnlyTouches [.store, .tamper, .link, .strip] s u → linkUp u = true := fun u only => by
      rw [only.linkUp_eq (by decide), up]
    refine ((profileTamper_touches _).linkGrows (by decide)).latched 4 ?_
    rw [raise_latched _ (before _ (by simp))]
    simp [AttnCause.mask, AttnCause.bit]
  rw [kindOn_eq]
  split
  · exact (workFrame_holds.setCause .tamper true _).link.latched 4 told
  · exact told

end Sys2Proof.Machine
end

section
/-! PROOF. A switch event's transition of its record, in mains operation and on battery (R138 to R144, R156, R158,
R168). -/

namespace Sys2Proof.Machine

theorem exec_switchEvent_unwatched {w : SwitchId} {s : State} (unwatched : watchesSwitches s.power = false) :
    exec (.switchEvent w) s = .next s := by
  simp [exec, execSwitchEvent, unwatched]

theorem exec_switchEvent_due {w : SwitchId} {s : State} {p : Position} (watched : watchesSwitches s.power = true)
    (settled : s.tamper.settled w = some p) (differs : s.pins.switch w ≠ p) :
    exec (.switchEvent w) s = .next (switchSettles w (s.pins.switch w) s) := by
  simp [exec, execSwitchEvent, watched, switchDiffers, settled, differs]

/-- The switch watch runs in every powered state, in WATCH while AWAKE (R140, R167; assumption log 27). -/
theorem watchesSwitches_of_powered {p : Power} (powered : p.state ≠ .dark)
    (awake : p.state = .watch → p.watch = .awake) : watchesSwitches p = true := by
  unfold watchesSwitches
  split
  · rfl
  · rfl
  · rename_i watch
    simp [awake watch]
  · rename_i dark
    exact absurd dark powered

theorem linkUp_of_mainsOperation {s : State} (mains : mainsOperation s = true) : linkUp s = true := by
  simp only [mainsOperation, linkUp, Bool.and_eq_true, decide_eq_true_eq] at mains ⊢
  obtain ⟨state, stage⟩ := mains
  exact ⟨state, by omega⟩

/-- A record after an event of its switch (R141, R142). -/
def TamperRecord.turned (r : TamperRecord) (p : Position) (x : Stamp) (onBattery : Bool) : TamperRecord :=
  match p with
  | .opened => r.activated x onBattery
  | .closed => r.ceased x onBattery

theorem TamperRecord.turned_eq (r : TamperRecord) (p : Position) (x : Stamp) :
    r.turned p x false =
      match p with
      | .opened =>
        if r.status = .active then r
        else ⟨.active, if r.status = .clear then some x else r.first, some x, min (r.count + 1) 65535, r.onBattery⟩
      | .closed => if r.status = .active then { r with status := .latched, last := some x } else r := by
  by_cases active : r.status = .active
  · cases p <;> simp [TamperRecord.turned, TamperRecord.activated_of_active, TamperRecord.ceased_of_active, active]
  · cases p <;> simp [TamperRecord.turned, TamperRecord.activated_of_inactive, TamperRecord.ceased_of_inactive, active]

/-- On battery the transition is the same, with the seen-on-battery mark (R144; assumption log 26). -/
theorem TamperRecord.turned_onBattery (r : TamperRecord) (p : Position) (x : Stamp) :
    r.turned p x true = { r.turned p x false with onBattery := true } := by
  cases p
  all_goals
    by_cases active : r.status = .active <;>
      simp [TamperRecord.turned, TamperRecord.activated_eq, TamperRecord.ceased_eq, active]

/-- Only an opened switch turns a record ACTIVE (R141, R142). -/
theorem TamperRecord.opened_of_turned_active {r : TamperRecord} {p : Position} {x : Stamp} {b : Bool}
    (active : (r.turned p x b).status = .active) (before : r.status ≠ .active) : p = .opened := by
  cases p with
  | opened => rfl
  | closed => simp [TamperRecord.turned, TamperRecord.ceased_eq, before] at active

variable (w : SwitchId) (p : Position) (s : State)

theorem switchOnMains_tamper :
    (switchOnMains w p s).tamper = { s.tamper with
      records := s.tamper.records.set (switchKind w)
        ((s.tamper.records.get (switchKind w)).turned p (now s) false) } := by
  have page : ∀ u, (pageSwitches u).tamper = u.tamper := fun u => pageSwitches_touches u .tamper (by decide)
  have stands : s.tamper = { s.tamper with
      records := s.tamper.records.set (switchKind w) (s.tamper.records.get (switchKind w)) } := by
    rw [TamperRecords.set_get]
  unfold switchOnMains TamperRecord.turned
  dsimp only
  rw [page]
  by_cases active : (s.tamper.records.get (switchKind w)).status = .active
  · cases p with
    | opened => simpa only [active, decide_true, TamperRecord.activated_of_active active] using stands
    | closed => simpa only [active, decide_true] using kindOff_tamper (switchKind w) s
  · cases p with
    | opened => simpa only [active, decide_false] using kindOn_tamper (switchKind w) [] s
    | closed => simpa only [active, decide_false, TamperRecord.ceased_of_inactive active] using stands

/-- An opened switch whose record is not ACTIVE turns its kind ACTIVE (R141). -/
theorem switchOnMains_opens (inactive : (s.tamper.records.get (switchKind w)).status ≠ .active) :
    switchOnMains w .opened s = pageSwitches (kindOn (switchKind w) [] s) := by
  unfold switchOnMains
  dsimp only
  rw [decide_eq_false inactive]

/-- The event as the battery event list takes it, over the record it moved (R144, R168). -/
def switchEntry : BatteryEvent :=
  let old := s.tamper.records.get (switchKind w)
  let moved := old.turned p (now s) true
  ⟨w, p, now s, old.status, moved.count, moved.first⟩

theorem switchOnBattery_eq :
    switchOnBattery w p s = appendEvent (switchEntry w p s)
      (putRecord (switchKind w) ((s.tamper.records.get (switchKind w)).turned p (now s) true) s) := by
  cases p <;> rfl

theorem switchOnBattery_tamper :
    (switchOnBattery w p s).tamper = { s.tamper with
      records := s.tamper.records.set (switchKind w)
        ((s.tamper.records.get (switchKind w)).turned p (now s) true) } := by
  rw [switchOnBattery_eq, ← putRecord_tamper]
  exact appendEvent_touches _ _ .tamper (by decide)

theorem appendEvent_power (e : BatteryEvent) :
    (appendEvent e s).power =
      if s.power.events.length < 8 then { s.power with events := s.power.events ++ [e] }
      else { s.power with overflow := min (s.power.overflow + 1) 255 } := by
  unfold appendEvent
  split <;> rfl

theorem switchOnBattery_power :
    (switchOnBattery w p s).power =
      if s.power.events.length < 8 then { s.power with events := s.power.events ++ [switchEntry w p s] }
      else { s.power with overflow := min (s.power.overflow + 1) 255 } := by
  rw [switchOnBattery_eq, appendEvent_power, (putRecord_touches _ _ _).power_eq (by decide)]

/-- The settled position replaced, before the record's transition (R140). -/
def switchSettled : State := s.withTamper (s.tamper.settle w (some p))

theorem switchSettled_touches : OnlyTouches [.tamper] s (switchSettled w p s) := withTamper_touches s _

theorem switchSettled_settled (r : TamperRecords) :
    ({ (switchSettled w p s).tamper with records := r } : Tamper).settled w = some p := by cases w <;> rfl

theorem switchSettled_records : (switchSettled w p s).tamper.records = s.tamper.records := by cases w <;> rfl

variable {w p s}

theorem switchSettles_mains (mains : mainsOperation s = true) :
    switchSettles w p s = switchOnMains w p (switchSettled w p s) := if_pos mains

theorem switchSettles_battery (battery : mainsOperation s = false) :
    switchSettles w p s = switchOnBattery w p (switchSettled w p s) := if_neg (by simp [battery])

/-- The position settles, and the record takes its transition, with the mark outside mains operation (R140 to R144). -/
theorem switchSettles_tamper :
    (switchSettles w p s).tamper.settled w = some p ∧
    (switchSettles w p s).tamper.records = s.tamper.records.set (switchKind w)
      ((s.tamper.records.get (switchKind w)).turned p (now s) (!mainsOperation s)) := by
  have stamp : now (switchSettled w p s) = now s := rfl
  cases mains : mainsOperation s with
  | true =>
    rw [switchSettles_mains mains, switchOnMains_tamper, switchSettled_records, stamp]
    exact ⟨switchSettled_settled w p s _, rfl⟩
  | false =>
    rw [switchSettles_battery mains, switchOnBattery_tamper, switchSettled_records, stamp]
    exact ⟨switchSettled_settled w p s _, rfl⟩

/-- A kind that enters ACTIVE by its switch raises TAMPER (R158); CASE, where it was CLEAR, places the cause (R156). -/
theorem switchSettles_opens (mains : mainsOperation s = true)
    (inactive : (s.tamper.records.get (switchKind w)).status ≠ .active) :
    (switchSettles w .opened s).link.latched.getLsbD 4 = true ∧
    (w = .caseSw → (s.tamper.records.get (switchKind w)).status = .clear →
      (switchSettles w .opened s).supply.causes.tamper = true) := by
  have records := switchSettled_records w .opened s
  have up : linkUp (switchSettled w .opened s) = true := linkUp_of_mainsOperation mains
  rw [switchSettles_mains mains, switchOnMains_opens w _ (by rwa [records]),
    (pageSwitches_touches _).supply_eq (by decide)]
  refine ⟨((pageSwitches_touches _).linkGrows (by decide)).latched 4 (kindOn_raises _ _ _ up), ?_⟩
  rintro rfl clear
  exact kindOn_places _ _ _ rfl (by rwa [records])

/-- On battery the event goes to the list, or to the overflow count where the list is full (R144, R168). -/
theorem switchSettles_listed (battery : mainsOperation s = false) :
    (switchSettles w p s).power =
      if s.power.events.length < 8 then
        { s.power with events := s.power.events ++ [switchEntry w p (switchSettled w p s)] }
      else { s.power with overflow := min (s.power.overflow + 1) 255 } := by
  have power := (switchSettled_touches w p s).power_eq (by decide)
  rw [switchSettles_battery battery, switchOnBattery_power, power]

/-- Settles O43: the settled position and the record by one lemma for both operations; then what a kind turned ACTIVE
brings about in mains operation, and the event's place in the list on battery. -/
theorem switchEventsMoveTheRecord : Obligations.SwitchEventsMoveTheRecord := by
  unfold Obligations.SwitchEventsMoveTheRecord
  intro w s p settled differs powered
  refine ⟨fun watch asleep => exec_switchEvent_unwatched (by simp [watchesSwitches, watch, asleep]), fun awake => ?_⟩
  have due := exec_switchEvent_due (watchesSwitches_of_powered powered awake) settled differs
  obtain ⟨position, records⟩ := switchSettles_tamper (w := w) (p := s.pins.switch w) (s := s)
  intro k old moved
  have moves : moved = old.turned (s.pins.switch w) (now s) false := (TamperRecord.turned_eq old _ _).symm
  clear_value moved
  subst moves
  generalize s.pins.switch w = q at *
  refine ⟨fun mains => ?_, fun battery => ?_⟩
  · rw [mains] at records
    refine ⟨_, due, position, records, fun active inactive => ?_, fun isCase opened clear => ?_, ?_⟩
    · obtain rfl := TamperRecord.opened_of_turned_active active inactive
      exact (switchSettles_opens mains inactive).1
    · subst opened
      exact (switchSettles_opens mains (by rw [clear]; simp)).2 isCase clear
    · rw [switchSettles_mains mains]
      exact ((switchOnMains_touches _ w q).power_eq (by decide)).trans
        ((switchSettled_touches w q s).power_eq (by decide))
  · have power := switchSettles_listed (w := w) (p := q) battery
    rw [battery, Bool.not_false, TamperRecord.turned_onBattery] at records
    refine ⟨_, due, position, records, by rw [records, TamperRecords.get_set_same], fun room => ?_, fun full => ?_, ?_⟩
    · rw [power, if_pos room]
      exact ⟨List.map_append, rfl⟩
    · rw [power, if_neg (Nat.not_lt.mpr full)]
      exact ⟨rfl, rfl⟩
    · rw [switchSettles_battery battery]
      exact ((switchSettled_touches w q s).mono (by decide)).trans (switchOnBattery_touches _ w q)

end Sys2Proof.Machine
end

section
/-! SUPPORT. One kind's judgement on a frame: its window, its record, its attention cause (R139, R146, R147, R158). -/

namespace Sys2Proof.Machine

theorem Windows.get_set (w : Windows) (k j : FrameKind) (l : List Bool) :
    (w.set k l).get j = if j = k then l else w.get j := by
  cases k <;> cases j <;> rfl

theorem FrameKind.kind_inj {k j : FrameKind} : j.kind = k.kind ↔ j = k := by
  cases k <;> cases j <;> decide

theorem trueCount_eq (l : List Bool) : trueCount l = l.count true := by
  rw [trueCount, List.count_eq_length_filter]
  exact congrArg (fun p => (l.filter p).length) (funext fun b => by cases b <;> rfl)

variable (k : FrameKind) (f : Frame) (s : State)

/-- A kind's window with the frame's result (R146). -/
def judgedWindow : List Bool :=
  appendResult s.settings.windowW (s.tamper.windows.get k) (frameResult k f s.settings s.supply.machine)

/-- A kind's record after its judgement on the window (R139, R147). -/
def judgedRecord : TamperRecord :=
  let w := judgedWindow k f s
  let r := s.tamper.records.get k.kind
  if r.status ≠ .active ∧ s.settings.windowK ≤ w.count true then r.activated (now s) false
  else if r.status = .active ∧ s.settings.windowW ≤ w.length ∧ w.count true = 0 then r.ceased (now s) false
  else r

section
variable {k f s}

theorem judgedRecord_on (inactive : (s.tamper.records.get k.kind).status ≠ .active)
    (enough : s.settings.windowK ≤ (judgedWindow k f s).count true) :
    judgedRecord k f s = (s.tamper.records.get k.kind).activated (now s) false := if_pos ⟨inactive, enough⟩

theorem judgedRecord_off (active : (s.tamper.records.get k.kind).status = .active)
    (full : s.settings.windowW ≤ (judgedWindow k f s).length) (none : (judgedWindow k f s).count true = 0) :
    judgedRecord k f s = (s.tamper.records.get k.kind).ceased (now s) false :=
  (if_neg fun on => on.1 active).trans (if_pos ⟨active, full, none⟩)

theorem judgedRecord_few (inactive : (s.tamper.records.get k.kind).status ≠ .active)
    (few : (judgedWindow k f s).count true < s.settings.windowK) :
    judgedRecord k f s = s.tamper.records.get k.kind :=
  (if_neg fun on => Nat.not_lt.mpr on.2 few).trans (if_neg fun off => inactive off.1)

theorem judgedRecord_stays (active : (s.tamper.records.get k.kind).status = .active)
    (holds : (judgedWindow k f s).length < s.settings.windowW ∨ (judgedWindow k f s).count true ≠ 0) :
    judgedRecord k f s = s.tamper.records.get k.kind :=
  (if_neg fun on => on.1 active).trans
    (if_neg fun off => holds.elim (Nat.not_lt.mpr off.2.1) fun some => some off.2.2)

end

/-- The result appended, before the judgement (R146). -/
def resultHeld : State :=
  s.withTamper { s.tamper with windows := s.tamper.windows.set k (judgedWindow k f s) }

theorem resultHeld_touches : OnlyTouches [.tamper] s (resultHeld k f s) := withTamper_touches s _

theorem judgeKind_eq :
    judgeKind f k s =
      if (s.tamper.records.get k.kind).status ≠ .active ∧ s.settings.windowK ≤ (judgedWindow k f s).count true then
        kindOn k.kind [byteOf (trueCount (judgedWindow k f s)), byteOf s.settings.windowW] (resultHeld k f s)
      else if (s.tamper.records.get k.kind).status = .active ∧ s.settings.windowW ≤ (judgedWindow k f s).length ∧
        (judgedWindow k f s).count true = 0 then kindOff k.kind (resultHeld k f s)
      else resultHeld k f s := by
  simp only [judgeKind, decide_eq_false_iff_not, decide_eq_true_eq, ← trueCount_eq]
  rfl

theorem judgeKind_tamper :
    (judgeKind f k s).tamper = { s.tamper with
      windows := s.tamper.windows.set k (judgedWindow k f s)
      records := s.tamper.records.set k.kind (judgedRecord k f s) } := by
  unfold judgedRecord
  rw [judgeKind_eq]
  dsimp only
  split
  · exact kindOn_tamper _ _ _
  · split
    · exact kindOff_tamper _ _
    · rw [TamperRecords.set_get]
      rfl

theorem judgeKind_linkGrows : LinkGrows s (judgeKind f k s) := by
  have held := (resultHeld_touches k f s).linkGrows (by decide)
  rw [judgeKind_eq]
  split
  · exact held.trans (kindOn_linkGrows _ _ _)
  · split
    · exact held.trans (kindOff_linkGrows _ _)
    · exact held

/-- Only BYPASS disconnects among the frame-judged kinds (R137). -/
theorem judgeKind_supply (harmless : k ≠ .bypass) : (judgeKind f k s).supply = s.supply := by
  have kind : disconnecting k.kind = false := by cases k <;> simp_all [disconnecting, FrameKind.kind]
  rw [judgeKind_eq]
  split
  · exact kindOn_supply _ _ _ kind
  · split
    · exact (kindOff_touches _ _).supply_eq (by decide)
    · rfl

/-- From `s` to `t` kind `k` has been judged on the frame. -/
structure KindJudged (t : State) : Prop where
  window : t.tamper.windows.get k = judgedWindow k f s
  record : t.tamper.records.get k.kind = judgedRecord k f s
  raised : (s.tamper.records.get k.kind).status ≠ .active → s.settings.windowK ≤ (judgedWindow k f s).count true →
    t.link.latched.getLsbD 4 = true

theorem judgeKind_judges (up : linkUp s = true) : KindJudged k f s (judgeKind f k s) := by
  have tamper := judgeKind_tamper k f s
  refine ⟨by rw [tamper, Windows.get_set, if_pos rfl], by rw [tamper, TamperRecords.get_set_same], fun other held => ?_⟩
  rw [judgeKind_eq, if_pos ⟨other, held⟩]
  exact kindOn_raises _ _ _ up

/-- What kind `k` is judged by is the same in `u`. -/
structure Unjudged (u : State) : Prop where
  alike : WorksAlike s u
  window : u.tamper.windows.get k = s.tamper.windows.get k
  record : u.tamper.records.get k.kind = s.tamper.records.get k.kind
  result : frameResult k f s.settings u.supply.machine = frameResult k f s.settings s.supply.machine

/-- What the judgement of kind `k` has left stands in `u`, and no attention cause is lost. -/
structure JudgementKept (u : State) : Prop where
  window : u.tamper.windows.get k = s.tamper.windows.get k
  record : u.tamper.records.get k.kind = s.tamper.records.get k.kind
  link : LinkGrows s u

variable {k f s} {t u : State}

theorem Unjudged.refl : Unjudged k f s s := ⟨⟨rfl, rfl, rfl⟩, rfl, rfl, rfl⟩

theorem Unjudged.trans (h : Unjudged k f s t) (g : Unjudged k f t u) : Unjudged k f s u :=
  ⟨h.alike.trans g.alike, g.window.trans h.window, g.record.trans h.record,
    (h.alike.settings ▸ g.result).trans h.result⟩

theorem Unjudged.judged (h : Unjudged k f s t) (g : KindJudged k f t u) : KindJudged k f s u := by
  have stamp : now t = now s := by rw [now, h.alike.clock]; rfl
  have window : judgedWindow k f t = judgedWindow k f s := by
    rw [judgedWindow, h.alike.settings, h.window, h.result]
    rfl
  have record : judgedRecord k f t = judgedRecord k f s := by
    rw [judgedRecord, window, h.alike.settings, h.record, stamp]
    rfl
  refine ⟨g.window.trans window, g.record.trans record, fun other held => g.raised ?_ ?_⟩
  · rwa [h.record]
  · rwa [window, h.alike.settings]

theorem KindJudged.kept (h : KindJudged k f s t) (g : JudgementKept k t u) : KindJudged k f s u :=
  ⟨g.window.trans h.window, g.record.trans h.record, fun other held => g.link.latched 4 (h.raised other held)⟩

theorem JudgementKept.refl : JudgementKept k s s :=
  ⟨rfl, rfl, (workFrame_holds.refl s).link⟩

theorem JudgementKept.trans (h : JudgementKept k s t) (g : JudgementKept k t u) : JudgementKept k s u :=
  ⟨g.window.trans h.window, g.record.trans h.record, h.link.trans g.link⟩

/-- What leaves the tamper watch and the supply controller leaves a kind to be judged as it is. -/
theorem OnlyTouches.unjudged {bs : List Block} (h : OnlyTouches bs s t) (tamper : Block.tamper ∉ bs)
    (supply : Block.supply ∉ bs) (alike : WorksAlike s t) : Unjudged k f s t := by
  have same : t.tamper = s.tamper := h .tamper tamper
  exact ⟨alike, by rw [same], by rw [same], by rw [h.supply_eq supply]⟩

theorem OnlyTouches.judgementKept {bs : List Block} (h : OnlyTouches bs s t) (tamper : Block.tamper ∉ bs)
    (link : LinkGrows s t) : JudgementKept k s t := by
  have same : t.tamper = s.tamper := h .tamper tamper
  exact ⟨by rw [same], by rw [same], link⟩

variable {j : FrameKind}

/-- The judgement of one kind leaves those of the others. -/
theorem judgeKind_judgementKept (other : k ≠ j) : JudgementKept k s (judgeKind f j s) := by
  have tamper := judgeKind_tamper j f s
  refine ⟨?_, ?_, judgeKind_linkGrows j f s⟩
  · rw [tamper, Windows.get_set, if_neg other]
  · rw [tamper, TamperRecords.get_set, if_neg fun same => other (FrameKind.kind_inj.mp same)]

/-- The kinds before BYPASS leave the machine by which it is judged (R153). -/
theorem judgeKind_unjudged (other : k ≠ j) (harmless : j ≠ .bypass) : Unjudged k f s (judgeKind f j s) := by
  obtain ⟨window, record, -⟩ := judgeKind_judgementKept (f := f) (s := s) other
  exact ⟨(judgeKind_touches s f j).worksAlike (by decide), window, record, by rw [judgeKind_supply j f s harmless]⟩

/-- The five kinds in their order: those before `k` do not disconnect (R137, R147). -/
theorem FrameKind.all_split (k : FrameKind) : ∃ before after, FrameKind.all = before ++ k :: after ∧
    (∀ j ∈ before, k ≠ j ∧ j ≠ .bypass) ∧ ∀ j ∈ after, k ≠ j := by
  cases k with
  | magnet => exact ⟨[], [.imbalance, .reverse, .noVoltage, .bypass], rfl, by simp, by simp⟩
  | imbalance => exact ⟨[.magnet], [.reverse, .noVoltage, .bypass], rfl, by simp, by simp⟩
  | reverse => exact ⟨[.magnet, .imbalance], [.noVoltage, .bypass], rfl, by simp, by simp⟩
  | noVoltage => exact ⟨[.magnet, .imbalance, .reverse], [.bypass], rfl, by simp, by simp⟩
  | bypass => exact ⟨[.magnet, .imbalance, .reverse, .noVoltage], [], rfl, by simp, by simp⟩

/-- The tamper watch's frame judges each of the five kinds by the state in which it takes the frame (R147). -/
theorem tamperFrame_judges (k : FrameKind) (f : Frame) {s : State} (running : isRunning s = true) :
    KindJudged k f s (tamperFrame f s) := by
  obtain ⟨before, after, split, earlier, later⟩ := FrameKind.all_split k
  have whole : tamperFrame f s = pageWindows (after.foldl (fun s k => judgeKind f k s)
      (judgeKind f k (before.foldl (fun s k => judgeKind f k s) s))) := by
    rw [tamperFrame, split, List.foldl_append, List.foldl_cons]
  have waits : Unjudged k f s (before.foldl (fun s k => judgeKind f k s) s) :=
    List.foldlRecOn _ _ .refl fun u h j mem => h.trans (judgeKind_unjudged (earlier j mem).1 (earlier j mem).2)
  rw [whole]
  generalize before.foldl (fun s k => judgeKind f k s) s = u at *
  have judged := judgeKind_judges k f u (linkUp_of_isRunning (waits.alike.running.trans running))
  have stays : JudgementKept k (judgeKind f k u) (after.foldl (fun s k => judgeKind f k s) (judgeKind f k u)) :=
    List.foldlRecOn _ _ .refl fun u h j mem => h.trans (judgeKind_judgementKept (later j mem))
  have page := pageWindows_touches (after.foldl (fun s k => judgeKind f k s) (judgeKind f k u))
  exact waits.judged ((judged.kept stays).kept (page.judgementKept (by decide) (page.linkGrows (by decide))))

end Sys2Proof.Machine
end

section
/-! PROOF. The normal frame in the tamper watch: the conditions of the five kinds (R149 to R153), and their judgement by
the state before the frame, whatever the order in which the blocks take it (R139, R146, R147, R158; assumption logs 11
and 46). -/

namespace Sys2Proof.Machine

/-! ### The conditions (R149 to R153) -/

theorem freshAtLeast_iff (a : AuxSample) (level : Nat) :
    freshAtLeast a level = true ↔ a.fresh = true ∧ ∃ v, a.value = some v ∧ level ≤ v := by
  cases value : a.value <;> simp [freshAtLeast, value]

theorem frameResult_imbalance (f : Frame) (g : Settings) (m : MachineState) :
    frameResult .imbalance f g m = true ↔
      (g.imbMin ≤ f.iL ∨ g.imbMin ≤ f.iN) ∧
      ((g.imbRatio : Int) * (max f.iL f.iN : Nat) < ((f.iL : Int) - (f.iN : Int)).natAbs * 100) := by
  have apart : ((f.iL : Int) - (f.iN : Int)).natAbs = max f.iL f.iN - min f.iL f.iN := by omega
  rw [apart]
  simp only [frameResult, decide_eq_true_eq, le_max_iff]
  norm_cast

theorem frameResult_reverse (f : Frame) (g : Settings) (m : MachineState) :
    frameResult .reverse f g m = true ↔ f.pL < -((g.reverse : Int) * 1000) := by
  simp [frameResult]

theorem frameResult_noVoltage (f : Frame) (g : Settings) (m : MachineState) :
    frameResult .noVoltage f g m = true ↔ f.v < 400 ∧ (500 ≤ f.iL ∨ 500 ≤ f.iN) := by
  simp [frameResult]

theorem frameResult_bypass (f : Frame) (g : Settings) (m : MachineState) :
    frameResult .bypass f g m = true ↔
      m = .opened ∧ f.loadV.fresh = true ∧ ∃ v, f.loadV.value = some v ∧ 1000 ≤ v := by
  simp [frameResult, freshAtLeast_iff]

/-! ### The orders of the blocks -/

/-- A list with `y` put in at some place still holds `x` once between two parts. -/
theorem insertions_around {α : Type} {B A : α → Prop} {x y : α} (hb : B y) (ha : A y) {before after o : List α}
    (early : ∀ w ∈ before, B w) (late : ∀ w ∈ after, A w) (ho : o ∈ insertions y (before ++ x :: after)) :
    ∃ b a, o = b ++ x :: a ∧ (∀ w ∈ b, B w) ∧ ∀ w ∈ a, A w := by
  induction before generalizing o with
  | nil =>
    rcases List.mem_cons.mp ho with rfl | later
    · exact ⟨[y], after, rfl, by simpa using hb, late⟩
    · obtain ⟨a, mem, rfl⟩ := List.mem_map.mp later
      refine ⟨[], a, rfl, by simp, fun w hw => ?_⟩
      exact List.forall_mem_cons.mpr ⟨ha, late⟩ w ((mem_insertions_perm mem).mem_iff.mp hw)
  | cons z before ih =>
    rcases List.mem_cons.mp ho with rfl | later
    · exact ⟨y :: z :: before, after, rfl, List.forall_mem_cons.mpr ⟨hb, early⟩, late⟩
    · obtain ⟨hz, rest⟩ := List.forall_mem_cons.mp early
      obtain ⟨p, mem, rfl⟩ := List.mem_map.mp later
      obtain ⟨b, a, rfl, hb', ha'⟩ := ih rest mem
      exact ⟨z :: b, a, rfl, List.forall_mem_cons.mpr ⟨hz, hb'⟩, ha'⟩

/-- The works that may come before the tamper watch's, and those that may come after it. -/
def MayPrecede (f : Frame) (w : State → State) : Prop := w = batteryFrame f ∨ w = supplyWork f

def MayFollow (f : Frame) (w : State → State) : Prop := w = energyFrame f ∨ w = batteryFrame f ∨ w = supplyWork f

theorem mem_frameOrders {f : Frame} {m : MachineState} {o : List (State → State)} (ho : o ∈ frameOrders f m) :
    o = [tamperFrame f, energyFrame f, supplyWork f] ∨ o = [tamperFrame f, supplyWork f, energyFrame f] ∨
      o = [supplyWork f, tamperFrame f, energyFrame f] := by
  unfold frameOrders at ho
  split at ho
  · exact .inl (List.mem_singleton.mp ho)
  · simp only [List.mem_cons, List.not_mem_nil, or_false] at ho
    exact ho

theorem frameOrders_around {f : Frame} {m : MachineState} {o : List (State → State)} (ho : o ∈ frameOrders f m) :
    ∃ before after, o = before ++ tamperFrame f :: after ∧ (∀ w ∈ before, MayPrecede f w) ∧
      ∀ w ∈ after, MayFollow f w := by
  rcases mem_frameOrders ho with rfl | rfl | rfl
  · exact ⟨[], [energyFrame f, supplyWork f], rfl, by simp, by simp [MayFollow]⟩
  · exact ⟨[], [supplyWork f, energyFrame f], rfl, by simp, by simp [MayFollow]⟩
  · exact ⟨[supplyWork f], [energyFrame f], rfl, by simp [MayPrecede], by simp [MayFollow]⟩

/-- The tamper watch takes a frame once, before the energy register block (R22). -/
theorem takingOrders_around {f : Frame} {s : State} {o : List (State → State)} (ho : o ∈ takingOrders f s) :
    ∃ before after, o = before ++ tamperFrame f :: after ∧ (∀ w ∈ before, MayPrecede f w) ∧
      ∀ w ∈ after, MayFollow f w := by
  have inserted : ∃ p ∈ frameOrders f s.supply.machine, o ∈ insertions (batteryFrame f) p := by
    unfold takingOrders at ho
    dsimp only at ho
    split at ho
    · exact List.mem_flatMap.mp ho
    · obtain ⟨p, mem, rfl⟩ := List.mem_map.mp ho
      exact ⟨p, mem, mem_insertions_iff.mpr ⟨p, [], by simp, rfl⟩⟩
  obtain ⟨p, mem, ins⟩ := inserted
  obtain ⟨before, after, rfl, early, late⟩ := frameOrders_around mem
  exact insertions_around (.inl rfl) (.inr (.inl rfl)) early late ins

/-! ### What the other blocks leave of the judgement -/

/-- A frame that shows the relay open by a dead load shows no BYPASS (R117, R153). -/
theorem frameResult_bypass_dead {f : Frame} (dead : deadLoad f = true) (g : Settings) (m : MachineState) :
    frameResult .bypass f g m = false := by
  obtain ⟨-, v, value, low⟩ := (deadLoad_iff f).mp dead
  refine Bool.eq_false_of_not_eq_true fun bypass => ?_
  obtain ⟨-, -, w, same, high⟩ := (frameResult_bypass f g m).mp bypass
  obtain rfl : v = w := Option.some.inj (value.symm.trans same)
  omega

theorem frameResult_bypass_of_gates {m : MachineState} (gates : gatesPenalty m = true) (f : Frame) (g : Settings) :
    frameResult .bypass f g m = false := by
  cases m <;> simp_all [gatesPenalty, frameResult]

/-- The supply controller's own frame does not change a kind's result: from a state that gates the penalties it comes to
OPENED by a dead load alone, and another state it leaves (R117, R123, R153). -/
theorem supplyFrame_result (k : FrameKind) (f : Frame) (g : Settings) (power : Nat) (s : State) :
    frameResult k f g (supplyFrame f power s).supply.machine = frameResult k f g s.supply.machine := by
  cases k with
  | bypass =>
    cases gates : gatesPenalty s.supply.machine with
    | true =>
      rw [frameResult_bypass_of_gates gates]
      rcases supplyFrame_frameGate f power s with ⟨stands, -⟩ | ⟨-, -, dead⟩
      · exact frameResult_bypass_of_gates (stands.trans gates) f g
      · exact frameResult_bypass_dead dead g _
    | false =>
      rw [supplyFrame_open (by cases machine : s.supply.machine <;> simp_all [gatesPenalty])]
  | _ => rfl

theorem batteryFrame_linkGrows (f : Frame) (s : State) : LinkGrows s (batteryFrame f s) := by
  have spent : ∀ b, LinkGrows s (overPower (fun p => { p with spent := b }) s) := fun b =>
    (withPower_touches s _).linkGrows (by decide)
  unfold batteryFrame
  split
  · split
    · exact (spent true).trans (writeNotice_linkGrows _ _ _ _ _)
    · split
      · exact spent false
      · exact (workFrame_holds.refl s).link
  · exact (workFrame_holds.refl s).link

theorem carry_linkGrows (s : State) : LinkGrows s (carry s) := by
  let counted := countWattHour (s.withEnergy { s.energy with billed :=
    { s.energy.billed with wh := (s.energy.billed.wh + 1) % 1000000000 } })
  let paid := pageCredit (counted.withCredit (counted.credit.energyDebit (unitRate s.tariff s.clock)))
  have before : OnlyTouches [.store, .energy, .tariff, .credit] s paid := by simp [paid, counted]
  have later : ∀ u, OnlyTouches [.store, .energy, .profile] u (owePulse (profileWattHour u)) := by simp
  exact ((before.linkGrows (by decide)).trans (workFrame_holds.evaluateCredit .energy paid).link).trans
    ((later _).linkGrows (by decide))

theorem energyFrame_linkGrows (f : Frame) (s : State) : LinkGrows s (energyFrame f s) := by
  have carried : ∀ (n : Nat) (u : State), LinkGrows u (carries n u) := by
    intro n
    induction n with
    | zero => exact fun u => (workFrame_holds.refl u).link
    | succ n ih => exact fun u => (carry_linkGrows u).trans (ih _)
  exact (((withEnergy_touches s _).linkGrows (by decide)).trans (carried _ _)).trans
    ((energyFrame_carries f s).linkGrows (by decide))

variable {f : Frame} {w : State → State}

theorem MayPrecede.unjudged (h : MayPrecede f w) (k : FrameKind) (s : State) : Unjudged k f s (w s) := by
  rcases h with rfl | rfl
  · exact (batteryFrame_touches s f).unjudged (by decide) (by decide) (batteryFrame_worksAlike f s)
  · have only := supplyFrame_touches s f s.energy.power
    have tamper : (supplyWork f s).tamper = s.tamper := only .tamper (by decide)
    exact ⟨only.worksAlike (by decide), by rw [tamper], by rw [tamper], supplyFrame_result k f _ _ s⟩

theorem MayFollow.judgementKept (h : MayFollow f w) (k : FrameKind) (s : State) : JudgementKept k s (w s) := by
  rcases h with rfl | rfl | rfl
  · exact (energyFrame_touches s f).judgementKept (by decide) (energyFrame_linkGrows f s)
  · exact (batteryFrame_touches s f).judgementKept (by decide) (batteryFrame_linkGrows f s)
  · exact (supplyFrame_touches s f s.energy.power).judgementKept (by decide)
      (workFrame_holds.supplyFrame f s.energy.power s).link

/-! ### The frame close -/

/-- Whatever the order in which the blocks take a frame, each kind is judged by the state before it. -/
theorem offerFrame_judges (k : FrameKind) (f : Frame) {s : State} (running : isRunning s = true) :
    KindJudged k f s (offerFrame f s) := by
  have order : ∀ o ∈ takingOrders f s, KindJudged k f s (runAll o s) := by
    intro o ho
    obtain ⟨before, after, rfl, early, late⟩ := takingOrders_around ho
    have split : runAll (before ++ tamperFrame f :: after) s = runAll after (tamperFrame f (runAll before s)) := by
      simp [runAll]
    have waits : Unjudged k f s (runAll before s) :=
      runAll_of (P := Unjudged k f s) (fun w hw t h => h.trans ((early w hw).unjudged k t)) .refl
    have judged := tamperFrame_judges k f (waits.alike.running.trans running)
    rw [split]
    exact runAll_of (P := KindJudged k f s) (fun w hw t h => h.kept ((late w hw).judgementKept k t))
      (waits.judged judged)
  have picked : KindJudged k f s (freePick ((takingOrders f s).map fun o => runAll o s) s) := by
    refine freePick_of_ne (P := KindJudged k f s) (fun t n ⟨window, record, raised⟩ => ⟨window, record, raised⟩)
      (by simpa using takingOrders_ne_nil f s) fun r hr => ?_
    obtain ⟨o, ho, rfl⟩ := List.mem_map.mp hr
    exact order o ho
  have later : OnlyTouches [.store, .profile] (freePick ((takingOrders f s).map fun o => runAll o s) s)
      (offerFrame f s) := by simp [offerFrame]
  exact picked.kept (later.judgementKept (by decide) (later.linkGrows (by decide)))

/-- Before the blocks take it, the frame's close has moved nothing that a kind is judged by. -/
theorem closeFrame_judges (k : FrameKind) (m : Means) {s : State} (running : isRunning s = true) :
    KindJudged k (closedFrame m s) s (closeFrame m s) := by
  have offered : Unjudged k (closedFrame m s) s (frameOffered m s) := ⟨⟨rfl, rfl, rfl⟩, rfl, rfl, rfl⟩
  exact offered.judged (offerFrame_judges k _ running)

/-- Settles O42: the conditions one by one; then each kind's judgement at the close, by what its window holds. -/
theorem frameCloseJudgesTheWindows : Obligations.FrameCloseJudgesTheWindows := by
  unfold Obligations.FrameCloseJudgesTheWindows
  refine ⟨fun f g m => ⟨?_, frameResult_imbalance f g m, frameResult_reverse f g m, frameResult_noVoltage f g m,
    frameResult_bypass f g m⟩, fun m s running opened => ?_⟩
  · exact freshAtLeast_iff f.magnet g.magnet
  refine ⟨closeFrame m s, closedFrame m s, exec_frameClose m running opened,
    congrArg FrontEnd.last (offerFrame_front (closedFrame m s) (frameOffered m s)), fun k => ?_⟩
  obtain ⟨window, record, raised⟩ := closeFrame_judges k m running
  intro old w r was
  refine ⟨window, fun inactive enough => ⟨raised inactive enough, ?_⟩, fun active full none => ?_,
    fun inactive few => record.trans (judgedRecord_few inactive few),
    fun active holds => record.trans (judgedRecord_stays active holds)⟩
  · rw [record, judgedRecord_on inactive enough, TamperRecord.activated_of_inactive inactive]
  · rw [record, judgedRecord_off active full none, TamperRecord.ceased_of_active active]

end Sys2Proof.Machine
end

section
/-! PROOF. What a step runs, what a transfer's bytes spell, and the reads and transfers that change data out alone
(R164, R175, R185; family 8). -/

namespace Sys2Proof

/-- The host's byte for LCTL, as the two controls it names. -/
theorem readControl_eq (data : List Byte) : readControl data =
    (if 2 ≤ (data.headD 0).toNat % 4 then some (.linkReset (decide ((data.headD 0).toNat % 4 = 3)))
     else if (data.headD 0).toNat % 4 = 1 then some .clearCollision else none) := by
  have bit0 : (data.headD 0).getLsbD 0 = decide ((data.headD 0).toNat % 2 = 1) := by
    simp [BitVec.getLsbD, Nat.testBit_zero]
  have bit1 : (data.headD 0).getLsbD 1 = decide ((data.headD 0).toNat / 2 % 2 = 1) := by
    simp [BitVec.getLsbD, Nat.testBit_succ, Nat.testBit_zero]
  have reset : (data.headD 0).toNat / 2 % 2 = 1 ↔ 2 ≤ (data.headD 0).toNat % 4 := by omega
  simp only [readControl, bit0, bit1, decide_eq_true_eq, reset]
  split
  · next named =>
    have both : (data.headD 0).toNat % 2 = 1 ↔ (data.headD 0).toNat % 4 = 3 := by omega
    simp only [both]
  · next named =>
    have clear : (data.headD 0).toNat % 2 = 1 ↔ (data.headD 0).toNat % 4 = 1 := by omega
    simp only [clear]

theorem readRegWrite_ignored {addr : BitVec 16} (data : List Byte) (aack : addr ≠ 2) (aconf : addr ≠ 3)
    (lctl : addr ≠ 4) : readRegWrite addr data = some (.regWriteIgnored addr data) := by
  have ne : ∀ {n : Nat}, addr ≠ BitVec.ofNat 16 n → addr.toNat ≠ n := fun h same => h (by rw [← same]; simp)
  unfold readRegWrite
  split
  · next same => exact absurd same (ne aack)
  · next same => exact absurd same (ne aconf)
  · next same => exact absurd same (ne lctl)
  · rfl

theorem readOperation_wellFormed {op : Operation} {addr : BitVec 16} {data : List Byte} {c : Instr}
    (read : readOperation op addr data = some c) : c.wellFormed = true := by
  cases op with
  | storeRead | storeWrite => cases read; rfl
  | regRead =>
    cases data with
    | nil => simp [readOperation] at read
    | cons b data => cases read; simp [Instr.wellFormed]
  | regWrite =>
    simp only [readOperation, readRegWrite] at read
    split at read
    · cases read; rfl
    · cases read; rfl
    · rw [readControl_eq] at read
      split at read
      · cases read; rfl
      · split at read
        · cases read; rfl
        · cases read
    · next aack aconf lctl => cases read; simpa [Instr.wellFormed] using ⟨aack, aconf, lctl⟩

theorem readTransfer_wellFormed {bytes : List Byte} {c : Instr} (read : readTransfer bytes = some c) :
    c.wellFormed = true := by
  unfold readTransfer at read
  split at read
  · cases read
  · next b rest =>
    split at read
    · next ignored => cases read; simpa [Instr.wellFormed] using (Operation.ofByte_eq_none_iff b).mp ignored
    · split at read
      · exact readOperation_wellFormed read
      · cases read

theorem readTransfer_operation (op : Operation) (hi lo : Byte) (data : List Byte) :
    readTransfer (op.code :: hi :: lo :: data) = readOperation op (transferAddress hi lo) data := by
  simp [readTransfer, Operation.ofByte_code]

theorem readTransfer_short (op : Operation) {rest : List Byte} (short : rest.length < 2) :
    readTransfer (op.code :: rest) = none := by
  match rest, short with
  | [], _ => simp [readTransfer, Operation.ofByte_code]
  | [_], _ => simp [readTransfer, Operation.ofByte_code]

theorem readTransfer_ignored {b : Byte} (rest : List Byte) (none : Operation.ofByte b = none) :
    readTransfer (b :: rest) = some (.operationIgnored b rest.length) := by simp [readTransfer, none]

namespace Machine

theorem exec_total (c : Instr) (s : State) : ∃ t, exec c s = .next t := by cases c <;> exact ⟨_, rfl⟩

theorem step_of_pending {c : Instr} {rest : List Instr} {s : State} (front : s.pending = c :: rest) :
    step s = exec c (s.withPending rest) := by simp [step, front]

theorem step_of_idle {s : State} (empty : s.pending = []) : step s = .next (idle s) := by simp [step, empty]

theorem step_withTransfer {bytes : List Byte} {c : Instr} {s : State} (read : readTransfer bytes = some c)
    (empty : s.pending = []) : step (s.withTransfer bytes) = exec c s := by
  have same : s.withPending [] = s := by rw [← empty]; rfl
  rw [s.withTransfer_some read, empty, step_of_pending (c := c) (rest := []) rfl]
  exact congrArg (exec c) same

/-- Settles O1: the front command runs with the queue's rest, an empty queue idles or works on the start-up, and the
bytes of a transfer spell the command that joins the queue. -/
theorem stepRunsTheFrontCommand : Obligations.StepRunsTheFrontCommand := by
  unfold Obligations.StepRunsTheFrontCommand
  refine ⟨fun c rest s front => step_of_pending front, exec_total, ?_, ?_, ?_, ?_, ?_⟩
  · intro s empty resting
    rw [step_of_idle empty, idle, if_neg fun ⟨mains, early⟩ =>
      resting.elim (· mains) (Nat.not_le.mpr early)]
  · intro s empty mains early
    rw [step_of_idle empty, idle, if_pos ⟨mains, early⟩]
  · exact fun s bytes => ⟨fun c read => ⟨readTransfer_wellFormed read, s.withTransfer_some read,
      step_withTransfer read⟩, s.withTransfer_none⟩
  · intro hi lo data addr
    have picks := fun op => readTransfer_operation op hi lo data
    refine ⟨picks .storeRead, picks .storeWrite, fun some => (picks .regRead).trans ?_,
      fun none => (picks .regRead).trans ?_, fun same => (picks .regWrite).trans ?_,
      fun same => (picks .regWrite).trans ?_, fun same => (picks .regWrite).trans ?_,
      fun aack aconf lctl => (picks .regWrite).trans (readRegWrite_ignored data aack aconf lctl)⟩
    · simp [readOperation, some, addr, transferAddress]
    · simp [readOperation, none]
    · exact congrArg (readRegWrite · data) same
    · exact congrArg (readRegWrite · data) same
    · exact (congrArg (readRegWrite · data) same).trans (readControl_eq data)
  · intro op rest
    refine ⟨fun r w rr rw =>
      readTransfer_ignored rest ((Operation.ofByte_eq_none_iff op).mpr ⟨r, w, rr, rw⟩), ?_⟩
    rintro (rfl | rfl | rfl | rfl) short
    · exact readTransfer_short .storeRead short
    · exact readTransfer_short .storeWrite short
    · exact readTransfer_short .regRead short
    · exact readTransfer_short .regWrite short

theorem padTo_eq (n : Nat) (bs : List Byte) : padTo n bs = (bs ++ List.replicate n 0).take n := by
  rw [padTo, List.take_append, List.take_replicate, Nat.min_eq_left (Nat.sub_le n bs.length)]

theorem regRead_up {s : State} {addr n : Nat} (up : linkUp s = true) (some : 1 ≤ n) (other : addr ≠ 1) :
    regRead addr n s = withDataOut (padTo n (registerBytes s addr)) s := by
  have clocked : 0 < n := some
  simp [regRead, up, clocked, other]

theorem regRead_down {s : State} (addr n : Nat) (down : linkUp s = false) : regRead addr n s = withDataOut [] s := by
  simp [regRead, down]

theorem registerBytes_eq {s : State} {addr : Nat} (other : addr ≠ 1) : registerBytes s addr =
    (if addr = 0 then
      byteOf ((if isRunning s = true then 1 else 0) + (if s.link.collision.isSome = true then 2 else 0)) ::
        leBytes 2 (s.link.collision.getD 0)
     else if addr = 3 then leBytes 3 s.link.aconf.toNat
     else if addr = 5 then [0x10, 0x71, 0x01]
     else []) := by
  unfold registerBytes
  split
  · cases running : isRunning s <;> cases flag : s.link.collision.isSome <;>
      simp [lstatBytes, running, flag, flagsByte, bitsNat, byteOf]
  · exact absurd rfl other
  · rfl
  · rfl
  · next idle _ aconf ident => rw [if_neg idle, if_neg aconf, if_neg ident]

theorem regWrite_ignored {addr : Nat} (data : List Byte) (s : State) (aack : addr ≠ 2) (aconf : addr ≠ 3)
    (lctl : addr ≠ 4) : regWrite addr data s = withDataOut [] s := by
  simp only [regWrite]
  split <;> rfl

/-- Settles O49: each read and each ignored transfer is its data out. -/
theorem readsAndIgnoredTransfersChangeNothing : Obligations.ReadsAndIgnoredTransfersChangeNothing := by
  unfold Obligations.ReadsAndIgnoredTransfersChangeNothing
  have storeRead : ∀ (addr : BitVec 16) (run : ReadRun) (s : State), exec (.storeRead addr run) s =
      .next (withDataOut ((if run.goesOn then s.link.dataOut else []) ++
        (if linkUp s then storeBytes s addr.toNat run.count else [])) s) := by intros; rfl
  have apendRead : ∀ (r : RegisterRead) (s : State),
      exec (.apendRead r) s = .next (regRead r.addr.toNat r.count s) := by intros; rfl
  have ignored : ∀ (op : Byte) (n : Nat) (s : State), exec (.operationIgnored op n) s =
      .next (withDataOut (if linkUp s then List.replicate n 0 else []) s) := by intros; rfl
  have regWriteIgnored : ∀ (addr : BitVec 16) (data : List Byte) (s : State),
      exec (.regWriteIgnored addr data) s = .next (regWrite addr.toNat data s) := by intros; rfl
  refine ⟨?_, ?_, ?_, ?_, ?_, ?_, ?_, ?_⟩
  · intro addr n s up
    simp [storeRead, up, withDataOut, storeBytes]
  · intro addr n s up
    simp [storeRead, up, withDataOut, storeBytes]
  · intro addr n s down
    simp [storeRead, down, withDataOut]
  · intro addr n s up some other
    rw [apendRead, regRead_up up some other, padTo_eq, registerBytes_eq other]
    rfl
  · intro read s down
    rw [apendRead, regRead_down _ _ down]
    rfl
  · intro op n s up
    simp [ignored, up, withDataOut]
  · intro op n s down
    simp [ignored, down, withDataOut]
  · intro addr data s wf
    obtain ⟨aack, aconf, lctl⟩ : addr.toNat ≠ 2 ∧ addr.toNat ≠ 3 ∧ addr.toNat ≠ 4 := of_decide_eq_true wf
    rw [regWriteIgnored, regWrite_ignored data s aack aconf lctl]
    rfl

end Machine

end Sys2Proof
end

section
/-! SUPPORT. What every block's work leaves of the parts beside it, packaged once for any relation of the states before
and after: all but the slips, the link reset, and the power logic's own moves is made of these (R1 to R163, R191 to
R200). -/

namespace Sys2Proof.Machine

/-- The parts that the works of the supply controller and of the credit unit write to. -/
def workParts : List Block := [.store, .conv, .credit, .supply, .tamper, .link, .strip, .profile]

/-- The parts whose content the relation does not look at. -/
def freeParts : List Block :=
  [.front, .conv, .energy, .clock, .credit, .supply, .tamper, .settings, .pins, .freeCount, .pending]

/-- A relation of the states before and after a work that holds of all that the blocks' works are made of: the works of
the supply controller and of the credit unit, the status page, records of the profile channel, and moves of each part
that keep the load in flight, the decoder, the link's state and the profile's descriptor. -/
structure HoldsOfBlocks (R : State → State → Prop) : Prop where
  refl : ∀ s, R s s
  trans : ∀ {s t u}, R s t → R t u → R s u
  works : ∀ {s t}, (∀ Q, HoldsOfWorks Q → Q s t) → OnlyTouches workParts s t → R s t
  beside : ∀ {s t}, OnlyTouches freeParts s t → R s t
  page : ∀ {a : Nat} {l : List Byte} (s : State), a + l.length ≤ 0x100 → R s (poke a l s)
  tariff : ∀ {x : TariffUnit} {s : State}, x.load = s.tariff.load → R s (s.withTariff x)
  code : ∀ {x : CodeUnit} {s : State}, x.decoder = s.code.decoder → R s (s.withCode x)
  power : ∀ {x : Power} {s : State}, linkUp (s.withPower x) = linkUp s → R s (s.withPower x)
  profile : ∀ {x : Profile} {s : State}, x.desc = s.profile.desc → R s (s.withProfile x)
  record : ∀ p endTime m s, R s (recordPeriod p endTime m s)

/-- An update of the power logic that keeps the power state and the stage. -/
theorem linkUp_withPower {x : Power} {s : State} (state : x.state = s.power.state) (stage : x.stage = s.power.stage) :
    linkUp (s.withPower x) = linkUp s := by simp [linkUp, state, stage]

/-- Step 3 of a start-up: the battery events' notices. -/
def startReplayed (s : State) : State := s.power.events.foldl (fun s e => replayEvent e s) s

/-- Step 3 of a start-up to POWER_BACK and the emptied list of battery events. -/
def startEmptied (s : State) : State :=
  overPower (fun p => { p with events := [], overflow := 0 })
    (powerBackNotice s.power.events.length (startReplayed s))

/-- Step 3 of a start-up with all its notices. -/
def startTold (s : State) : State :=
  if s.power.startMarkAbsent then watchLostNotice (startEmptied s) else startEmptied s

theorem startStep3_eq (s : State) :
    startStep3 s = overPower (fun p => { p with stage := .replayed }) (resumePeriods (startTold s)) := rfl

theorem startReplayed_touches (s : State) : OnlyTouches [.store, .link, .strip] s (startReplayed s) :=
  List.foldlRecOn _ _ (OnlyTouches.refl _ s) fun u g e _ => g.trans (replayEvent_touches u e)

theorem startTold_power (s : State) : (startTold s).power = { s.power with events := [], overflow := 0 } := by
  have emptied : (startEmptied s).power = { s.power with events := [], overflow := 0 } :=
    congrArg (fun p : Power => { p with events := [], overflow := 0 })
      (((startReplayed_touches s).trans (powerBackNotice_touches _ _)).power_eq (by decide))
  unfold startTold
  split
  · exact ((watchLostNotice_touches _).power_eq (by decide)).trans emptied
  · exact emptied

namespace HoldsOfBlocks

variable {R : State → State → Prop}

/-- A free choice among results that the relation holds of. -/
theorem pick (h : HoldsOfBlocks R) {results : List State} {s : State} (each : ∀ r ∈ results, R s r) (t : State)
    (base : R s t) : R s (freePick results t) :=
  freePick_of (fun u n g => h.trans g (h.beside ((withFreeCount_touches u n).mono (by decide)))) base each

/-! ### Notices and attention causes -/

theorem writeNotice (h : HoldsOfBlocks R) (k : NoticeKind) (head : Nat) (x : Stamp) (d : List Byte) (s : State) :
    R s (writeNotice k head x d s) :=
  h.works (fun _ q => q.writeNotice k head x d s) ((writeNotice_touches s k head x d).mono (by decide))

theorem notice (h : HoldsOfBlocks R) (k : NoticeKind) (head : Nat) (d : List Byte) (s : State) :
    R s (notice k head d s) := h.writeNotice _ _ _ _ _

theorem raise (h : HoldsOfBlocks R) (c : AttnCause) (s : State) : R s (raise c s) :=
  h.works (fun _ q => q.raise c s) ((raise_touches s c).mono (by decide))

/-! ### The supply controller and the credit unit -/

theorem supplied (h : HoldsOfBlocks R) (f : Supply → Supply) (s : State) : R s (overSupply f s) :=
  h.beside ((overSupply_touches s f).mono (by decide))

theorem suppliedPage (h : HoldsOfBlocks R) (f : Supply → Supply) (s : State) : R s (pageSupply (overSupply f s)) :=
  h.works (fun _ q => q.overSupply f s) (by simp [workParts])

theorem changeMachine (h : HoldsOfBlocks R) (m : MachineState) (x : SupplyTrigger) (u : Bool) (s : State) :
    R s (changeMachine m x u s) :=
  h.works (fun _ q => q.changeMachine m x u s) ((changeMachine_touches s m x u).mono (by decide))

theorem beginAttempt (h : HoldsOfBlocks R) (d : Direction) (s : State) : R s (beginAttempt d s) :=
  h.works (fun _ q => q.beginAttempt d s) ((beginAttempt_touches s d).mono (by decide))

theorem enterOpening (h : HoldsOfBlocks R) (x : SupplyTrigger) (s : State) : R s (enterOpening x s) :=
  h.trans (h.changeMachine _ _ _ s) (h.beginAttempt _ _)

theorem setCause (h : HoldsOfBlocks R) (k : Cause) (b : Bool) (s : State) : R s (setCause k b s) :=
  h.works (fun _ q => q.setCause k b s) ((setCause_touches s k b).mono (by decide))

theorem endOverload (h : HoldsOfBlocks R) (s : State) : R s (endOverload s) :=
  h.trans (h.suppliedPage _ s) (h.setCause _ _ _)

theorem supplyFrame (h : HoldsOfBlocks R) (f : Frame) (power : Nat) (s : State) : R s (supplyFrame f power s) :=
  h.works (fun _ q => q.supplyFrame f power s) ((supplyFrame_touches s f power).mono (by decide))

theorem takeConfirm (h : HoldsOfBlocks R) (s : State) : R s (takeConfirm s) := by
  unfold Machine.takeConfirm
  split
  · exact h.trans (h.changeMachine _ _ _ s) (h.beginAttempt _ _)
  · exact h.refl s

theorem endPulse (h : HoldsOfBlocks R) (s : State) : R s (endPulse s) := by
  have still := h.supplied (fun p => { p with coil := none }) s
  have resumed := h.trans still (h.beside ((withConv_touches _ (overSupply (fun p => { p with coil := none }) s
    ).conv.pulseEnds).mono (by decide)))
  unfold Machine.endPulse
  dsimp only
  split
  · split
    · exact h.trans resumed (h.enterOpening _ _)
    · exact h.trans resumed (h.suppliedPage _ _)
  · exact h.trans still (h.supplied _ _)

theorem windowExpires (h : HoldsOfBlocks R) (a : Attempt) (s : State) : R s (windowExpires a s) := by
  have fault : R s (relayFaultNotice a s) := h.notice _ _ _ s
  have pulse : ∀ d f, R s (pageSupply (beginPulse d (overSupply f s))) := fun d f =>
    h.trans (h.beside (pulsed d f s)) (h.works (fun _ q => q.page _ (.inr (by decide)) (by simp [supplyBytes]))
      ((pageSupply_touches _).mono (by decide)))
  unfold Machine.windowExpires
  split
  · exact h.suppliedPage _ s
  · split
    · exact pulse _ _
    · unfold failAttempt
      dsimp only
      split
      · exact h.trans fault (h.changeMachine _ _ _ _)
      · have stuck := h.trans fault (h.changeMachine .stuckClosed .fault false _)
        split
        · exact h.trans stuck (h.changeMachine _ _ _ _)
        · exact h.trans stuck (h.suppliedPage _ _)
where
  pulsed (d : Direction) (f : Supply → Supply) (s : State) :
      OnlyTouches freeParts s (beginPulse d (overSupply f s)) := by simp [freeParts]

theorem evaluateCredit (h : HoldsOfBlocks R) (x : CreditTrigger) (s : State) : R s (evaluateCredit x s) :=
  h.works (fun _ q => q.evaluateCredit x s) ((evaluateCredit_touches s x).mono (by decide))

/-- The account moved, shown and evaluated. -/
theorem paid (h : HoldsOfBlocks R) (x : CreditTrigger) (c : Credit) (s : State) :
    R s (Machine.evaluateCredit x (pageCredit (s.withCredit c))) :=
  h.works (fun _ q => q.paid x c s) (by simp [workParts])

theorem takeEmergency (h : HoldsOfBlocks R) (s : State) : R s (takeEmergency s) := by
  have taken : R s (pageCredit (s.withCredit { s.credit with emergency := .taken })) :=
    h.works (fun _ q => q.withCredit _ s) (by simp [workParts])
  have noted : ∀ c u, R u (emergencyNotice c u) := fun c u => h.notice _ _ _ u
  unfold Machine.takeEmergency
  split
  · refine h.pick (fun r hr => ?_) s (h.refl s)
    rcases List.mem_pair.mp hr with rfl | rfl
    · exact h.trans (h.trans taken (h.evaluateCredit _ _)) (noted _ _)
    · exact h.trans (h.trans taken (noted _ _)) (h.evaluateCredit _ _)
  · exact h.refl s

/-! ### The tamper watch -/

theorem putRecord (h : HoldsOfBlocks R) (k : TamperKind) (r : TamperRecord) (s : State) : R s (putRecord k r s) :=
  h.works (fun _ q => q.putRecord k r s) ((putRecord_touches s k r).mono (by decide))

theorem kindOn (h : HoldsOfBlocks R) (k : TamperKind) (more : List Byte) (s : State) : R s (kindOn k more s) := by
  have told : ∀ r o b c n, R s (profileTamper (Machine.raise .tamper (tamperOn k o (now s) b c n more
      (Machine.putRecord k r s)))) := fun r o b c n =>
    h.trans (h.trans (h.trans (h.putRecord k r s) (h.writeNotice _ _ _ _ _)) (h.raise _ _)) (h.profile (by rfl))
  unfold Machine.kindOn
  dsimp only
  split
  · exact h.trans (told _ _ _ _ _) (h.setCause _ _ _)
  · exact told _ _ _ _ _

theorem kindOff (h : HoldsOfBlocks R) (k : TamperKind) (s : State) : R s (kindOff k s) :=
  h.trans (h.putRecord k _ s) (h.writeNotice _ _ _ _ _)

theorem judgeKind (h : HoldsOfBlocks R) (f : Frame) (k : FrameKind) (s : State) : R s (judgeKind f k s) := by
  have window : ∀ x, R s (s.withTamper x) := fun x => h.beside ((withTamper_touches s x).mono (by decide))
  unfold Machine.judgeKind
  dsimp only
  split
  · exact h.trans (window _) (h.kindOn _ _ _)
  · split
    · exact h.trans (window _) (h.kindOff _ _)
    · exact window _

theorem pageWindows (h : HoldsOfBlocks R) (s : State) : R s (pageWindows s) := h.page s (by simp [windowBytes])

theorem tamperFrame (h : HoldsOfBlocks R) (f : Frame) (s : State) : R s (tamperFrame f s) := by
  have judged : R s (FrameKind.all.foldl (fun s k => Machine.judgeKind f k s) s) :=
    List.foldlRecOn _ _ (h.refl s) fun u g k _ => h.trans g (h.judgeKind f k u)
  exact h.trans judged (h.pageWindows _)

theorem pageSwitches (h : HoldsOfBlocks R) (s : State) : R s (pageSwitches s) := h.page s (by simp)

theorem switchSettles (h : HoldsOfBlocks R) (w : SwitchId) (p : Position) (s : State) : R s (switchSettles w p s) := by
  have settled : R s (s.withTamper (s.tamper.settle w (some p))) :=
    h.beside ((withTamper_touches s _).mono (by decide))
  have listed : ∀ e u, R u (appendEvent e u) := fun e u => by
    unfold appendEvent
    split <;> exact h.power (linkUp_withPower rfl rfl)
  unfold Machine.switchSettles
  dsimp only
  refine iteInduction (fun _ => h.trans settled (h.trans ?_ (h.pageSwitches _))) fun _ =>
    h.trans settled (h.trans (h.putRecord _ _ _) (listed _ _))
  split
  · exact h.kindOn _ _ _
  · exact h.kindOff _ _
  all_goals exact h.refl _

theorem clockBack (h : HoldsOfBlocks R) (magnitude : Nat) (s : State) : R s (clockBack magnitude s) :=
  h.works (fun _ q => q.clockBack magnitude s) ((clockBack_touches s magnitude).mono (by decide))

/-! ### The energy register block and the tariff unit -/

theorem pageEnergy (h : HoldsOfBlocks R) (s : State) : R s (pageEnergy s) :=
  h.trans (h.page s (by simp [energyBytes, accumulatorBytes])) (h.page _ (by simp))

theorem pageTariff (h : HoldsOfBlocks R) (s : State) : R s (pageTariff s) :=
  h.trans (h.page s (by simp)) (h.page _ (by simp [tariffBytes]))

theorem pageBlockBand (h : HoldsOfBlocks R) (s : State) : R s (pageBlockBand s) := h.page s (by simp)

theorem metered (h : HoldsOfBlocks R) (x : Energy) (s : State) : R s (s.withEnergy x) :=
  h.beside ((withEnergy_touches s x).mono (by decide))

theorem beginTestPulse (h : HoldsOfBlocks R) (s : State) : R s (beginTestPulse s) :=
  h.trans (h.metered _ s) (h.page _ (by simp))

theorem carry (h : HoldsOfBlocks R) (s : State) : R s (carry s) := by
  have owed : ∀ u, R u (owePulse u) := fun u =>
    iteInduction (fun _ => h.trans (h.metered _ u) (h.beginTestPulse _)) fun _ => h.metered _ u
  exact h.trans (h.trans (h.trans (h.trans (h.metered _ s) (h.tariff (by rfl))) (h.paid .energy _ _))
    (h.profile (by rfl))) (owed _)

theorem energyFrame (h : HoldsOfBlocks R) (f : Frame) (s : State) : R s (energyFrame f s) := by
  have carries : ∀ n u, R u (carries n u) := fun n => by
    induction n with
    | zero => exact h.refl
    | succ n ih => exact fun u => h.trans (h.carry u) (ih _)
  exact h.trans (h.trans (h.trans (h.trans (h.metered _ s) (carries _ _)) (h.pageEnergy _)) (h.pageTariff _))
    (h.pageBlockBand _)

theorem activateTariff (h : HoldsOfBlocks R) (t : Tariff) (x : TariffSource) (s : State) : R s (activateTariff t x s) :=
  h.trans (h.trans (h.trans (h.tariff (by rfl)) (h.pageTariff _)) (h.pageBlockBand _)) (h.notice _ _ _ _)

theorem tariffMinute (h : HoldsOfBlocks R) (s : State) : R s (tariffMinute s) := by
  have rolled : ∀ t, R s (rollover t s) := fun t =>
    iteInduction (fun _ => h.trans (h.trans (h.tariff (by rfl)) (h.pageTariff _)) (h.pageBlockBand _)) fun _ => h.refl s
  have charged : ∀ t u, R u (chargeDays t u) := fun t u => by
    unfold chargeDays
    dsimp only
    split
    · exact h.trans (h.tariff (by rfl)) (h.pageTariff _)
    · exact iteInduction (fun _ => h.trans (iteInduction (fun _ => h.paid .daily _ u) fun _ => h.refl u)
        (h.trans (h.tariff (by rfl)) (h.pageTariff _))) fun _ => h.refl u
  unfold Machine.tariffMinute
  split
  · exact iteInduction (fun _ => h.trans (rolled _) (charged _ _)) fun _ => h.refl s
  · exact h.refl s

theorem tariffTick (h : HoldsOfBlocks R) (minute : Bool) (s : State) : R s (tariffTick minute s) := by
  have second : R s (tariffSecond s) := by
    unfold tariffSecond
    split
    · exact iteInduction (fun _ => h.activateTariff _ _ s) fun _ => h.refl s
    · exact h.refl s
  exact iteInduction (fun _ => h.trans (h.trans second (h.tariffMinute _)) (h.pageBlockBand _)) fun _ => second

theorem installTariff (h : HoldsOfBlocks R) (t : Tariff) (s : State) : R s (installTariff t s) :=
  iteInduction (fun _ => h.activateTariff t _ s) fun _ => h.trans (h.tariff (by rfl)) (h.pageTariff _)

/-! ### The profile channel -/

theorem turnPeriod (h : HoldsOfBlocks R) (m : Bool) (s : State) : R s (turnPeriod m s) := by
  have closed : R s (closePeriod m s) := by
    unfold closePeriod
    split
    · exact h.record _ _ _ s
    · exact h.refl s
  exact iteInduction (fun _ => h.trans closed (h.profile (by rfl))) fun _ => h.refl s

theorem profileMinute (h : HoldsOfBlocks R) (s : State) : R s (profileMinute s) := by
  unfold Machine.profileMinute
  split
  · exact iteInduction (fun _ => h.trans (h.profile (by rfl)) (h.turnPeriod _ _)) fun _ => h.profile (by rfl)
  · exact h.refl s

/-! ### The code unit and the keypad -/

/-- A move of the code unit that keeps the decoder. -/
theorem coded (h : HoldsOfBlocks R) (f : CodeUnit → CodeUnit) {s : State}
    (decoder : (f s.code).decoder = s.code.decoder) : R s (overCode f s) := h.code decoder

theorem pageCode (h : HoldsOfBlocks R) (s : State) : R s (pageCode s) := h.page s (by simp [codeBytes])

theorem pageEntry (h : HoldsOfBlocks R) (s : State) : R s (pageEntry s) := h.page s (by simp [entryBytes])

theorem codedPage (h : HoldsOfBlocks R) (f : CodeUnit → CodeUnit) {s : State}
    (decoder : (f s.code).decoder = s.code.decoder) : R s (Machine.pageCode (overCode f s)) :=
  h.trans (h.coded f decoder) (h.pageCode _)

theorem idleExpires (h : HoldsOfBlocks R) (s : State) : R s (idleExpires s) :=
  iteInduction (fun _ => h.refl s) fun _ => h.trans (h.coded _ rfl) (h.pageEntry _)

theorem idleSecond (h : HoldsOfBlocks R) (s : State) : R s (idleSecond s) := by
  have counted := h.coded (fun u => { u with idle := u.idle + 1 }) (s := s) rfl
  exact iteInduction (fun _ => iteInduction (fun _ => h.trans counted (h.idleExpires _)) fun _ => counted)
    fun _ => h.refl s

theorem judgeIdle (h : HoldsOfBlocks R) (s : State) : R s (judgeIdle s) :=
  iteInduction (fun _ => iteInduction (fun _ => h.idleExpires s) fun _ => iteInduction
    (fun _ => h.pick (fun r hr => by
      rcases List.mem_pair.mp hr with rfl | rfl
      · exact h.idleExpires s
      · exact h.refl r) s (h.refl s)) fun _ => h.refl s) fun _ => h.refl s

theorem lockSecond (h : HoldsOfBlocks R) (s : State) : R s (lockSecond s) :=
  iteInduction (fun _ => h.refl s) fun _ => iteInduction (fun _ => h.codedPage _ rfl) fun _ => h.codedPage _ rfl

theorem settleCode (h : HoldsOfBlocks R) (v : Verdict) (c : Option Code) (s : State) : R s (settleCode v c s) := by
  unfold Machine.settleCode
  split
  · exact h.trans (h.works (fun _ q => q.applyCode _ s) ((applyCode_touches s _).mono (by decide))) (h.codedPage _ rfl)
  · exact h.codedPage _ rfl
  · exact h.refl s

theorem keypadOutcome (h : HoldsOfBlocks R) (e : Entry) (v : Verdict) (d : List Byte) (s : State) :
    R s (keypadOutcome e v d s) := h.trans (h.notice _ _ _ s) (h.raise _ _)

theorem installSettings (h : HoldsOfBlocks R) (g : Settings) (s : State) : R s (installSettings g s) := by
  have cleared : R s (clearWindows s.settings g (s.withSettings g)) :=
    h.beside (by simp [freeParts])
  exact h.trans (h.trans cleared (h.judgeIdle _)) (h.evaluateCredit _ _)

/-! ### The clock -/

theorem clocked (h : HoldsOfBlocks R) (c : Clock) (s : State) : R s (s.withClock c) :=
  h.beside ((withClock_touches s c).mono (by decide))

theorem pageClock (h : HoldsOfBlocks R) (s : State) : R s (pageClock s) := h.page s (by simp)

theorem pageCalendar (h : HoldsOfBlocks R) (s : State) : R s (pageCalendar s) :=
  h.page s (by unfold calendarBytes; split <;> simp)

theorem setClock (h : HoldsOfBlocks R) (new : Nat) (s : State) : R s (setClock new s) := by
  have paged : R s (setPaged new s) :=
    h.trans (h.trans (h.trans (h.clocked _ s) (h.pageClock _)) (h.pageCalendar _)) (h.pageBlockBand _)
  have noticed : R s (setNoticed new s) :=
    iteInduction (fun _ => paged) fun _ => h.trans paged (h.notice _ _ _ _)
  have warned : R s (setWarned new s) := iteInduction (fun _ => h.trans noticed (h.clockBack _ _)) fun _ => noticed
  have turned : R s (setTurned new s) := iteInduction (fun _ => warned) fun _ => h.trans warned (h.turnPeriod _ _)
  exact h.trans turned (h.evaluateCredit _ _)

theorem tickCounts (h : HoldsOfBlocks R) (s : State) : R s (tickCounts s) := by
  have clock : R s (clockPage s) :=
    iteInduction (fun _ => h.trans (h.pageClock s) (h.pageCalendar _)) fun _ => h.pageClock s
  have counted : R s (supplySecond (Machine.idleSecond (Machine.lockSecond (clockPage s)))) :=
    h.trans (h.trans (h.trans clock (h.lockSecond _)) (h.idleSecond _)) (h.suppliedPage _ _)
  have announced := h.trans counted (h.clocked
    (supplySecond (Machine.idleSecond (Machine.lockSecond (clockPage s)))).clock.announce _)
  exact iteInduction (fun _ => h.trans announced (h.suppliedPage _ _)) fun _ => announced

theorem tickWork (h : HoldsOfBlocks R) {day reclose retry : Bool} {s : State} {w : State → State}
    (mem : w ∈ tickWorks day reclose retry s) (u : State) : R u (w u) := by
  have ended : ∀ {q : Prop} [Decidable q], R u (if q then Machine.endOverload u else u) := fun {q} _ =>
    iteInduction (fun _ => h.endOverload u) fun _ => h.refl u
  rcases mem_tickWorks s mem with rfl | rfl | rfl | rfl | rfl | rfl
  · exact h.tariffTick _ u
  · exact ended
  · exact ended
  · exact iteInduction (fun _ => h.enterOpening _ u) fun _ => h.refl u
  · exact h.evaluateCredit _ u
  · exact h.profileMinute u

theorem advanceClock (h : HoldsOfBlocks R) (s : State) : R s (advanceClock s) := by
  have ticked := h.clocked s.clock.tick s
  have counted : ∀ (ended : Bool) (u : State), R u (if ended then calendarEndNotice (Machine.tickCounts u)
      else Machine.tickCounts u) := fun ended u =>
    iteInduction (fun _ => h.trans (h.tickCounts u) (h.notice _ _ _ _)) fun _ => h.tickCounts u
  have offered : ∀ ended u, R u (offerTick ended u) := fun ended u =>
    inAnyOrder_of (fun t n g => h.trans g (h.beside ((withFreeCount_touches t n).mono (by decide))))
      (fun w mem t g => h.trans g (h.tickWork mem t)) (counted ended u)
  exact iteInduction (fun _ => h.trans ticked (offered _ _)) fun _ =>
    iteInduction (fun _ => h.trans ticked (h.pageCalendar _)) fun _ => ticked

/-! ### Frames -/

theorem framed (h : HoldsOfBlocks R) (elapsed : Nat) (m : Means) (f : Frame) (s : State) :
    R s (putFrame f (gather elapsed m s)) := h.beside (by simp [freeParts])

theorem batteryFrame (h : HoldsOfBlocks R) (f : Frame) (s : State) : R s (batteryFrame f s) := by
  have marked : ∀ b, R s (overPower (fun p => { p with spent := b }) s) := fun _ => h.power (linkUp_withPower rfl rfl)
  unfold Machine.batteryFrame
  split
  · exact iteInduction (fun _ => h.trans (marked true) (h.notice _ _ _ _)) fun _ =>
      iteInduction (fun _ => marked false) fun _ => h.refl s
  · exact h.refl s

theorem closeFrame (h : HoldsOfBlocks R) (m : Means) (s : State) : R s (closeFrame m s) := by
  have taken : ∀ f u, R u (freePick ((takingOrders f u).map fun o => runAll o u) u) := fun f u =>
    h.pick (fun r hr => by
      obtain ⟨o, ho, rfl⟩ := List.mem_map.mp hr
      refine runAll_of (P := R u) (fun w hw t g => ?_) (h.refl u)
      rcases mem_takingOrders ho hw with rfl | rfl | rfl | rfl
      · exact h.trans g (h.tamperFrame f t)
      · exact h.trans g (h.energyFrame f t)
      · exact h.trans g (h.batteryFrame f t)
      · exact h.trans g (h.supplyFrame f _ t)) u (h.refl u)
  exact h.trans (h.trans (h.trans (h.framed 1000 m _ s) (taken _ _)) (h.profile (by rfl)))
    (h.page _ (by simp [length_frameBytes]))

theorem closeFinalFrame (h : HoldsOfBlocks R) (elapsed : Nat) (m : Means) (s : State) :
    R s (closeFinalFrame elapsed m s) :=
  h.trans (h.trans (h.trans (h.trans (h.framed elapsed m _ s) (h.tamperFrame _ _)) (h.energyFrame _ _))
    (h.batteryFrame _ _)) (h.profile (by rfl))

/-! ### The steps of a start-up from the store's clearing on (R171, R173) -/

/-- From step 2 on the stage moves the link's state no more. -/
theorem staged (h : HoldsOfBlocks R) {s : State} {x : Stage} (cleared : 2 ≤ s.power.stage.num) (later : 2 ≤ x.num) :
    R s (overPower (fun p => { p with stage := x }) s) := by
  refine h.power ?_
  change (decide _ && decide (2 ≤ x.num)) = (decide _ && decide (2 ≤ s.power.stage.num))
  rw [decide_eq_true cleared, decide_eq_true later]
  rfl

theorem startReplayed (h : HoldsOfBlocks R) (s : State) : R s (startReplayed s) :=
  List.foldlRecOn _ _ (h.refl s) fun u g e _ => h.trans g (by
    unfold replayEvent
    split <;> exact h.writeNotice _ _ _ _ u)

theorem startTold (h : HoldsOfBlocks R) (s : State) : R s (startTold s) := by
  have lost : ∀ u, R u (watchLostNotice u) := fun u => by
    unfold watchLostNotice
    split <;> exact h.notice _ _ _ u
  have emptied : R s (startEmptied s) :=
    h.trans (h.trans (h.startReplayed s) (h.notice _ _ _ _)) (h.power (linkUp_withPower (by rfl) (by rfl)))
  exact iteInduction (fun _ => h.trans emptied (lost _)) fun _ => emptied

theorem resumePeriods (h : HoldsOfBlocks R) (s : State) : R s (resumePeriods s) := by
  unfold Machine.resumePeriods
  dsimp only
  split
  · exact h.trans (h.trans (h.profile (by rfl)) (h.record _ _ _ _)) (h.profile (by rfl))
  · exact h.profile (by rfl)

theorem startStep3 (h : HoldsOfBlocks R) {s : State} (cleared : 2 ≤ s.power.stage.num) : R s (startStep3 s) :=
  h.trans (h.trans (h.startTold s) (h.resumePeriods _))
    (h.staged (by rw [(resumePeriods_touches _).power_eq (by decide), startTold_power]; exact cleared)
      (by decide : 2 ≤ Stage.num .replayed))

theorem startStep4 (h : HoldsOfBlocks R) {s : State} (cleared : 2 ≤ s.power.stage.num) : R s (startStep4 s) := by
  have rebuilt : R s (Machine.setCause .tamper (disconnects s.tamper.records) (startCredit s)) :=
    h.trans (h.trans (h.evaluateCredit _ s) (h.setCause _ _ _)) (h.setCause _ _ _)
  have power : (Machine.setCause .tamper (disconnects s.tamper.records) (startCredit s)).power = s.power :=
    ((setCause_touches _ _ _).power_eq (by decide)).trans ((startCredit_touches s).power_eq (by decide))
  exact h.trans (h.trans rebuilt (h.staged (by rw [power]; exact cleared) (by decide))) (h.pageSwitches _)

theorem resolveSupply (h : HoldsOfBlocks R) (loadV : Nat) (s : State) : R s (resolveSupply loadV s) := by
  have marked := h.supplied (fun p => { p with unverified := false }) s
  unfold Machine.resolveSupply
  dsimp only
  have changed := fun m => (iteInduction (c := m ≠ s.supply.machine ∨ s.supply.unverified = true) (motive := R s)
    (fun _ => h.trans marked (h.changeMachine m .start s.supply.unverified _)) fun _ => marked)
  exact iteInduction (fun _ => h.trans (changed _) (h.beginAttempt _ _)) fun _ => changed _

theorem startStep56 (h : HoldsOfBlocks R) (loadV : Nat) {s : State} (cleared : 2 ≤ s.power.stage.num) :
    R s (startStep56 loadV s) := by
  have taken : R s (s.withConv { s.conv with loadV := s.conv.loadV.taken }) :=
    h.beside ((withConv_touches s _).mono (by decide))
  have front : ∀ (u : State) x, R u (u.withFront x) := fun u x => h.beside ((withFront_touches u x).mono (by decide))
  have resolved := h.trans taken (h.resolveSupply loadV _)
  refine h.trans resolved (h.trans (h.trans (h.trans (front _ _) (h.staged ?_ (by decide))) (h.coded _ (by rfl)))
    (h.raise _ _))
  have power : (Machine.resolveSupply loadV (s.withConv { s.conv with loadV := s.conv.loadV.taken })).power = s.power :=
    (resolveSupply_touches _ loadV).power_eq (by decide)
  exact (congrArg (fun p => 2 ≤ p.stage.num) power).mpr cleared

theorem tryReverify (h : HoldsOfBlocks R) (s : State) : R s (tryReverify s) := by
  unfold Machine.tryReverify
  refine iteInduction (fun reached => ?_) fun _ => h.refl s
  split
  · exact iteInduction (fun _ => h.startStep56 _ (reached.2 ▸ by decide)) fun _ => h.refl s
  · exact h.refl s

end HoldsOfBlocks
end Sys2Proof.Machine
end

section
/-! SUPPORT. What the blocks' works leave of the slips: the state bytes, the waiting list, the decoder and the load in
flight (R178 to R180). -/

namespace Sys2Proof.Machine

/-- The first byte of a slip, which holds its state (R178). -/
def StateByte (a : Nat) : Prop := ∃ n : Fin 16, a = slipBase n

theorem StateByte.low {a : Nat} (h : StateByte a) : 0x200 ≤ a ∧ a < 0x600 := by
  obtain ⟨n, rfl⟩ := h
  have := n.isLt
  simp only [slipBase]
  omega

/-- From `s` to `t` the waiting list stands, and, in the store's layout, every slip's state and the layout. -/
structure SlipsBeside (s t : State) : Prop where
  waiting : t.link.waiting = s.link.waiting
  shown : layoutWell s → layoutWell t ∧ SameBytes StateByte s t

theorem SlipsBeside.trans {s t u : State} (h : SlipsBeside s t) (g : SlipsBeside t u) : SlipsBeside s u where
  waiting := g.waiting.trans h.waiting
  shown layout := by
    obtain ⟨tlayout, tbytes⟩ := h.shown layout
    obtain ⟨ulayout, ubytes⟩ := g.shown tlayout
    exact ⟨ulayout, tbytes.trans ubytes⟩

/-- What leaves the waiting list, the strip's index, the profile's descriptor and the slips' bytes. -/
theorem SlipsBeside.of {s t : State} (waiting : t.link.waiting = s.link.waiting)
    (index : s.strip.writeIndex ≤ 31 → t.strip.writeIndex ≤ 31) (desc : t.profile.desc = s.profile.desc)
    (bytes : SameBytes StateByte s t) : SlipsBeside s t :=
  ⟨waiting, fun layout => ⟨layoutWell_of layout (index layout.1) desc, bytes⟩⟩

theorem OnlyTouches.slipsBeside {bs : List Block} {s t : State} (h : OnlyTouches bs s t) (link : Block.link ∉ bs)
    (strip : Block.strip ∉ bs) (profile : Block.profile ∉ bs) (bytes : SameBytes StateByte s t) : SlipsBeside s t := by
  have strip_eq : t.strip = s.strip := h .strip strip
  have profile_eq : t.profile = s.profile := h .profile profile
  have link_eq : t.link = s.link := h .link link
  exact .of (by rw [link_eq]) (by rw [strip_eq]; exact id) (by rw [profile_eq]) bytes

/-- A write apart from the slips' state bytes. -/
theorem poke_stateBytes {a : Nat} {l : List Byte} (s : State) (h : a + l.length ≤ 0x200 ∨ 0x600 ≤ a) :
    SameBytes StateByte s (poke a l s) :=
  poke_sameBytes s fun b place => by
    have := place.low
    omega

theorem poke_slipsBeside {a : Nat} {l : List Byte} (s : State) (bytes : SameBytes StateByte s (poke a l s)) :
    SlipsBeside s (poke a l s) :=
  (poke_touches s a l).slipsBeside (by decide) (by decide) (by decide) bytes

theorem slipsBeside_holds : HoldsOfWorks SlipsBeside where
  refl s := (OnlyTouches.refl [] s).slipsBeside (by simp) (by simp) (by simp) (SameBytes.refl _ s)
  trans := SlipsBeside.trans
  own h := h.slipsBeside (by decide) (by decide) (by decide) (h.sameBytes (by decide) _)
  page s _ page := poke_slipsBeside s (poke_stateBytes s (.inl (by omega)))
  writeNotice k head x d s := by
    have profile : (writeNotice k head x d s).profile = s.profile :=
      writeNotice_touches s k head x d .profile (by decide)
    exact .of (by simp) (fun index => (writeNotice_storeStands k head x d s index).1) (by rw [profile])
      ((writeNotice_slips k head x d s).mono fun a place => by
        have := place.low
        omega)
  raise c s := by
    have touches := raise_touches s c
    have strip : (raise c s).strip = s.strip := touches .strip (by decide)
    have profile : (raise c s).profile = s.profile := touches .profile (by decide)
    exact .of (by simp) (by rw [strip]; exact id) (by rw [profile]) (touches.sameBytes (by decide) _)
  supplyOpen s := by
    have touches := profileSupplyOpen_touches s
    have strip : (profileSupplyOpen s).strip = s.strip := touches .strip (by decide)
    have link : (profileSupplyOpen s).link = s.link := touches .link (by decide)
    exact .of (by rw [link]) (by rw [strip]; exact id) (workFrame_holds.supplyOpen s).desc
      (touches.sameBytes (by decide) _)

/-- From `s` to `t` the blocks' work leaves the slips, the decoder, the load in flight and the link's state. -/
structure SlipsStand (s t : State) : Prop extends SlipsBeside s t where
  up : linkUp t = linkUp s
  decoder : t.code.decoder = s.code.decoder
  load : t.tariff.load = s.tariff.load

theorem SlipsBeside.stand {bs : List Block} {s t : State} (h : SlipsBeside s t) (touches : OnlyTouches bs s t)
    (power : Block.power ∉ bs) (code : Block.code ∉ bs) (tariff : Block.tariff ∉ bs) : SlipsStand s t where
  toSlipsBeside := h
  up := touches.linkUp_eq power
  decoder := congrArg CodeUnit.decoder (touches .code code)
  load := congrArg TariffUnit.load (touches.tariff_eq tariff)

theorem recordPeriod_slipsStand (p : Period) (endTime : Nat) (m : Bool) (s : State) :
    SlipsStand s (recordPeriod p endTime m s) := by
  refine SlipsBeside.stand ⟨(recordPeriod_linkGrows p endTime m s).waiting, fun layout => ?_⟩
    (recordPeriod_touches s p endTime m) (by decide) (by decide) (by decide)
  have index := (recordPeriod_storeStands layout p endTime m layout.1).1
  refine ⟨layoutWell_of_closed layout index (by rw [recordPeriod_profile]), ?_⟩
  have paged : ∀ u, SameBytes StateByte u (pageProfile u) := fun u => poke_stateBytes u (.inl (by simp [profileBytes]))
  cases desc : s.profile.desc with
  | none =>
    have same : recordPeriod p endTime m s = s := by simp [recordPeriod, desc]
    rw [same]
    exact SameBytes.refl _ s
  | some d =>
    rcases Nat.eq_zero_or_pos d.remaining with none_left | left
    · rw [recordPeriod_unrecorded desc none_left]
      exact ((withProfile_touches s _).sameBytes (by decide) _).trans (paged _)
    · have area : 0x800 ≤ d.offset := (layout.2 d desc).1
      have stored : SameBytes StateByte s (poke (d.offset + 16 * d.nextSlot) (profileRecordBytes p endTime m) s) :=
        poke_stateBytes s (.inr (by omega))
      have written : SameBytes StateByte s (recordWritten d p endTime m s) :=
        (stored.trans ((withProfile_touches _ _).sameBytes (by decide) _)).trans (paged _)
      have strip : (recordWritten d p endTime m s).strip = s.strip :=
        OnlyTouches.trans (bs := [.store, .profile]) (by simp [recordWritten]) (.refl _ _) .strip (by decide)
      have wlayout : layoutWell (recordWritten d p endTime m s) :=
        layoutWell_of_closed layout (by rw [strip]; exact layout.1) (by
          rw [Profile.closed_desc desc, if_neg (Nat.ne_of_gt left)]
          exact congrArg Profile.desc (pageProfile_touches _ .profile (by decide)))
      exact written.trans ((recordPeriod_after slipsBeside_holds desc left p endTime m).shown wlayout).2

theorem slipsStand_holds : HoldsOfBlocks SlipsStand where
  refl s := (slipsBeside_holds.refl s).stand (OnlyTouches.refl [] s) (by simp) (by simp) (by simp)
  trans h g := ⟨h.toSlipsBeside.trans g.toSlipsBeside, g.up.trans h.up, g.decoder.trans h.decoder, g.load.trans h.load⟩
  works works touches := (works _ slipsBeside_holds).stand touches (by decide) (by decide) (by decide)
  beside h := (h.slipsBeside (by decide) (by decide) (by decide) (h.sameBytes (by decide) _)).stand h (by decide)
    (by decide) (by decide)
  page s room := (poke_slipsBeside s (poke_stateBytes s (.inl (by omega)))).stand (poke_touches s _ _) (by decide)
    (by decide) (by decide)
  tariff load := ⟨.of rfl id rfl fun _ _ => rfl, rfl, rfl, load⟩
  code decoder := ⟨.of rfl id rfl fun _ _ => rfl, rfl, decoder, rfl⟩
  power up := ⟨.of rfl id rfl fun _ _ => rfl, up, rfl, rfl⟩
  profile desc := ⟨.of rfl id desc fun _ _ => rfl, rfl, rfl, rfl⟩
  record := recordPeriod_slipsStand

end Sys2Proof.Machine
end

section
/-! SUPPORT. The slips as they are posted, taken, worked and completed: what each of these moves keeps (R178 to
R181). -/

namespace Sys2Proof.Machine

/-- Slip `n` on the waiting list exactly while POSTED, and worked by exactly one block exactly while TAKEN. -/
structure SlipWell (s : State) (n : Fin 16) : Prop where
  waits : n ∈ s.link.waiting ↔ slipState s n = .posted
  worked : slipState s n = .taken ↔ decoderWorks s n ∨ loadWorks s n
  once : ¬(decoderWorks s n ∧ loadWorks s n)

/-- The slips and the layout as every step keeps them. -/
structure SlipsKept (s : State) : Prop where
  layout : layoutWell s
  nodup : s.link.waiting.Nodup
  each : ∀ n, SlipWell s n
  down : linkUp s = false → s.code.decoder = .idle ∧ s.tariff.load = none

theorem slipsKept_iff (s : State) : SlipsKept s ↔ layoutWell s ∧ slipsWell s := by
  constructor
  · rintro ⟨layout, nodup, each, down⟩
    exact ⟨layout, nodup, fun n => (each n).waits, fun n => (each n).worked, fun n => (each n).once, down⟩
  · rintro ⟨layout, nodup, waits, worked, once, down⟩
    exact ⟨layout, nodup, fun n => ⟨waits n, worked n, once n⟩, down⟩

/-- All is well but for slip `n`, which is off the waiting list and in a block's hands; the link port answers. -/
structure SlipsKeptBut (n : Fin 16) (s : State) : Prop where
  layout : layoutWell s
  up : linkUp s = true
  nodup : s.link.waiting.Nodup
  absent : n ∉ s.link.waiting
  others : ∀ m, m ≠ n → SlipWell s m

/-! ### Works of one slip -/

theorem decoderWorks_congr {s t : State} (h : t.code.decoder = s.code.decoder) (n : Fin 16) :
    decoderWorks t n ↔ decoderWorks s n := by unfold decoderWorks; rw [h]

theorem loadWorks_congr {s t : State} (h : t.tariff.load = s.tariff.load) (n : Fin 16) :
    loadWorks t n ↔ loadWorks s n := by unfold loadWorks; rw [h]

theorem decoderWorks_idle {s : State} (h : s.code.decoder = .idle) (n : Fin 16) : ¬ decoderWorks s n := by
  simp [decoderWorks, h]

theorem loadWorks_none {s : State} (h : s.tariff.load = none) (n : Fin 16) : ¬ loadWorks s n := by
  simp [loadWorks, h]

/-- A slip that keeps its state, its place on or off the waiting list, and its workers, stays well. -/
theorem SlipWell.congr {s t : State} {n : Fin 16} (h : SlipWell s n)
    (waiting : n ∈ t.link.waiting ↔ n ∈ s.link.waiting) (state : slipState t n = slipState s n)
    (decoder : decoderWorks t n ↔ decoderWorks s n) (load : loadWorks t n ↔ loadWorks s n) : SlipWell t n := by
  refine ⟨?_, ?_, ?_⟩
  · rw [waiting, state]; exact h.waits
  · rw [state, decoder, load]; exact h.worked
  · rw [decoder, load]; exact h.once

/-- A slip that nobody works is well off the waiting list, neither POSTED nor TAKEN. -/
theorem SlipWell.of_idle {s : State} {n : Fin 16} (absent : n ∉ s.link.waiting)
    (state : slipState s n = .free ∨ slipState s n = .done) (decoder : ¬ decoderWorks s n) (load : ¬ loadWorks s n) :
    SlipWell s n := by
  have other : slipState s n ≠ .posted ∧ slipState s n ≠ .taken := by
    rcases state with state | state <;> simp [state]
  obtain ⟨posted, taken⟩ := other
  exact ⟨iff_of_false absent posted, iff_of_false taken (not_or.mpr ⟨decoder, load⟩), fun both => decoder both.1⟩

theorem SlipWell.not_taken {s : State} {n : Fin 16} (h : SlipWell s n) (state : slipState s n ≠ .taken) :
    ¬ decoderWorks s n ∧ ¬ loadWorks s n := not_or.mp (mt h.worked.mpr state)

theorem SlipWell.posted {s : State} {n : Fin 16} (h : SlipWell s n) (waits : n ∈ s.link.waiting) :
    ¬ decoderWorks s n ∧ ¬ loadWorks s n := h.not_taken (by rw [h.waits.mp waits]; decide)

/-- The block's work beside the slips keeps every slip. -/
theorem SlipWell.stands {s t : State} {n : Fin 16} (h : SlipWell s n) (layout : layoutWell s) (stand : SlipsStand s t) :
    SlipWell t n :=
  h.congr (by rw [stand.waiting]) (slipState_eq n ((stand.shown layout).2 _ ⟨n, rfl⟩))
    (decoderWorks_congr stand.decoder n) (loadWorks_congr stand.load n)

theorem SlipsStand.state {s t : State} (stand : SlipsStand s t) (layout : layoutWell s) (n : Fin 16) :
    slipState t n = slipState s n := slipState_eq n ((stand.shown layout).2 _ ⟨n, rfl⟩)

theorem SlipsKept.stands {s t : State} (h : SlipsKept s) (stand : SlipsStand s t) : SlipsKept t where
  layout := (stand.shown h.layout).1
  nodup := stand.waiting ▸ h.nodup
  each n := (h.each n).stands h.layout stand
  down down := by
    obtain ⟨idle, none⟩ := h.down (stand.up ▸ down)
    exact ⟨stand.decoder.trans idle, stand.load.trans none⟩

theorem SlipsKeptBut.stands {n : Fin 16} {s t : State} (h : SlipsKeptBut n s) (stand : SlipsStand s t) :
    SlipsKeptBut n t where
  layout := (stand.shown h.layout).1
  up := stand.up.trans h.up
  nodup := stand.waiting ▸ h.nodup
  absent := stand.waiting ▸ h.absent
  others m apart := (h.others m apart).stands h.layout stand

/-- With the slip in hand well again, all are. -/
theorem SlipsKeptBut.close {n : Fin 16} {s : State} (h : SlipsKeptBut n s) (well : SlipWell s n) : SlipsKept s where
  layout := h.layout
  nodup := h.nodup
  each m := (eq_or_ne m n).elim (fun same => same ▸ well) (h.others m)
  down down := absurd h.up (by rw [down]; decide)

/-- A slip that is not waiting may be taken in hand. -/
theorem SlipsKept.but {n : Fin 16} {s : State} (h : SlipsKept s) (up : linkUp s = true)
    (absent : n ∉ s.link.waiting) : SlipsKeptBut n s :=
  ⟨h.layout, up, h.nodup, absent, fun m _ => h.each m⟩

/-! ### A move of one slip -/

/-- From `s` to `t` slip `n`'s bytes and its place on the waiting list move, and nothing else of the slips. -/
structure SlipMoves (n : Fin 16) (s t : State) : Prop where
  touches : OnlyTouches [.store, .link] s t
  bytes : SameBytes (OffSlip n) s t
  others : ∀ m, m ≠ n → (m ∈ t.link.waiting ↔ m ∈ s.link.waiting)

namespace SlipMoves

variable {n : Fin 16} {s t : State}

theorem up (h : SlipMoves n s t) : linkUp t = linkUp s := h.touches.linkUp_eq (by decide)

theorem decoder (h : SlipMoves n s t) : t.code.decoder = s.code.decoder :=
  congrArg CodeUnit.decoder (h.touches .code (by decide))

theorem load (h : SlipMoves n s t) : t.tariff.load = s.tariff.load :=
  congrArg TariffUnit.load (h.touches.tariff_eq (by decide))

theorem layout (h : SlipMoves n s t) (layout : layoutWell s) : layoutWell t := by
  have strip : t.strip = s.strip := h.touches .strip (by decide)
  have profile : t.profile = s.profile := h.touches .profile (by decide)
  exact layoutWell_of layout (by rw [strip]; exact layout.1) (by rw [profile])

theorem other (h : SlipMoves n s t) {m : Fin 16} (apart : m ≠ n) (well : SlipWell s m) : SlipWell t m :=
  well.congr (h.others m apart)
    (slipState_eq m (h.bytes _ (slipPlace_offSlip apart ⟨le_rfl, by omega⟩)))
    (decoderWorks_congr h.decoder m) (loadWorks_congr h.load m)

/-- The slip in hand after its move. -/
theorem but (h : SlipMoves n s t) (layout : layoutWell s) (up : linkUp s = true) (nodup : t.link.waiting.Nodup)
    (absent : n ∉ t.link.waiting) (others : ∀ m, m ≠ n → SlipWell s m) : SlipsKeptBut n t :=
  ⟨h.layout layout, h.up.trans up, nodup, absent, fun m apart => h.other apart (others m apart)⟩

end SlipMoves

theorem markTaken_moves (n : Fin 16) {s : State} (nodup : s.link.waiting.Nodup) : SlipMoves n s (markTaken n s) :=
  ⟨markTaken_touches s n, markTaken_offSlip n s, fun m apart => by
    rw [(markTaken_link n s).1, nodup.mem_erase_iff]
    exact and_iff_right apart⟩

theorem completeSlip_moves (n : Fin 16) (v : Verdict) (r : List Byte) (s : State) :
    SlipMoves n s (completeSlip n v r s) :=
  ⟨completeSlip_touches s n v r, completeSlip_offSlip n v r s, fun m _ => by rw [(completeSlip_link n v r s).1]⟩

/-- The taking of a waiting slip puts it in hand, TAKEN (R179). -/
theorem SlipsKept.markTaken {n : Fin 16} {s : State} (h : SlipsKept s) (up : linkUp s = true) :
    SlipsKeptBut n (markTaken n s) ∧ slipState (markTaken n s) n = .taken :=
  ⟨(markTaken_moves n h.nodup).but h.layout up (by rw [(markTaken_link n s).1]; exact h.nodup.erase n)
    (by rw [(markTaken_link n s).1, h.nodup.mem_erase_iff]; exact fun mem => mem.1 rfl) fun m _ => h.each m,
    (markTaken_taken n up).1⟩

/-- The completion of a slip in hand leaves it DONE, in hand (R179). -/
theorem SlipsKeptBut.completeSlip {n : Fin 16} {s : State} (h : SlipsKeptBut n s) (v : Verdict) (r : List Byte) :
    SlipsKeptBut n (completeSlip n v r s) ∧ slipState (completeSlip n v r s) n = .done :=
  ⟨(completeSlip_moves n v r s).but h.layout h.up (by rw [(completeSlip_link n v r s).1]; exact h.nodup)
    (by rw [(completeSlip_link n v r s).1]; exact h.absent) h.others, (completeSlip_shows n v r h.up).1⟩

/-- A slip in hand that nobody works is completed (R181). -/
theorem SlipsKeptBut.completed {n : Fin 16} {s : State} (h : SlipsKeptBut n s)
    (idle : ¬ decoderWorks s n ∧ ¬ loadWorks s n) (v : Verdict) (r : List Byte) :
    SlipsKept (Machine.completeSlip n v r s) := by
  obtain ⟨but, done⟩ := h.completeSlip v r
  have moves := completeSlip_moves n v r s
  exact but.close (.of_idle but.absent (.inr done) (mt (decoderWorks_congr moves.decoder n).mp idle.1)
    (mt (loadWorks_congr moves.load n).mp idle.2))

/-- A slip in hand that nobody works, moved on by a block's work, is completed. -/
theorem SlipsKeptBut.answered {n : Fin 16} {s t : State} (h : SlipsKeptBut n s)
    (idle : ¬ decoderWorks s n ∧ ¬ loadWorks s n) (stand : SlipsStand s t) (v : Verdict) (r : List Byte) :
    SlipsKept (Machine.completeSlip n v r t) :=
  (h.stands stand).completed ⟨mt (decoderWorks_congr stand.decoder n).mp idle.1,
    mt (loadWorks_congr stand.load n).mp idle.2⟩ v r

/-! ### The requests that complete at their taking -/

/-- Slip `n` is waiting, and the link port answers. -/
structure Waits (n : Fin 16) (s : State) : Prop where
  kept : SlipsKept s
  up : linkUp s = true
  mem : n ∈ s.link.waiting

namespace Waits

variable {n : Fin 16} {s : State}

/-- The slip taken: in hand, TAKEN, and worked by nobody yet. -/
theorem taken (h : Waits n s) :
    SlipsKeptBut n (markTaken n s) ∧ ¬ decoderWorks (markTaken n s) n ∧ ¬ loadWorks (markTaken n s) n := by
  have moves := markTaken_moves n h.kept.nodup
  obtain ⟨decoder, load⟩ := (h.kept.each n).posted h.mem
  exact ⟨(h.kept.markTaken h.up).1, mt (decoderWorks_congr moves.decoder n).mp decoder,
    mt (loadWorks_congr moves.load n).mp load⟩

theorem answered (h : Waits n s) {t : State} (stand : SlipsStand (markTaken n s) t) (v : Verdict) (r : List Byte) :
    SlipsKept (completeSlip n v r t) := by
  obtain ⟨but, idle⟩ := h.taken
  exact but.answered idle stand v r

theorem refused (h : Waits n s) (v : Verdict) (r : List Byte) : SlipsKept (completeSlip n v r (markTaken n s)) :=
  h.answered (slipsStand_holds.refl _) v r

theorem takeClockSet (h : Waits n s) : SlipsKept (takeClockSet n s) :=
  iteInduction (fun _ => h.refused _ _) fun _ => h.answered (slipsStand_holds.setClock _ _) _ _

theorem takeSupplyOrder (h : Waits n s) : SlipsKept (takeSupplyOrder n s) :=
  iteInduction (fun _ => h.answered (slipsStand_holds.setCause _ _ _) _ _) fun _ => h.refused _ _

theorem takeSettings (h : Waits n s) : SlipsKept (takeSettings n s) := by
  refine iteInduction (fun inside => iteInduction (fun _ => ?_) fun _ => iteInduction (fun _ => ?_)
    fun _ => h.refused _ _) fun _ => h.refused _ _
  · unfold settingsWrite
    dsimp only
    split
    · exact h.refused _ _
    · exact h.answered (slipsStand_holds.installSettings _ _) _ _
  · refine iteInduction (fun _ => h.refused _ _) fun _ => ?_
    have area : 0x800 ≤ slipArg s n 4 2 := by
      simp only [inOpenArea, decide_eq_true_eq] at inside
      exact inside.1
    have stored := poke_stateBytes (l := (markTaken n s).settings.image) (markTaken n s)
      (.inr (Nat.le_trans (by decide) area))
    exact h.answered ((poke_slipsBeside _ stored).stand (poke_touches _ _ _) (by decide) (by decide) (by decide)) _ _

/-- A new descriptor lies in the open area (R196). -/
theorem setup_layoutWell {off capacity d remaining : Nat} {t : State} (index : t.strip.writeIndex ≤ 31)
    (accepted : setupRefused s off capacity d = false) :
    layoutWell (t.withProfile { t.profile with desc := some ⟨off, capacity, d, remaining, 0⟩, unrecorded := 0 }) := by
  refine ⟨index, ?_⟩
  simp only [setupRefused, Bool.or_eq_false_iff, decide_eq_false_iff_not, Bool.not_eq_false', inOpenArea,
    decide_eq_true_eq] at accepted
  obtain ⟨⟨⟨small, area⟩, -⟩, -⟩ := accepted
  rintro _ ⟨rfl⟩
  exact ⟨area.1, area.2, show 0 < capacity by omega⟩

theorem takeProfileSetup (h : Waits n s) : SlipsKept (takeProfileSetup n s) := by
  unfold Machine.takeProfileSetup
  dsimp only
  split
  · exact h.refused _ _
  · next refused =>
    have accepted : setupRefused s (slipArg s n 4 2) (slipArg s n 6 1) (slipArg s n 7 1) = false := by
      simpa using refused
    have closed : SlipsStand (markTaken n s) (closePeriod false (markTaken n s)) := by
      unfold closePeriod
      split
      · exact slipsStand_holds.record _ _ _ _
      · exact slipsStand_holds.refl _
    have installed : ∀ {u x}, x.desc = some ⟨slipArg s n 4 2, slipArg s n 6 1, slipArg s n 7 1, slipArg s n 8 1, 0⟩ →
        SlipsStand u (u.withProfile x) := fun {u x} desc =>
      ⟨⟨rfl, fun layout => ⟨⟨layout.1, by
        rw [show (u.withProfile x).profile = x from rfl, desc]
        exact (setup_layoutWell (t := u) layout.1 accepted).2⟩, fun _ _ => rfl⟩⟩, rfl, rfl, rfl⟩
    exact h.answered (slipsStand_holds.trans (slipsStand_holds.trans (slipsStand_holds.trans closed
      (installed (by rfl))) (slipsStand_holds.profile (by rfl))) (slipsStand_holds.page _ (by simp [profileBytes]))) _ _

end Waits
end Sys2Proof.Machine
end

section
/-! SUPPORT. The decoder's and the load's slips, the dispatcher and the host's writes (R93, R94, R178 to R180). -/

namespace Sys2Proof.Machine

/-! ### The decoder changes hands -/

/-- The other slips do not see the decoder change between works that are not theirs. -/
theorem SlipWell.decoded {s : State} {x : CodeUnit} {m : Fin 16} (h : SlipWell s m)
    (same : decoderWorks (s.withCode x) m ↔ decoderWorks s m) : SlipWell (s.withCode x) m :=
  h.congr Iff.rfl rfl same Iff.rfl

/-- The decoder turns to a work of no slip, or away from one. -/
theorem SlipsKept.decoded {s : State} (h : SlipsKept s) (up : linkUp s = true) {x : CodeUnit}
    (same : ∀ m, decoderWorks (s.withCode x) m ↔ decoderWorks s m) : SlipsKept (s.withCode x) where
  layout := h.layout
  nodup := h.nodup
  each m := (h.each m).decoded (same m)
  down down := absurd up (by rw [show linkUp s = false from down]; decide)

/-- The decoder turns to slip `n` in hand, or from it. -/
theorem SlipsKeptBut.decoded {n : Fin 16} {s : State} (h : SlipsKeptBut n s) {x : CodeUnit}
    (same : ∀ m, m ≠ n → (decoderWorks (s.withCode x) m ↔ decoderWorks s m)) : SlipsKeptBut n (s.withCode x) where
  layout := h.layout
  up := h.up
  nodup := h.nodup
  absent := h.absent
  others m apart := (h.others m apart).decoded (same m apart)

theorem SlipsKept.pageCode {s : State} (h : SlipsKept s) : SlipsKept (pageCode s) :=
  h.stands (slipsStand_holds.pageCode s)

/-- A decoder that works a slip works no other. -/
theorem decoderWorks_unique {s : State} {n m : Fin 16} (h : decoderWorks s n) (g : decoderWorks s m) : m = n := by
  rcases h with ⟨_, h⟩ | ⟨_, h⟩ <;> rcases g with ⟨_, g⟩ | ⟨_, g⟩ <;> simp_all

/-- A TAKEN slip in hand is the decoder's: the decoder was IDLE (R94, R108). -/
theorem Waits.decoded {n : Fin 16} {s : State} (h : Waits n s) (idle : s.code.decoder = .idle) {f : CodeUnit → CodeUnit}
    (works : decoderWorks (overCode f (markTaken n s)) n) :
    SlipsKept (Machine.pageCode (overCode f (markTaken n s))) := by
  obtain ⟨but, -, load⟩ := h.taken
  have before : (markTaken n s).code.decoder = .idle := (markTaken_moves n h.kept.nodup).decoder.trans idle
  have others : ∀ m, m ≠ n → (decoderWorks (overCode f (markTaken n s)) m ↔ decoderWorks (markTaken n s) m) :=
    fun m apart => iff_of_false (fun other => apart (decoderWorks_unique works other)) (decoderWorks_idle before m)
  have hand : SlipsKeptBut n (overCode f (markTaken n s)) := but.decoded others
  have taken : slipState (overCode f (markTaken n s)) n = .taken := (h.kept.markTaken h.up).2
  have well : SlipWell (overCode f (markTaken n s)) n :=
    ⟨iff_of_false hand.absent (by rw [taken]; decide), iff_of_true taken (.inl works), fun both => load both.2⟩
  exact (hand.close well).pageCode

theorem Waits.takeCodeSlip {n : Fin 16} {s : State} (h : Waits n s) (idle : s.code.decoder = .idle) :
    SlipsKept (takeCodeSlip n s) :=
  iteInduction (fun _ => h.decoded idle (.inl ⟨_, rfl⟩)) fun _ => h.decoded idle (.inr ⟨_, rfl⟩)

theorem SlipsKept.takeSubmission {s : State} (h : SlipsKept s) (up : linkUp s = true) (idle : s.code.decoder = .idle) :
    SlipsKept (takeSubmission s) := by
  refine (h.decoded up fun m => ?_).pageCode
  exact iff_of_false (by simp [decoderWorks, State.withCode]) (decoderWorks_idle idle m)

/-- The freed decoder goes to the keypad's submission, or to the oldest waiting slip (R93, R180). -/
theorem SlipsKept.arbitrated {s : State} (up : linkUp s = true)
    (freed : SlipsKept (overCode (fun u => { u with decoder := .idle }) s)) : SlipsKept (arbitrate s) := by
  have kept := freed.pageCode
  have rest := pageCode_touches (overCode (fun u => { u with decoder := .idle }) s)
  have still : linkUp (Machine.pageCode (overCode (fun u => { u with decoder := .idle }) s)) = true :=
    (rest.linkUp_eq (by decide)).trans up
  have idle : (Machine.pageCode (overCode (fun u => { u with decoder := .idle }) s)).code.decoder = .idle :=
    congrArg CodeUnit.decoder (rest .code (by decide))
  refine iteInduction (fun _ => kept.takeSubmission still idle) fun _ => ?_
  split
  · next found => exact Waits.takeCodeSlip ⟨kept, still, List.mem_of_find?_eq_some found⟩ idle
  · exact kept

/-- A decoder that worked no slip is freed. -/
theorem SlipsKept.freed {s : State} (h : SlipsKept s) (up : linkUp s = true) (nothing : ∀ m, ¬ decoderWorks s m) :
    SlipsKept (arbitrate s) :=
  .arbitrated up (h.decoded up fun m => iff_of_false (decoderWorks_idle rfl m) (nothing m))

/-- A decoder that worked slip `n` answers it and is freed (R95, R108). -/
theorem SlipsKept.worked {n : Fin 16} {s : State} (h : SlipsKept s) (up : linkUp s = true) (works : decoderWorks s n)
    (v : Verdict) (r : List Byte) : SlipsKept (arbitrate (completeSlip n v r s)) := by
  have taken : slipState s n = .taken := (h.each n).worked.mpr (.inl works)
  have load : ¬ loadWorks s n := fun load => (h.each n).once ⟨works, load⟩
  have absent : n ∉ s.link.waiting := fun mem => by
    have posted := (h.each n).waits.mp mem
    rw [taken] at posted
    cases posted
  have moves := completeSlip_moves n v r s
  obtain ⟨but, done⟩ := (h.but up absent).completeSlip v r
  generalize completeSlip n v r s = t at moves but done ⊢
  have others : ∀ m, m ≠ n → (decoderWorks (overCode (fun u => { u with decoder := .idle }) t) m ↔ decoderWorks t m) :=
    fun m apart =>
    iff_of_false (decoderWorks_idle rfl m) fun other =>
      apart (decoderWorks_unique works ((decoderWorks_congr moves.decoder m).mp other))
  exact .arbitrated but.up ((but.decoded others).close (.of_idle but.absent (.inr done) (decoderWorks_idle rfl n)
    (mt (loadWorks_congr moves.load n).mp load)))

theorem SlipsKept.finishDecode {src : Source} {chars : List Byte} {s : State} (h : SlipsKept s) (up : linkUp s = true)
    (decoding : s.code.decoder = .decoding src chars) : SlipsKept (finishDecode src chars s) := by
  have stand := slipsStand_holds.settleCode (judgeCode chars s).1 (judgeCode chars s).2 s
  have settled := h.stands stand
  have still := stand.up.trans up
  have decoder := stand.decoder.trans decoding
  unfold Machine.finishDecode
  dsimp only
  generalize settleCode (judgeCode chars s).1 (judgeCode chars s).2 s = u at settled still decoder ⊢
  match src with
  | .keypad =>
    have told := slipsStand_holds.trans (slipsStand_holds.keypadOutcome .fullCode (judgeCode chars s).1
      (codeDetail (judgeCode chars s).1 (judgeCode chars s).2 s.tamper.records u) u) (slipsStand_holds.trans
        (slipsStand_holds.trans (slipsStand_holds.coded (fun u => { u with line := [], held := false, idle := 0 })
          (by rfl)) (slipsStand_holds.pageEntry _)) (slipsStand_holds.pageCode _))
    exact (settled.stands told).freed (told.up.trans still) fun m =>
      mt (decoderWorks_congr told.decoder m).mp (by simp [decoderWorks, decoder])
  | .slip n true => exact settled.worked still (.inl ⟨_, decoder⟩) _ _
  | .slip n false =>
    have told := slipsStand_holds.notice .codeRemote (judgeCode chars s).1.code
      (codeDetail (judgeCode chars s).1 (judgeCode chars s).2 s.tamper.records u) u
    exact (settled.stands told).freed (told.up.trans still) fun m =>
      mt (decoderWorks_congr told.decoder m).mp (by simp [decoderWorks, decoder])

theorem SlipsKept.finishKeySet {n : Fin 16} {live locked : Bool} {s : State} (h : SlipsKept s) (up : linkUp s = true)
    (keying : s.code.decoder = .keying n live locked) : SlipsKept (finishKeySet n live locked s) := by
  cases live with
  | true => exact h.worked up (.inr ⟨_, keying⟩) _ _
  | false => exact h.freed up fun m => by simp [decoderWorks, keying]

/-! ### The load's slip (R50, R52) -/

/-- The load turns to slip `n` in hand, or from it. -/
theorem SlipsKeptBut.loaded {n : Fin 16} {s : State} (h : SlipsKeptBut n s) {x : TariffUnit}
    (same : ∀ m, m ≠ n → (loadWorks (s.withTariff x) m ↔ loadWorks s m)) : SlipsKeptBut n (s.withTariff x) where
  layout := h.layout
  up := h.up
  nodup := h.nodup
  absent := h.absent
  others m apart := (h.others m apart).congr Iff.rfl rfl Iff.rfl (same m apart)

theorem loadWorks_unique {s : State} {n m : Fin 16} (h : loadWorks s n) (g : loadWorks s m) : m = n := by
  obtain ⟨l, load, slip⟩ := h
  obtain ⟨k, same, other⟩ := g
  obtain rfl : l = k := Option.some.inj (load.symm.trans same)
  exact Option.some.inj (other.symm.trans slip)

theorem Waits.takeTariffLoad {n : Fin 16} {s : State} (h : Waits n s) (none : s.tariff.load = none) :
    SlipsKept (takeTariffLoad n s) := by
  rw [takeTariffLoad_eq]
  refine iteInduction (fun _ => h.refused _ _) fun _ => ?_
  obtain ⟨but, decoder, -⟩ := h.taken
  have before : (markTaken n s).tariff.load = .none := (markTaken_moves n h.kept.nodup).load.trans none
  have works : loadWorks ((markTaken n s).withTariff { (markTaken n s).tariff with
      load := some ⟨peekBytes s (slipArg s n 4 2) 96, some (slipArg s n 4 2), some n⟩ }) n := ⟨_, rfl, rfl⟩
  have hand := but.loaded fun m apart =>
    iff_of_false (fun other => apart (loadWorks_unique works other)) (loadWorks_none before m)
  have taken : slipState (markTaken n s) n = .taken := (h.kept.markTaken h.up).2
  exact hand.close ⟨iff_of_false hand.absent fun posted => (by cases taken.symm.trans posted),
    iff_of_true taken (.inr works), fun both => decoder both.1⟩

/-- The load is taken off and its slip answered, where it still has one (R52, R189). -/
theorem SlipsKept.answered {l : Load} {s : State} (h : SlipsKept s) (up : linkUp s = true)
    (load : s.tariff.load = some l) (v : Verdict) (r : List Byte) : SlipsKept (answerLoad l v r (loadFreed s)) := by
  unfold answerLoad
  split
  · next n slip =>
    have works : loadWorks s n := ⟨l, load, slip⟩
    have taken : slipState s n = .taken := (h.each n).worked.mpr (.inr works)
    have decoder : ¬ decoderWorks s n := fun decoder => (h.each n).once ⟨decoder, works⟩
    have absent : n ∉ s.link.waiting := fun mem => by cases taken.symm.trans ((h.each n).waits.mp mem)
    have hand : SlipsKeptBut n (loadFreed s) := (h.but up absent).loaded fun m apart =>
      iff_of_false (loadWorks_none rfl m) fun other => apart (loadWorks_unique works other)
    exact hand.completed ⟨decoder, loadWorks_none rfl n⟩ v r
  · next slip =>
    have nothing : ∀ m, ¬ loadWorks s m := fun m ⟨k, same, other⟩ => by
      obtain rfl : l = k := Option.some.inj (load.symm.trans same)
      rw [slip] at other
      cases other
    exact ⟨h.layout, h.nodup, fun m => (h.each m).congr Iff.rfl rfl Iff.rfl
      (iff_of_false (loadWorks_none rfl m) (nothing m)), fun down => absurd up (by
        rw [show linkUp s = false from down]; decide)⟩

theorem SlipsKept.finishLoad {l : Load} {s : State} (h : SlipsKept s) (up : linkUp s = true)
    (load : s.tariff.load = some l) : SlipsKept (finishLoad l s) := by
  cases judged : judgeTariff l.image with
  | bad field index count =>
    rw [finishLoad_bad judged]
    exact h.answered up load _ _
  | good t =>
    have stand := slipsStand_holds.installTariff t s
    rw [finishLoad_good judged]
    exact (h.stands stand).answered (stand.up.trans up) (stand.load.trans load) _ _

theorem SlipsKept.drainLoads (fuel : Nat) {s : State} (h : SlipsKept s) (up : linkUp s = true) :
    SlipsKept (drainLoads fuel s) := by
  induction fuel generalizing s with
  | zero => exact h
  | succ fuel ih =>
    refine iteInduction (fun _ => h) fun free => ?_
    split
    · next n found =>
      refine ih (Waits.takeTariffLoad ⟨h, up, List.mem_of_find?_eq_some found⟩ (by simpa using free)) ?_
      rw [(takeTariffLoad_touches s n).linkUp_eq (by decide), up]
    · exact h

/-! ### The dispatcher and the host's writes (R178, R180) -/

theorem Waits.takeSlip {n : Fin 16} {s : State} (h : Waits n s) (accept : accepts s n = true) :
    SlipsKept (takeSlip n s) := by
  have idle : slipKind s n = 1 ∨ slipKind s n = 2 → s.code.decoder = .idle := fun kind => by
    have code : isCodeSlip s n = true := by simpa [isCodeSlip] using kind
    simp only [accepts, code, if_true, Bool.and_eq_true, decoderIdle, decide_eq_true_eq] at accept
    exact accept.1
  unfold Machine.takeSlip
  split
  · next kind => exact h.takeCodeSlip (idle (.inl kind))
  · next kind => exact h.takeCodeSlip (idle (.inr kind))
  · next kind => exact h.takeTariffLoad (by simpa [accepts, isCodeSlip, isLoadSlip, kind] using accept)
  · exact h.takeClockSet
  · exact h.takeSupplyOrder
  · exact h.takeSettings
  · exact h.takeProfileSetup
  · exact h.refused _ _
  · exact h.refused _ _

theorem putSlipState_state (n : Fin 16) (x : SlipState) {s : State} (up : linkUp s = true) :
    slipState (putSlipState n x s) n = x := by
  have shown := peekBytes_poke up (slipBase n) [byteOf x.code]
  rw [putSlipState, slipState, peek, (List.cons.inj shown).1, ofByte_code]

/-- The host's write of slip `n`'s state, with the waiting list moved at `n` alone. -/
theorem putSlipState_moves (n : Fin 16) (x : SlipState) {s : State} {w : List (Fin 16)}
    (others : ∀ m, m ≠ n → (m ∈ w ↔ m ∈ s.link.waiting)) :
    SlipMoves n s (putSlipState n x (s.withLink { s.link with waiting := w })) where
  touches := by simp
  bytes := poke_offSlip n (a := slipBase n) (l := [byteOf x.code]) (s.withLink { s.link with waiting := w }) (by omega)
    (by simp)
  others m apart := by
    have link : (putSlipState n x (s.withLink { s.link with waiting := w })).link = { s.link with waiting := w } :=
      poke_touches _ _ _ .link (by decide)
    rw [link]
    exact others m apart

theorem putSlipState_waiting (n : Fin 16) (x : SlipState) (s : State) (w : List (Fin 16)) :
    (putSlipState n x (s.withLink { s.link with waiting := w })).link.waiting = w :=
  congrArg Link.waiting (poke_touches (s.withLink { s.link with waiting := w }) _ _ .link (by decide))

/-- A FREE slip is posted: it waits (R178, R180). -/
theorem SlipsKept.posted {n : Fin 16} {s : State} (h : SlipsKept s) (up : linkUp s = true)
    (free : slipState s n = .free) :
    Waits n (putSlipState n .posted (s.withLink { s.link with waiting := s.link.waiting ++ [n] })) := by
  have absent : n ∉ s.link.waiting := fun mem => by cases free.symm.trans ((h.each n).waits.mp mem)
  obtain ⟨decoder, load⟩ := (h.each n).not_taken (by rw [free]; decide)
  have moves : SlipMoves n s (putSlipState n .posted (s.withLink { s.link with waiting := s.link.waiting ++ [n] })) :=
    putSlipState_moves n .posted fun m apart => by simp [apart]
  have waiting := putSlipState_waiting n .posted s (s.link.waiting ++ [n])
  have state := putSlipState_state n .posted (s := s.withLink { s.link with waiting := s.link.waiting ++ [n] }) up
  generalize putSlipState n .posted (s.withLink { s.link with waiting := s.link.waiting ++ [n] }) = t at *
  have mem : n ∈ t.link.waiting := by simp [waiting]
  have well : SlipWell t n :=
    ⟨iff_of_true mem state, iff_of_false (by rw [state]; decide) (not_or.mpr
      ⟨mt (decoderWorks_congr moves.decoder n).mp decoder, mt (loadWorks_congr moves.load n).mp load⟩),
      fun both => decoder ((decoderWorks_congr moves.decoder n).mp both.1)⟩
  have nodup : t.link.waiting.Nodup := by
    rw [waiting]
    exact List.Nodup.append h.nodup (List.nodup_singleton n) (by simpa using absent)
  exact ⟨⟨moves.layout h.layout, nodup, fun m => (eq_or_ne m n).elim (fun same => same ▸ well)
    fun apart => moves.other apart (h.each m), fun down => absurd (moves.up.trans up) (by rw [down]; decide)⟩,
    moves.up.trans up, mem⟩

/-- A POSTED or DONE slip is given back FREE, and a waiting one is withdrawn (R178). -/
theorem SlipsKept.released {n : Fin 16} {s : State} (h : SlipsKept s) (up : linkUp s = true)
    (idle : slipState s n ≠ .taken) {w : List (Fin 16)} (erased : w = s.link.waiting.erase n) :
    SlipsKept (putSlipState n .free (s.withLink { s.link with waiting := w })) := by
  subst erased
  obtain ⟨decoder, load⟩ := (h.each n).not_taken idle
  have moves : SlipMoves n s (putSlipState n .free (s.withLink { s.link with waiting := s.link.waiting.erase n })) :=
    putSlipState_moves n .free fun m apart => by rw [h.nodup.mem_erase_iff]; exact and_iff_right apart
  have waiting := putSlipState_waiting n .free s (s.link.waiting.erase n)
  have state := putSlipState_state n .free (s := s.withLink { s.link with waiting := s.link.waiting.erase n }) up
  have hand := moves.but h.layout up (by rw [waiting]; exact h.nodup.erase n)
    (by rw [waiting, h.nodup.mem_erase_iff]; exact fun mem => mem.1 rfl) fun m _ => h.each m
  exact hand.close (.of_idle hand.absent (.inl state) (mt (decoderWorks_congr moves.decoder n).mp decoder)
    (mt (loadWorks_congr moves.load n).mp load))

/-- What moves the link port alone, but for the waiting list. -/
theorem OnlyTouches.slipsStand {s t : State} (h : OnlyTouches [.link] s t) (waiting : t.link.waiting = s.link.waiting) :
    SlipsStand s t := by
  have strip : t.strip = s.strip := h .strip (by decide)
  have profile : t.profile = s.profile := h .profile (by decide)
  exact (SlipsBeside.of waiting (by rw [strip]; exact id) (by rw [profile]) (h.sameBytes (by decide) _)).stand h
    (by decide) (by decide) (by decide)

theorem attnUpdate_slipsStand (s : State) : SlipsStand s (attnUpdate s) :=
  (attnUpdate_touches s).slipsStand (attnUpdate_waiting s)

theorem collide_slipsStand (a : Nat) (s : State) : SlipsStand s (collide a s) :=
  OnlyTouches.slipsStand (by simp) (attnUpdate_waiting _)

theorem SlipsKept.hostState {n : Fin 16} (b : Byte) {s : State} (h : SlipsKept s) (up : linkUp s = true) :
    SlipsKept (hostState n b s) := by
  unfold Machine.hostState
  split
  · next free _ =>
    have waits := h.posted up free
    exact iteInduction (fun accept => waits.takeSlip accept) fun _ => waits.kept
  · next posted _ => exact h.released up (by rw [posted]; decide) rfl
  · next done _ =>
    have absent : n ∉ s.link.waiting := fun mem => by cases done.symm.trans ((h.each n).waits.mp mem)
    have released := h.released up (by rw [done]; decide) (List.erase_of_not_mem absent).symm
    exact SlipsKept.stands released (attnUpdate_slipsStand _)
  · exact h.stands (collide_slipsStand _ s)

/-- A host's byte that lies off every slip's state byte. -/
theorem putByte_slipsStand {a : Nat} (b : Byte) (s : State) (off : ¬ StateByte a) : SlipsStand s (putByte a b s) := by
  refine (poke_slipsBeside s (poke_sameBytes s fun c place => ?_)).stand (poke_touches s a [b]) (by decide) (by decide)
    (by decide)
  have apart : c ≠ a := fun same => off (same ▸ place)
  simp only [List.length_singleton]
  omega

theorem SlipsKept.hostByte {a : Nat} (b : Byte) {s : State} (h : SlipsKept s) (up : linkUp s = true) :
    SlipsKept (hostByte a b s) := by
  have refused := h.stands (collide_slipsStand a s)
  have put : ¬ StateByte a → SlipsKept (putByte a b s) := fun off => h.stands (putByte_slipsStand b s off)
  have outside : (a < 0x200 ∨ 0x600 ≤ a) → ¬ StateByte a := fun place state => by
    have := state.low
    omega
  refine iteInduction (fun _ => refused) fun _ => iteInduction (fun _ => refused) fun _ => iteInduction (fun _ =>
    iteInduction (fun _ => ?_) fun _ => refused) fun _ => iteInduction (fun low => put (outside (.inl low)))
    fun above => iteInduction (fun _ => iteInduction (fun _ => h.hostState b up) fun body => iteInduction
      (fun _ => put ?_) fun _ => refused) fun high => iteInduction (fun _ => refused) fun _ =>
        iteInduction (fun _ => refused) fun _ => put (outside (.inr (Nat.not_lt.mp high)))
  · next index _ => exact (put (outside (.inl (by omega)))).stands (attnUpdate_slipsStand _)
  · rintro ⟨n, rfl⟩
    simp only [slipBase] at body
    omega

theorem SlipsKept.hostBytes {a : Nat} {l : List Byte} {s : State} (h : SlipsKept s) (up : linkUp s = true) :
    SlipsKept (hostBytes a l s) := by
  induction l generalizing a s with
  | nil => exact h
  | cons b l ih => exact ih (h.hostByte b up) ((hostByte_touches s _ b).linkUp_eq (by decide) ▸ up)

end Sys2Proof.Machine
end

section
/-! SUPPORT. The slips over the power events: cleared with the store at the entry to HOLDUP and at a start-up, and at a
link reset (R165, R170, R171, R189). -/

namespace Sys2Proof.Machine

/-- Every slip is FREE and none waits. -/
structure SlipsFree (s : State) : Prop where
  layout : layoutWell s
  waiting : s.link.waiting = []
  free : ∀ n, slipState s n = .free

theorem SlipsFree.stands {s t : State} (h : SlipsFree s) (stand : SlipsStand s t) : SlipsFree t where
  layout := (stand.shown h.layout).1
  waiting := stand.waiting.trans h.waiting
  free n := (stand.state h.layout n).trans (h.free n)

/-- An empty store and a fresh link port and strip hold no slip. -/
theorem SlipsFree.of_cleared {s : State} (store : s.store = []) (link : s.link.waiting = []) (strip : s.strip = ⟨0, 0⟩)
    (area : ∀ d, s.profile.desc = some d →
      0x800 ≤ d.offset ∧ d.offset + 16 * d.capacity ≤ 0x1000 ∧ d.nextSlot < d.capacity) : SlipsFree s where
  layout := ⟨by rw [strip]; exact Nat.zero_le _, area⟩
  waiting := link
  free n := by
    rw [slipState, peek, store]
    exact reset_slipState n

theorem SlipsFree.each {s : State} (h : SlipsFree s) (decoder : ∀ n, ¬ decoderWorks s n) (load : ∀ n, ¬ loadWorks s n)
    (n : Fin 16) : SlipWell s n :=
  .of_idle (by simp [h.waiting]) (.inl (h.free n)) (decoder n) (load n)

theorem SlipsFree.kept {s : State} (h : SlipsFree s) (decoder : s.code.decoder = .idle) (load : s.tariff.load = none) :
    SlipsKept s :=
  ⟨h.layout, by simp [h.waiting], h.each (decoderWorks_idle decoder) (loadWorks_none load), fun _ => ⟨decoder, load⟩⟩

theorem SlipsFree.beside {bs : List Block} {s t : State} (h : SlipsFree s) (touches : OnlyTouches bs s t)
    (store : Block.store ∉ bs) (link : Block.link ∉ bs) (strip : Block.strip ∉ bs)
    (desc : t.profile.desc = s.profile.desc) : SlipsFree t := by
  have strip_eq : t.strip = s.strip := touches .strip strip
  have link_eq : t.link = s.link := touches .link link
  exact ⟨layoutWell_of h.layout (by rw [strip_eq]; exact h.layout.1) desc, by rw [link_eq, h.waiting], fun n =>
    (slipState_eq n (touches.sameBytes store (fun _ => True) _ trivial)).trans (h.free n)⟩

/-! ### The link reset (R189) -/

theorem pageAll_slipsStand (s : State) : SlipsStand s (pageAll s) := by
  refine SlipsBeside.stand ⟨congrArg Link.waiting (pageAll_touches s .link (by decide)), fun layout => ?_⟩
    (pageAll_touches s) (by decide) (by decide) (by decide)
  obtain ⟨index, bytes⟩ := (pageAll_keeps s).2 layout.1
  refine ⟨layoutWell_of layout index (congrArg Profile.desc (pageAll_touches s .profile (by decide))),
    fun a place => ?_⟩
  have low := place.low
  refine bytes a ?_
  simp only [placeOf, List.mem_singleton]
  rw [if_neg (by omega), if_pos low]
  decide

theorem Decoder.detached_works {s : State} (n : Fin 16) :
    ¬ decoderWorks (s.withCode { s.code with decoder := s.code.decoder.detached }) n := by
  rintro (⟨_, works⟩ | ⟨_, works⟩)
  all_goals
    change s.code.decoder.detached = _ at works
    unfold Decoder.detached at works
    split at works <;> simp_all

theorem SlipsKept.linkReset {s : State} (h : SlipsKept s) (up : linkUp s = true) : SlipsKept (linkReset s) := by
  have cleared : ∀ {u : State}, u.store = [] → u.link = Link.empty → u.strip = ⟨0, 0⟩ →
      u.profile.desc = s.profile.desc.map (fun d => { d with remaining := 0 }) → SlipsFree u :=
    fun {u} store link strip desc => .of_cleared store (by rw [link]; rfl) strip fun e found => by
      rw [desc] at found
      obtain ⟨d, before, rfl⟩ := Option.map_eq_some_iff.mp found
      exact h.layout.2 d before
  have detached : ∀ {u : State}, u.tariff.load = s.tariff.load.map Load.detached → ∀ n, ¬ loadWorks u n := by
    rintro u load n ⟨l, works, slip⟩
    rw [load] at works
    obtain ⟨k, -, rfl⟩ := Option.map_eq_some_iff.mp works
    cases slip
  unfold Machine.linkReset
  refine SlipsKept.stands ?_ (pageAll_slipsStand _)
  have free := cleared (u := ((((((s.withStore []).withLink Link.empty).withStrip ⟨0, 0⟩).withProfile
    { s.profile with desc := s.profile.desc.map fun d => { d with remaining := 0 } }).withTariff
    { s.tariff with load := s.tariff.load.map Load.detached }).withCode
    { s.code with decoder := s.code.decoder.detached })) rfl rfl rfl rfl
  exact ⟨free.layout, by rw [free.waiting]; exact List.nodup_nil,
    free.each (fun n => Decoder.detached_works (s := s) n) (detached rfl), fun down => absurd up (by
      rw [show linkUp s = false from down]; decide)⟩

/-! ### HOLDUP (R165) -/

/-- The hold-up work to the code unit: frame, conversion, backlog and load are abandoned. -/
def holdupStopped (s : State) : State :=
  let s1 := s.withFront { s.front with running := false, progress := Progress.empty }
  let s2 := discardBacklog (s1.withConv s1.conv.abandon)
  s2.withTariff { s2.tariff with load := none }

/-- The hold-up work with the code unit's volatile items reset. -/
def holdupReset (s : State) : State := overCode CodeUnit.volatileReset (cutKeySet (holdupStopped s))

theorem holdupWork_eq (s : State) : holdupWork s = savePeriod (supplyHoldup (holdupReset s)) := rfl

theorem savePeriod_desc (s : State) : (savePeriod s).profile.desc = s.profile.desc := by
  unfold savePeriod
  split <;> rfl

theorem holdupReset_touches (s : State) :
    OnlyTouches [.front, .conv, .energy, .tariff, .code, .freeCount] s (holdupReset s) := by
  simp [holdupReset, holdupStopped]

theorem holdupReset_load (s : State) : (holdupReset s).tariff.load = none := by
  have rest : OnlyTouches [.code, .freeCount] (holdupStopped s) (holdupReset s) := by simp [holdupReset]
  rw [rest.tariff_eq (by decide)]
  rfl

theorem SlipsFree.holdupWork {s : State} (h : SlipsFree s) : SlipsKept (holdupWork s) := by
  have touches := holdupWork_touches s
  have rest : OnlyTouches [.supply, .profile] (holdupReset s) (Machine.holdupWork s) := by simp [holdupWork_eq]
  have profile : (supplyHoldup (holdupReset s)).profile = s.profile :=
    Eq.trans (supplyHoldup_touches (holdupReset s) .profile (by decide)) (holdupReset_touches s .profile (by decide))
  refine (h.beside touches (by decide) (by decide) (by decide) ?_).kept ?_ ?_
  · rw [holdupWork_eq, savePeriod_desc, profile]
  · exact congrArg CodeUnit.decoder (rest .code (by decide))
  · exact (congrArg TariffUnit.load (rest.tariff_eq (by decide))).trans (holdupReset_load s)

theorem SlipsKept.beginHoldup {s : State} (h : SlipsKept s) (reason : EntryReason) : SlipsFree (beginHoldup reason s) :=
  .of_cleared rfl rfl rfl h.layout.2

theorem SlipsKept.loseMains {s : State} (h : SlipsKept s) (elapsed : Nat) (m : Means) :
    SlipsKept (loseMains elapsed m s) :=
  SlipsFree.holdupWork (iteInduction
    (fun _ => (h.beginHoldup _).stands (slipsStand_holds.closeFinalFrame _ _ _)) fun _ => h.beginHoldup _)

/-! ### WATCH, DARK and the start-up (R167 to R173) -/

/-- While the link port does not answer, nothing is in flight: power, pins and clock may move. -/
theorem SlipsKept.powered {bs : List Block} {s t : State} (h : SlipsKept s) (down : linkUp s = false)
    (touches : OnlyTouches bs s t)
    (m : ∀ b ∈ [Block.store, .link, .strip, .profile, .code, .tariff], b ∉ bs) : SlipsKept t := by
  obtain ⟨idle, none⟩ := h.down down
  have strip : t.strip = s.strip := touches .strip (m _ (by decide))
  have profile : t.profile = s.profile := touches .profile (m _ (by decide))
  have link : t.link = s.link := touches .link (m _ (by decide))
  have decoder : t.code.decoder = s.code.decoder := congrArg CodeUnit.decoder (touches .code (m _ (by decide)))
  have load : t.tariff.load = s.tariff.load := congrArg TariffUnit.load (touches.tariff_eq (m _ (by decide)))
  have bytes := touches.sameBytes (m _ (by decide)) fun _ => True
  exact ⟨layoutWell_of h.layout (by rw [strip]; exact h.layout.1) (by rw [profile]), link ▸ h.nodup, fun n =>
    (h.each n).congr (by rw [link]) (slipState_eq n (bytes _ trivial)) (decoderWorks_congr decoder n)
      (loadWorks_congr load n), fun _ => ⟨decoder.trans idle, load.trans none⟩⟩

theorem linkUp_false_of_stage {s : State} (early : s.power.stage.num < 2) : linkUp s = false := by
  simp [linkUp, Nat.not_le.mpr early]

theorem linkUp_false_of_state {s : State} (other : s.power.state ≠ .mains) : linkUp s = false := by
  simp [linkUp, other]

theorem beginStartUp_code (s : State) : (beginStartUp s).code = s.code.volatileReset := rfl

theorem beginStartUp_profile (s : State) : (beginStartUp s).profile = { s.profile with period := none } := rfl

theorem beginStartUp_tariff (s : State) : (beginStartUp s).tariff = s.tariff := rfl

theorem SlipsKept.beginStartUp {s : State} (h : SlipsKept s) (down : linkUp s = false) :
    SlipsKept (beginStartUp s) := by
  have free : SlipsFree (Machine.beginStartUp s) :=
    .of_cleared rfl rfl rfl (by rw [beginStartUp_profile]; exact h.layout.2)
  exact free.kept (by rw [beginStartUp_code]; rfl) (by rw [beginStartUp_tariff]; exact (h.down down).2)

theorem factoryState_profile (s : State) : (factoryState s).profile = Profile.factory := rfl

theorem factoryState_code (s : State) : (factoryState s).code = CodeUnit.factory := rfl

theorem factoryState_tariff (s : State) : (factoryState s).tariff = TariffUnit.factory := rfl

/-- Step 1 leaves the store, and its factory state holds no work and no profile (R170). -/
theorem SlipsKept.factoryState {s : State} (h : SlipsKept s) (down : linkUp s = false) :
    SlipsKept (factoryState s) := by
  obtain ⟨idle, none⟩ := h.down down
  have rest := factoryState_touches s
  have strip : (Machine.factoryState s).strip = s.strip := rest .strip (by decide)
  have link : (Machine.factoryState s).link = s.link := rest .link (by decide)
  have bytes := rest.sameBytes (by decide) fun _ => True
  have profile := factoryState_profile s
  have code := factoryState_code s
  have tariff := factoryState_tariff s
  generalize Machine.factoryState s = t at *
  have decoder : t.code.decoder = .idle := by rw [code]; rfl
  have load : t.tariff.load = .none := by rw [tariff]; rfl
  refine ⟨⟨by rw [strip]; exact h.layout.1, ?_⟩, by rw [link]; exact h.nodup, fun n => (h.each n).congr (by rw [link])
    (slipState_eq n (bytes _ trivial)) (iff_of_false (decoderWorks_idle decoder n) (decoderWorks_idle idle n))
    (iff_of_false (loadWorks_none load n) (loadWorks_none none n)), fun _ => ⟨decoder, load⟩⟩
  rw [profile]
  exact fun d found => by cases found

/-- Step 1 as what it judges and what it then sets. -/
theorem startStep1_judged (s : State) :
    OnlyTouches [.tamper, .power] (if retainedValid s.power then s else factoryState s) (startStep1 s) := by
  simp [startStep1, apply_ite (OnlyTouches _ _)]

theorem SlipsKept.startStep1 {s : State} (h : SlipsKept s) (early : s.power.stage.num < 2) :
    SlipsKept (startStep1 s) := by
  have judged : SlipsKept (if retainedValid s.power then s else Machine.factoryState s) :=
    iteInduction (fun _ => h) fun _ => h.factoryState (linkUp_false_of_stage early)
  have stage : (if retainedValid s.power then s else Machine.factoryState s).power.stage = s.power.stage :=
    iteInduction (motive := fun u : State => u.power.stage = s.power.stage) (fun _ => rfl) fun _ => rfl
  have still : linkUp (if retainedValid s.power then s else Machine.factoryState s) = false :=
    linkUp_false_of_stage (by rw [stage]; exact early)
  exact judged.powered still (startStep1_judged s) (by decide)

theorem SlipsKept.startStep2 {s : State} (h : SlipsKept s) (down : linkUp s = false) : SlipsKept (startStep2 s) := by
  obtain ⟨idle, none⟩ := h.down down
  have cleared := SlipsFree.of_cleared (s := (((overPower (fun p => { p with stage := .cleared }) s).withStore
    []).withLink Link.empty).withStrip ⟨0, 0⟩) rfl rfl rfl h.layout.2
  exact (cleared.kept idle none).stands (pageAll_slipsStand _)

theorem SlipsKept.nextStep {s : State} (h : SlipsKept s) : SlipsKept (nextStep s) := by
  unfold Machine.nextStep
  split
  · next stage => exact h.startStep1 (by rw [stage]; decide)
  · next stage => exact h.startStep2 (linkUp_false_of_stage (by rw [stage]; decide))
  · next stage => exact h.stands (slipsStand_holds.startStep3 (stage ▸ by decide))
  · next stage =>
    exact (h.stands (slipsStand_holds.startStep4 (stage ▸ by decide))).stands (slipsStand_holds.tryReverify _)
  · exact h.stands (slipsStand_holds.tryReverify s)
  · exact h

theorem SlipsKept.stepsTo (fuel upTo : Nat) {s : State} (h : SlipsKept s) : SlipsKept (stepsTo fuel upTo s) := by
  induction fuel generalizing s with
  | zero => exact h
  | succ fuel ih => exact iteInduction (fun _ => ih h.nextStep) fun _ => h

theorem SlipsKept.startUp (upTo : Nat) {s : State} (h : SlipsKept s) (down : linkUp s = false) :
    SlipsKept (startUp upTo s) := (h.beginStartUp down).stepsTo 4 upTo

theorem SlipsKept.enterWatch {s : State} (h : SlipsKept s) (down : linkUp s = false) : SlipsKept (enterWatch s) :=
  h.powered down (bs := [.power, .conv]) (by simp [Machine.enterWatch]) (by decide)

theorem SlipsKept.holdupEnds (upTo : Nat) {s : State} (h : SlipsKept s) (down : linkUp s = false) :
    SlipsKept (holdupEnds upTo s) := by
  have ended : SlipsStand s (if s.supply.coil.isSome then Machine.endPulse s else s) :=
    iteInduction (fun _ => slipsStand_holds.endPulse s) fun _ => slipsStand_holds.refl s
  have done := slipsStand_holds.trans ended
    (slipsStand_holds.power (x := { (if s.supply.coil.isSome then Machine.endPulse s else s).power with
      holdupDone := true }) (linkUp_withPower rfl rfl))
  have kept := h.stands done
  have still := done.up.trans down
  exact iteInduction (fun _ => kept.enterWatch still) fun _ => iteInduction (fun _ => kept.startUp upTo still)
    fun _ => kept

end Sys2Proof.Machine
end

section
/-! PROOF. Every step keeps the waiting list and the TAKEN slips' workers (R165, R178 to R180). -/

namespace Sys2Proof.Machine

/-! ### The keypad -/

theorem SlipsKept.submitLine {s : State} (h : SlipsKept s) (up : linkUp s = true) : SlipsKept (submitLine s) := by
  have held := slipsStand_holds.coded (fun u => { u with held := true }) (s := s) rfl
  refine iteInduction (fun free => ?_) fun _ =>
    h.stands (slipsStand_holds.trans held (slipsStand_holds.codedPage _ (by rfl)))
  exact (h.stands held).takeSubmission (held.up.trans up) (of_decide_eq_true free)

theorem SlipsKept.pressEnter {s : State} (h : SlipsKept s) (up : linkUp s = true) : SlipsKept (pressEnter s) := by
  have cleared : ∀ u, SlipsStand u (clearLine u) := fun u => slipsStand_holds.coded _ rfl
  exact iteInduction
    (fun _ => h.stands (slipsStand_holds.trans (slipsStand_holds.takeConfirm s)
      (slipsStand_holds.keypadOutcome _ _ _ _)))
    fun _ => iteInduction
      (fun _ => h.stands (slipsStand_holds.trans (slipsStand_holds.trans (slipsStand_holds.takeEmergency s) (cleared _))
        (slipsStand_holds.keypadOutcome _ _ _ _)))
      fun _ => iteInduction (fun _ => h.submitLine up)
        fun _ => h.stands (slipsStand_holds.trans (cleared s) (slipsStand_holds.keypadOutcome _ _ _ _))

theorem SlipsKept.pressKey (k : Key) {s : State} (h : SlipsKept s) (up : linkUp s = true) :
    SlipsKept (pressKey k s) := by
  cases k with
  | digit d =>
    exact h.stands (slipsStand_holds.coded
      (fun u => { u with line := if u.line.length < 20 then u.line ++ [d] else u.line }) rfl)
  | erase => exact h.stands (slipsStand_holds.coded (fun u => { u with line := u.line.dropLast }) rfl)
  | enter => exact h.pressEnter up

theorem SlipsKept.scanPress (k : Key) {s : State} (h : SlipsKept s) (up : linkUp s = true) :
    SlipsKept (scanPress k s) := by
  have ready := slipsStand_holds.trans (slipsStand_holds.trans
    (slipsStand_holds.coded (fun u => { u with keysDown := [k] }) (s := s) rfl) (slipsStand_holds.raise .keypad _))
    (slipsStand_holds.coded (fun u => { u with idle := 0 }) (by rfl))
  exact iteInduction (fun _ => h) fun _ => iteInduction
    (fun _ => ((h.stands ready).pressKey k (ready.up.trans up)).stands (slipsStand_holds.pageEntry _))
    fun _ => h.stands (slipsStand_holds.coded _ rfl)

/-! ### Transfers -/

theorem withDataOut_slipsStand (l : List Byte) (s : State) : SlipsStand s (withDataOut l s) :=
  (withDataOut_touches s l).slipsStand rfl

theorem SlipsKept.storeWrite (a : Nat) (l : List Byte) {s : State} (h : SlipsKept s) :
    SlipsKept (storeWrite a l s) := by
  have shifted := withDataOut_slipsStand [] s
  exact iteInduction (fun up => (h.stands shifted).hostBytes (shifted.up.trans up)) fun _ => h.stands shifted

theorem SlipsKept.postFilled (n : Fin 16) (kind : Byte) (args : List Byte) {s : State} (h : SlipsKept s) :
    SlipsKept (postFilled n kind args s) := by
  have shifted := withDataOut_slipsStand [] s
  have written : ∀ {a l u}, SlipsKept u ∧ linkUp u = true →
      SlipsKept (Machine.hostBytes a l u) ∧ linkUp (Machine.hostBytes a l u) = true := fun {a l u} ready =>
    ⟨ready.1.hostBytes ready.2, ((hostBytes_touches u a l).linkUp_eq (by decide)).trans ready.2⟩
  exact iteInduction (fun up => (written (written (written ⟨h.stands shifted, shifted.up.trans up⟩))).1)
    fun _ => h.stands shifted

theorem SlipsKept.regWrite (a : Nat) (l : List Byte) {s : State} (h : SlipsKept s) : SlipsKept (regWrite a l s) := by
  have shifted := withDataOut_slipsStand [] s
  have moved := h.stands shifted
  refine iteInduction (fun up => ?_) fun _ => moved
  have still := shifted.up.trans up
  split
  · exact moved.stands ((acknowledge_touches _ _).slipsStand (attnUpdate_waiting _))
  · exact moved.stands ((writeAconf_touches _ _).slipsStand (attnUpdate_waiting _))
  · have cleared : SlipsStand (withDataOut [] s) (if leNat (l.take 1) % 2 = 1 then
        clearCollisionFlag (withDataOut [] s) else withDataOut [] s) :=
      iteInduction (fun _ => (clearCollisionFlag_touches _).slipsStand (attnUpdate_waiting _))
        fun _ => slipsStand_holds.refl _
    exact iteInduction (fun _ => (moved.stands cleared).linkReset (cleared.up.trans still))
      fun _ => moved.stands cleared
  · exact moved

theorem regRead_slipsStand (a n : Nat) (s : State) : SlipsStand s (regRead a n s) := by
  refine (regRead_touches s a n).slipsStand ?_
  exact iteInduction (motive := fun t : State => t.link.waiting = s.link.waiting)
    (fun _ => iteInduction (motive := fun u : State => (withDataOut _ u).link.waiting = s.link.waiting)
      (fun _ => rfl) fun _ => rfl) fun _ => rfl

/-! ### Every command -/

theorem SlipsKept.exec (c : Instr) {s : State} (h : SlipsKept s) : ∃ t, exec c s = .next t ∧ SlipsKept t := by
  have works := slipsStand_holds
  have running : isRunning s = true → linkUp s = true := linkUp_of_isRunning
  have away : ∀ {x : PowerState}, s.power.state = x → x ≠ .mains → linkUp s = false := fun same other =>
    linkUp_false_of_state (same ▸ other)
  have pins : ∀ x, SlipsStand s (s.withPins x) := fun x => works.beside ((withPins_touches s x).mono (by decide))
  have pinned : ∀ x, SlipsKept (s.withPins x) := fun x => h.stands (pins x)
  have powered : ∀ {f : Power → Power} {u : State}, (f u.power).state = u.power.state →
      (f u.power).stage = u.power.stage → SlipsStand u (overPower f u) := fun state stage =>
    works.power (linkUp_withPower state stage)
  cases c with
  | frameClose m => exact ⟨_, rfl, h.stands (iteInduction (fun _ => works.closeFrame m s) fun _ => works.refl s)⟩
  | conversionComplete v =>
    refine ⟨_, rfl, ?_⟩
    split
    · exact h.stands (works.trans (works.beside ((withConv_touches s _).mono (by decide))) (works.tryReverify _))
    · next state =>
      exact h.powered (away state (by decide)) (watchConversion_touches s v) (by decide)
    · exact h
  | coilPulseEnd => exact ⟨_, rfl, h.stands (iteInduction (fun _ => works.endPulse s) fun _ => works.refl s)⟩
  | verifyWindowExpiry =>
    refine ⟨_, rfl, ?_⟩
    split
    · exact h.stands (iteInduction (fun _ => works.windowExpires _ s) fun _ => works.refl s)
    · exact h
  | retryTimerExpiry => exact ⟨_, rfl, h.stands (iteInduction (fun _ => works.enterOpening _ s) fun _ => works.refl s)⟩
  | secondTick => exact ⟨_, rfl, h.stands (iteInduction (fun _ => works.advanceClock s) fun _ => works.refl s)⟩
  | lockExpiry =>
    exact ⟨_, rfl, h.stands (iteInduction (fun _ => works.codedPage _ (by rfl)) fun _ => works.refl s)⟩
  | recloseWaitExpiry => exact ⟨_, rfl, h.stands (iteInduction (fun _ => works.endOverload s) fun _ => works.refl s)⟩
  | idleTimeout => exact ⟨_, rfl, h.stands (iteInduction (fun _ => works.idleExpires s) fun _ => works.refl s)⟩
  | testPulseHighExpiry =>
    exact ⟨_, rfl, h.stands (iteInduction (fun _ => works.metered _ s) fun _ => works.refl s)⟩
  | testPulseLowGapExpiry =>
    exact ⟨_, rfl, h.stands (iteInduction (fun _ => iteInduction (fun _ => works.beginTestPulse s)
      fun _ => works.metered _ s) fun _ => works.refl s)⟩
  | keyPress k =>
    refine ⟨_, rfl, iteInduction (fun scans => ?_) fun _ => pinned _⟩
    exact (pinned _).scanPress k ((pins _).up.trans (running (Bool.and_eq_true_iff.mp scans).1))
  | keyRelease k =>
    refine ⟨_, rfl, iteInduction (fun _ => ?_) fun _ => pinned _⟩
    exact (pinned _).stands (iteInduction (fun _ => works.coded _ (by rfl)) fun _ => works.refl _)
  | decodeCompletion =>
    refine ⟨_, rfl, ?_⟩
    split
    · next decoding => exact iteInduction (fun up => h.finishDecode (running up) decoding) fun _ => h
    · exact h
  | keySetCompletion =>
    refine ⟨_, rfl, ?_⟩
    split
    · next keying => exact iteInduction (fun up => h.finishKeySet (running up) keying) fun _ => h
    · exact h
  | tariffLoadCompletion =>
    refine ⟨_, rfl, ?_⟩
    split
    · next load =>
      refine iteInduction (fun up => (h.finishLoad (running up) load).drainLoads 16 ?_) fun _ => h
      exact ((finishLoad_touches s _).linkUp_eq (by decide)).trans (running up)
    · exact h
  | switchChange w x =>
    refine ⟨_, rfl, iteInduction (fun _ => h) fun _ => iteInduction (fun _ => ?_) fun _ => pinned _⟩
    have woken : SlipsStand (s.withPins (s.pins.turn w x)) (watchChange (s.withPins (s.pins.turn w x))) :=
      iteInduction (fun _ => works.trans (powered (by rfl) (by rfl)) (works.beside ((withConv_touches _ _).mono
        (by decide)))) fun _ => powered (by rfl) (by rfl)
    exact (pinned _).stands woken
  | switchEvent w => exact ⟨_, rfl, h.stands (iteInduction (fun _ => works.switchSettles w _ s) fun _ => works.refl s)⟩
  | holdTimerExpiry =>
    exact ⟨_, rfl, h.stands (iteInduction (fun _ => powered (by rfl) (by rfl)) fun _ => works.refl s)⟩
  | timedWake =>
    exact ⟨_, rfl, h.stands (iteInduction (fun _ => works.trans (powered (by rfl) (by rfl))
      (works.beside ((withConv_touches _ _).mono (by decide)))) fun _ => works.refl s)⟩
  | mainsLoss elapsed m =>
    refine ⟨_, rfl, ?_⟩
    split
    · exact (pinned _).loseMains elapsed m
    · next state =>
      exact iteInduction (fun _ => (pinned _).enterWatch ((pins _).up.trans (away state (by decide)))) fun _ => pinned _
    · exact pinned _
    · exact pinned _
  | resetnLow =>
    exact ⟨_, rfl, iteInduction (fun _ => ((pinned _).beginHoldup _).holdupWork) fun _ => pinned _⟩
  | holdupCompletion upTo =>
    exact ⟨_, rfl, iteInduction (fun due => h.holdupEnds _ (away due.1 (by decide))) fun _ => h⟩
  | resetnRelease upTo =>
    exact ⟨_, rfl, iteInduction
      (fun due => (pinned _).startUp _ ((pins _).up.trans (away due.1 (by decide)))) fun _ => pinned _⟩
  | mainsReturn upTo =>
    have clocked : SlipsStand s (powerClock (s.withPins { s.pins with mains := true })) :=
      works.trans (pins _) (works.beside ((powerClock_touches _).mono (by decide)))
    have kept := h.stands clocked
    refine ⟨_, rfl, iteInduction (fun absent => ?_) fun _ => kept⟩
    have down := clocked.up.trans (linkUp_false_of_state (s := s) fun mains => by simp [mains] at absent)
    exact iteInduction (fun _ => kept.startUp _ down) fun _ =>
      kept.powered down (bs := [.power, .conv]) (by simp [holdInReset]) (by decide)
  | reVerification =>
    exact ⟨_, rfl, iteInduction (fun _ => (h.stepsTo 4 4).stands (works.tryReverify _)) fun _ => h⟩
  | storeRead a r => exact ⟨_, rfl, h.stands (withDataOut_slipsStand _ s)⟩
  | storeWrite a l => exact ⟨_, rfl, h.storeWrite _ l⟩
  | topup n l => exact ⟨_, rfl, h.postFilled n _ _⟩
  | keySet n k => exact ⟨_, rfl, h.postFilled n _ _⟩
  | tariffLoad n o => exact ⟨_, rfl, h.postFilled n _ _⟩
  | clockSet n x => exact ⟨_, rfl, h.postFilled n _ _⟩
  | supplyOrderOpen n => exact ⟨_, rfl, h.postFilled n _ _⟩
  | supplyOrderRelease n => exact ⟨_, rfl, h.postFilled n _ _⟩
  | settingsWrite n o => exact ⟨_, rfl, h.postFilled n _ _⟩
  | settingsFetch n o => exact ⟨_, rfl, h.postFilled n _ _⟩
  | profileSetup n o c d r => exact ⟨_, rfl, h.postFilled n _ _⟩
  | capture n => exact ⟨_, rfl, h.postFilled n _ _⟩
  | slipKindUnknown n k => exact ⟨_, rfl, h.postFilled n _ _⟩
  | apendRead r => exact ⟨_, rfl, h.stands (regRead_slipsStand _ _ s)⟩
  | aackWrite l => exact ⟨_, rfl, h.regWrite _ l⟩
  | aconfWrite l => exact ⟨_, rfl, h.regWrite _ l⟩
  | clearCollision => exact ⟨_, rfl, h.regWrite _ _⟩
  | linkReset b => exact ⟨_, rfl, h.regWrite _ _⟩
  | regWriteIgnored a l => exact ⟨_, rfl, h.regWrite _ l⟩
  | operationIgnored o n => exact ⟨_, rfl, h.stands (withDataOut_slipsStand _ s)⟩
  | attnPulseEnd =>
    exact ⟨_, rfl, h.stands (iteInduction (fun _ => (withLink_touches s _).slipsStand rfl) fun _ => works.refl s)⟩
  | batteryRemoved =>
    exact ⟨_, rfl, h.stands (iteInduction (fun _ => works.trans (pins _) (works.trans (works.trans (works.clocked _ _)
      (powered (by rfl) (by rfl))) (works.beside ((withTamper_touches _ _).mono (by decide))))) fun _ => pins _)⟩
  | batteryFitted =>
    have fitted : SlipsStand s (overPower (fun p => { p with fitted := true })
        (s.withPins { s.pins with battery := true })) :=
      works.trans (pins _) (powered (by rfl) (by rfl))
    exact ⟨_, rfl, h.stands (iteInduction (fun _ => works.trans fitted (works.trans (works.clocked _ _)
      (powered (by rfl) (by rfl)))) fun _ => fitted)⟩

theorem SlipsKept.step {s t : State} (h : SlipsKept s) (run : step s = .next t) : SlipsKept t := by
  cases pending : s.pending with
  | nil =>
    rw [step_of_idle pending] at run
    cases run
    exact iteInduction (fun _ => h.nextStep) fun _ => h
  | cons c rest =>
    rw [step_of_pending pending] at run
    obtain ⟨u, commanded, kept⟩ := (h.stands (slipsStand_holds.beside ((withPending_touches s rest).mono
      (by decide)))).exec c
    obtain rfl : u = t := by simpa [commanded] using run
    exact kept

/-- Settles O52: every work leaves the slips, or moves one from its FREE state to its next rightful place. -/
theorem slipsAreWorkedByExactlyOneBlock : Obligations.SlipsAreWorkedByExactlyOneBlock := by
  unfold Obligations.SlipsAreWorkedByExactlyOneBlock
  intro s t run layout well
  exact ((slipsKept_iff t).mp (((slipsKept_iff s).mpr ⟨layout, well⟩).step run)).2

end Sys2Proof.Machine
end

section
/-! PROOF. The rows of R164 that begin no start-up (R164, R167, R174). -/

namespace Sys2Proof.Machine

theorem exec_holdupCompletion (k : Fin 5) {s : State} (holdup : s.power.state = .holdup)
    (due : s.power.holdupDone = false) : exec (.holdupCompletion k) s = .next (holdupEnds k.val s) := by
  simp [exec, execHoldupCompletion, holdup, due]

/-- The hold-up work's end, with the pulse that still ran ended (R126, R165). -/
def holdupPulsed (s : State) : State := if s.supply.coil.isSome then endPulse s else s

/-- Hold-up completion reached (R165). -/
def holdupReached (s : State) : State := overPower (fun p => { p with holdupDone := true }) (holdupPulsed s)

theorem holdupEnds_eq (upTo : Nat) (s : State) : holdupEnds upTo s =
    (if (holdupReached s).pins.mains = false then enterWatch (holdupReached s)
     else if (holdupReached s).pins.resetnHigh then startUp upTo (holdupReached s) else holdupReached s) := rfl

theorem holdupPulsed_of_none {s : State} (none : s.supply.coil = none) : holdupPulsed s = s := by
  simp [holdupPulsed, none]

section
variable {s : State} (holdup : s.power.state = .holdup)
include holdup

theorem holdupPulsed_eq {d : Direction} (runs : s.supply.coil = some d) :
    holdupPulsed s = markUnverified (overSupply (fun p => { p with coil := none }) s) := by
  simp [holdupPulsed, runs, endPulse, holdup]

theorem holdupPulsed_touches : OnlyTouches [.supply] s (holdupPulsed s) := by
  cases coil : s.supply.coil with
  | none => rw [holdupPulsed_of_none coil]; exact .refl _ s
  | some d => rw [holdupPulsed_eq holdup coil]; simp [markUnverified]

theorem holdupPulsed_coil : (holdupPulsed s).supply.coil = none := by
  cases coil : s.supply.coil with
  | none => rw [holdupPulsed_of_none coil, coil]
  | some d => rw [holdupPulsed_eq holdup coil]; rfl

theorem holdupPulsed_abandons (runs : s.supply.coil ≠ none) : (holdupPulsed s).supply.attempt = none ∧
    (holdupPulsed s).supply.unverified = decide (s.supply.machine = .opening ∨ s.supply.machine = .closing) := by
  obtain ⟨d, coil⟩ := Option.ne_none_iff_exists'.mp runs
  rw [holdupPulsed_eq holdup coil]
  exact ⟨rfl, rfl⟩

theorem holdupReached_power : (holdupReached s).power = { s.power with holdupDone := true } :=
  congrArg (fun p : Power => { p with holdupDone := true }) ((holdupPulsed_touches holdup).power_eq (by decide))

theorem holdupReached_pins : (holdupReached s).pins = s.pins := holdupPulsed_touches holdup .pins (by decide)

end

theorem powerClock_clock (s : State) : (powerClock s).clock =
    if s.power.state = .dark ∨ s.clock.running = false then s.clock.restart else s.clock := by
  unfold powerClock
  split <;> rfl

/-- Settles O46: each row runs to its state, the pulse ended first. -/
theorem powerTableWithoutStartUp : Obligations.PowerTableWithoutStartUp := by
  unfold Obligations.PowerTableWithoutStartUp
  refine ⟨?_, ?_, ?_, ?_⟩
  · intro k s holdup due absent
    have reached : holdupEnds k.val s = enterWatch (holdupReached s) := by
      rw [holdupEnds_eq, holdupReached_pins holdup, if_pos absent]
    have settings : (holdupReached s).settings = s.settings := holdupPulsed_touches holdup .settings (by decide)
    refine ⟨_, (exec_holdupCompletion k holdup due).trans (congrArg _ reached), rfl, rfl, ?_, rfl,
      holdupPulsed_coil holdup, holdupPulsed_abandons holdup, fun none => ?_⟩
    · rw [← settings]
      rfl
    · have supply : (holdupPulsed s).supply = s.supply := congrArg State.supply (holdupPulsed_of_none none)
      exact supply
  · intro k s holdup due present low
    have waits : holdupEnds k.val s = holdupReached s := by
      rw [holdupEnds_eq, holdupReached_pins holdup, if_neg (by simp [present]), if_neg (by simp [low])]
    exact ⟨_, (exec_holdupCompletion k holdup due).trans (congrArg _ waits), holdupReached_power holdup,
      holdupPulsed_coil holdup⟩
  · intro elapsed m s holdup done present
    refine ⟨enterWatch (s.withPins { s.pins with mains := false }), ?_, rfl, rfl, rfl, rfl⟩
    simp [exec, execMainsLoss, holdup, done, present]
  · intro k s away low
    have run : exec (.mainsReturn k) s =
        .next (holdInReset (powerClock (s.withPins { s.pins with mains := true }))) := by
      simp [exec, execMainsReturn, away, low]
    have pins : (powerClock (s.withPins { s.pins with mains := true })).pins = { s.pins with mains := true } :=
      powerClock_touches (s.withPins { s.pins with mains := true }) .pins (by decide)
    have rest : OnlyTouches [.pins, .clock, .power, .conv] s
        (holdInReset (powerClock (s.withPins { s.pins with mains := true }))) := by simp [holdInReset]
    have clock : (holdInReset (powerClock (s.withPins { s.pins with mains := true }))).clock =
        if s.power.state = .dark ∨ s.clock.running = false then s.clock.restart else s.clock :=
      powerClock_clock (s.withPins { s.pins with mains := true })
    refine ⟨_, run, rfl, rfl, congrArg Pins.mains pins, rfl, rest.supply_eq (by decide), rest.credit_eq (by decide),
      fun watch runs => ?_, fun restarts => ?_⟩
    · rw [clock, if_neg (by simp [watch, runs])]
    · rw [clock, if_pos restarts]
      rfl

end Sys2Proof.Machine
end

section
/-! SUPPORT. The supply controller while the part does not run: its causes move and it does not act (R112, R126,
R172). -/

namespace Sys2Proof.Machine

/-- The causes CREDIT and TAMPER of the second set in the first, whose others stand. -/
def Causes.rebuilt (c d : Causes) : Causes := { c with credit := d.credit, tamper := d.tamper }

/-- While the part does not run, the work moves CREDIT and TAMPER in the cause set, and nothing else of the supply
controller. -/
def SupplyRests (s t : State) : Prop :=
  isRunning s = false → isRunning t = false ∧
    t.supply = { s.supply with causes := s.supply.causes.rebuilt t.supply.causes }

theorem SupplyRests.trans {s t u : State} (h : SupplyRests s t) (g : SupplyRests t u) : SupplyRests s u :=
    fun stopped => by
  obtain ⟨tstopped, tsupply⟩ := h stopped
  obtain ⟨ustopped, usupply⟩ := g tstopped
  refine ⟨ustopped, ?_⟩
  rw [usupply, tsupply]
  rfl

theorem SupplyRests.of {s t : State} (supply : t.supply = s.supply) (runs : isRunning t = isRunning s) :
    SupplyRests s t := fun stopped => ⟨runs.trans stopped, by rw [supply]; rfl⟩

theorem OnlyTouches.supplyRests {bs : List Block} {s t : State} (h : OnlyTouches bs s t) (supply : Block.supply ∉ bs)
    (power : Block.power ∉ bs) : SupplyRests s t := .of (h.supply_eq supply) (h.isRunning_eq power)

/-- A cause placed or removed, while the machine does not act. -/
def causePut (k : Cause) (b : Bool) (s : State) : State :=
  pageSupply (overSupply (fun p => { p with causes := p.causes.put k b }) s)

theorem causePut_touches (k : Cause) (b : Bool) (s : State) : OnlyTouches [.store, .supply] s (causePut k b s) := by
  simp [causePut]

theorem setCause_stopped (k : Cause) (b : Bool) {s : State} (stopped : isRunning s = false) :
    setCause k b s = if s.supply.causes.has k = b then s else causePut k b s := by
  have still : isRunning (causePut k b s) = false :=
    ((causePut_touches k b s).isRunning_eq (by decide)).trans stopped
  exact ite_congr rfl (fun _ => rfl) fun _ => if_neg (by rw [← causePut, still]; decide)

theorem setCause_stopped_touches (k : Cause) (b : Bool) {s : State} (stopped : isRunning s = false) :
    OnlyTouches [.store, .supply] s (setCause k b s) := by
  rw [setCause_stopped k b stopped]
  split
  · exact .refl _ s
  · exact causePut_touches k b s

theorem setCause_rests {k : Cause} (moved : k = .credit ∨ k = .tamper) (b : Bool) (s : State) :
    SupplyRests s (setCause k b s) := fun stopped => by
  have put : ∀ c : Causes, c.put k b = c.rebuilt (c.put k b) := fun c => by
    rcases moved with rfl | rfl <;> rfl
  have placed : (causePut k b s).supply = { s.supply with causes := s.supply.causes.put k b } :=
    pageSupply_touches _ .supply (by decide)
  refine ⟨((setCause_stopped_touches k b stopped).isRunning_eq (by decide)).trans stopped, ?_⟩
  rw [setCause_causes, ← put, setCause_stopped k b stopped]
  split
  · next same => rw [Causes.put_of_has same]
  · exact placed

/-- The evaluation's findings and reports, before the cause. -/
theorem evaluateCredit_reported (x : CreditTrigger) (s : State) :
    ∃ u, OnlyTouches [.store, .credit, .link, .strip] s u ∧
      (evaluateCredit x s = u ∨ ∃ b, evaluateCredit x s = setCause .credit b u) := by
  have found : OnlyTouches [.store, .credit, .link, .strip] s
      (pageCredit (s.withCredit (s.credit.evaluated s.settings s.clock))) := by simp
  have told : OnlyTouches [.store, .credit, .link, .strip] s (raise .credit (creditStateNotice s.credit.state x
      (pageCredit (s.withCredit (s.credit.evaluated s.settings s.clock))))) := by simp
  unfold evaluateCredit
  dsimp only
  split
  · exact ⟨_, found, .inl rfl⟩
  · split
    · exact ⟨_, told, .inr ⟨_, rfl⟩⟩
    · split
      · exact ⟨_, told, .inr ⟨_, rfl⟩⟩
      · exact ⟨_, told, .inl rfl⟩

theorem evaluateCredit_stopped (x : CreditTrigger) {s : State} (stopped : isRunning s = false) :
    OnlyTouches [.store, .credit, .supply, .link, .strip] s (evaluateCredit x s) := by
  obtain ⟨u, touches, same | ⟨b, set⟩⟩ := evaluateCredit_reported x s
  · exact same ▸ touches.mono (by decide)
  · have still := (touches.isRunning_eq (by decide)).trans stopped
    exact set ▸ (touches.mono (by decide)).trans ((setCause_stopped_touches .credit b still).mono (by decide))

theorem evaluateCredit_rests (x : CreditTrigger) (s : State) : SupplyRests s (evaluateCredit x s) := by
  obtain ⟨u, touches, same | ⟨b, set⟩⟩ := evaluateCredit_reported x s
  · exact same ▸ touches.supplyRests (by decide) (by decide)
  · exact set ▸ (touches.supplyRests (by decide) (by decide)).trans (setCause_rests (.inl rfl) b u)

end Sys2Proof.Machine
end

section
/-! SUPPORT. The first steps of a start-up: the state each leaves (R164, R170, R171, R173). -/

namespace Sys2Proof.Machine

/-- The first four steps of a start-up, after as many as the number says. -/
def startStep : Nat → State → State
  | 0 => startStep1
  | 1 => startStep2
  | 2 => startStep3
  | _ => startStep4

/-- A start-up with the first of its steps done, over the state it begins in. -/
def startedTo (s : State) : Nat → State
  | 0 => beginStartUp s
  | k + 1 => startStep k (startedTo s k)

/-! ### The power logic -/

theorem startStep2_power (s : State) : (startStep2 s).power = { s.power with stage := .cleared } :=
  (pageAll_touches _).power_eq (by decide)

theorem startStep3_power (s : State) :
    (startStep3 s).power = { s.power with events := [], overflow := 0, stage := .replayed } := by
  have resumed : (resumePeriods (startTold s)).power = { s.power with events := [], overflow := 0 } :=
    ((resumePeriods_touches _).power_eq (by decide)).trans (startTold_power s)
  rw [startStep3_eq]
  exact congrArg (fun p : Power => { p with stage := .replayed }) resumed

/-- Step 4 to the rebuilt cause set. -/
def startRebuilt (s : State) : State := setCause .tamper (disconnects s.tamper.records) (startCredit s)

theorem startStep4_eq (s : State) :
    startStep4 s = pageSwitches (overPower (fun p => { p with stage := .recomputed }) (startRebuilt s)) := rfl

theorem startRebuilt_touches (s : State) :
    OnlyTouches [.store, .conv, .credit, .supply, .link, .strip, .profile] s (startRebuilt s) := by
  simp [startRebuilt]

theorem startStep4_rest (s : State) : OnlyTouches [.store, .power] (startRebuilt s) (startStep4 s) := by
  simp [startStep4_eq]

theorem startStep4_power (s : State) : (startStep4 s).power = { s.power with stage := .recomputed } := by
  rw [startStep4_eq, (pageSwitches_touches _).power_eq (by decide)]
  exact congrArg (fun p : Power => { p with stage := .recomputed }) ((startRebuilt_touches s).power_eq (by decide))

/-- Step 1's judgement: retained memory as it stands, or factory state (R170). -/
def startJudged (s : State) : State := if retainedValid s.power then s else factoryState s

/-- Step 1 to the settled positions (R145). -/
def startSettled (s : State) : State :=
  if !s.power.continuity || !retainedValid s.power then settleFromRecords (startJudged s) else startJudged s

theorem startStep1_eq (s : State) : startStep1 s = overPower (fun p =>
    { p with stage := .checked, continuity := true, darkSinceMark := false, formatMark := true, checkOk := true,
             startFactory := !retainedValid s.power, startMarkAbsent := !s.power.continuity,
             startDark := if p.darkSinceMark then p.dark else none }) (startSettled s) := rfl

theorem startJudged_valid {s : State} (valid : retainedValid s.power = true) : startJudged s = s := if_pos valid

theorem startJudged_factory {s : State} (broken : retainedValid s.power = false) : startJudged s = factoryState s :=
  if_neg (by rw [broken]; decide)

theorem startSettled_touches (s : State) : OnlyTouches [.tamper] (startJudged s) (startSettled s) := by
  unfold startSettled
  split
  · exact settleFromRecords_touches _
  · exact .refl _ _

theorem startSettled_tamper (s : State) : (startSettled s).tamper.records = (startJudged s).tamper.records ∧
    (startSettled s).tamper.windows = (startJudged s).tamper.windows := by
  unfold startSettled
  split <;> exact ⟨rfl, rfl⟩

theorem startStep1_rest (s : State) : OnlyTouches [.power] (startSettled s) (startStep1 s) := by
  simp [startStep1_eq]

theorem startStep1_beside (s : State) : OnlyTouches [.tamper, .power] (startJudged s) (startStep1 s) :=
  ((startSettled_touches s).mono (by decide)).trans ((startStep1_rest s).mono (by decide))

/-- The power record as step 1 judges it. -/
def Power.retained (p : Power) : Power :=
  if retainedValid p then p else { p with loss := none, dark := none, events := [], overflow := 0 }

theorem startStep1_power (s : State) : (startStep1 s).power = { s.power.retained with
    stage := .checked, continuity := true, darkSinceMark := false, formatMark := true, checkOk := true,
    startFactory := !retainedValid s.power, startMarkAbsent := !s.power.continuity,
    startDark := if s.power.darkSinceMark then s.power.retained.dark else none } := by
  have judged : (startSettled s).power = s.power.retained := by
    rw [(startSettled_touches s).power_eq (by decide)]
    unfold startJudged Power.retained
    split <;> rfl
  have mark : s.power.retained.darkSinceMark = s.power.darkSinceMark := by
    unfold Power.retained
    split <;> rfl
  rw [startStep1_eq, ← mark, ← judged]
  rfl

/-! ### Step 4, while the part does not run -/

section
variable {s : State} (stopped : isRunning s = false)
include stopped

theorem startRebuilt_stopped : OnlyTouches [.store, .credit, .supply, .link, .strip] s (startRebuilt s) := by
  have evaluated := evaluateCredit_stopped .start stopped
  have still := (evaluated.isRunning_eq (by decide)).trans stopped
  have credited : OnlyTouches [.store, .credit, .supply, .link, .strip] s (startCredit s) :=
    evaluated.trans ((setCause_stopped_touches _ _ still).mono (by decide))
  exact credited.trans ((setCause_stopped_touches _ _ ((credited.isRunning_eq (by decide)).trans stopped)).mono
    (by decide))

theorem startStep4_stopped : OnlyTouches [.store, .credit, .supply, .link, .strip, .power] s (startStep4 s) :=
  ((startRebuilt_stopped stopped).mono (by decide)).trans ((startStep4_rest s).mono (by decide))

/-- The cause set rebuilt (R83, R127, R173). -/
theorem startStep4_supply : (startStep4 s).supply = { s.supply with causes := { s.supply.causes with
    credit := decide ((s.credit.evaluated s.settings s.clock).state = .exhausted)
    tamper := disconnects s.tamper.records } } := by
  obtain ⟨-, rests⟩ := ((evaluateCredit_rests .start s).trans (setCause_rests (.inl rfl) _ _)).trans
    (setCause_rests (.inr rfl) (disconnects s.tamper.records) (startCredit s)) stopped
  have causes : (startRebuilt s).supply.causes = ((evaluateCredit .start s).supply.causes.put .credit
      (decide ((s.credit.evaluated s.settings s.clock).state = .exhausted))).put .tamper
        (disconnects s.tamper.records) := by
    rw [startRebuilt, setCause_causes, startCredit, setCause_causes, evaluateCredit_credit]
  rw [(startStep4_rest s).supply_eq (by decide)]
  refine rests.trans ?_
  rw [← startRebuilt, causes]
  rfl

end

theorem startStep4_credit : (startStep4 s).credit = s.credit.evaluated s.settings s.clock := by
  have caused : ∀ k b u, (setCause k b u).credit = u.credit := fun k b u =>
    (setCause_touches u k b).credit_eq (by decide)
  rw [(startStep4_rest s).credit_eq (by decide), startRebuilt, startCredit, caused, caused, evaluateCredit_credit]

/-! ### The steps run -/

theorem Stage.num_ne_running {x : Stage} (early : x.num ≤ 4) : x ≠ .running := by
  rintro rfl
  exact absurd early (by decide)

theorem isRunning_early {s : State} (early : s.power.stage.num ≤ 4) : isRunning s = false := by
  simp [isRunning, Stage.num_ne_running early]

/-- The stage after the first steps. -/
def stageAfter : Nat → Stage
  | 0 => .begun
  | 1 => .checked
  | 2 => .cleared
  | 3 => .replayed
  | _ => .recomputed

theorem startStep_state (k : Nat) (s : State) : (startStep k s).power.state = s.power.state := by
  match k with
  | 0 =>
    rw [startStep, startStep1_power]
    unfold Power.retained
    split <;> rfl
  | 1 => rw [startStep, startStep2_power]
  | 2 => rw [startStep, startStep3_power]
  | _ + 3 =>
    change (startStep4 s).power.state = _
    rw [startStep4_power]

theorem startStep_stage (k : Nat) (s : State) : (startStep k s).power.stage = stageAfter (k + 1) := by
  match k with
  | 0 => rw [startStep, startStep1_power]; rfl
  | 1 => rw [startStep, startStep2_power]; rfl
  | 2 => rw [startStep, startStep3_power]; rfl
  | _ + 3 => exact congrArg Power.stage (startStep4_power s)

theorem startedTo_state (s : State) (k : Nat) : (startedTo s k).power.state = .mains := by
  induction k with
  | zero => rfl
  | succ k ih => exact (startStep_state k _).trans ih

theorem startedTo_stage (s : State) (k : Nat) : (startedTo s k).power.stage = stageAfter k := by
  cases k with
  | zero => rfl
  | succ k => exact startStep_stage k _

theorem stageAfter_num {k : Nat} (small : k ≤ 4) : (stageAfter k).num = k := by
  match k, small with
  | 0, _ | 1, _ | 2, _ | 3, _ | 4, _ => rfl

theorem stageAfter_num_le (k : Nat) : (stageAfter k).num ≤ 4 := by
  unfold stageAfter
  split <;> decide

theorem startedTo_stopped (s : State) (k : Nat) : isRunning (startedTo s k) = false :=
  isRunning_early (by rw [startedTo_stage]; exact stageAfter_num_le k)

/-- From step 1 on, no step moves the measurement, the metering, the code unit, the tamper watch or the settings. -/
theorem startStep_later {k : Nat} (checked : 1 ≤ k) {s : State} (stopped : isRunning s = false) :
    OnlyTouches [.store, .credit, .supply, .link, .strip, .profile, .power] s (startStep k s) := by
  match k, checked with
  | 1, _ => exact (startStep2_touches s).mono (by decide)
  | 2, _ => exact (startStep3_touches s).mono (by decide)
  | _ + 3, _ => exact (startStep4_stopped stopped).mono (by decide)

theorem startedTo_later (s : State) (k : Nat) :
    OnlyTouches [.store, .credit, .supply, .link, .strip, .profile, .power] (startedTo s 1) (startedTo s (k + 1)) := by
  induction k with
  | zero => exact .refl _ _
  | succ k ih => exact ih.trans (startStep_later (Nat.succ_pos k) (startedTo_stopped s _))

theorem startedTo_conv (s : State) (k : Nat) : (startedTo s k).conv = Converter.startUp := by
  cases k with
  | zero => rfl
  | succ k =>
    have later : (startedTo s (k + 1)).conv = (startedTo s 1).conv := startedTo_later s k .conv (by decide)
    have checked : (startedTo s 1).conv = (startJudged (beginStartUp s)).conv :=
      startStep1_beside (beginStartUp s) .conv (by decide)
    have judged : (startJudged (beginStartUp s)).conv = Converter.startUp := by
      unfold startJudged
      split <;> rfl
    rw [later, checked, judged]

theorem nextStep_startStep {k : Nat} {s : State} (more : k < 4) (stage : s.power.stage = stageAfter k)
    (conv : (startStep k s).conv = Converter.startUp) : nextStep s = startStep k s := by
  obtain rfl | rfl | rfl | rfl : k = 0 ∨ k = 1 ∨ k = 2 ∨ k = 3 := by omega
  · simp only [nextStep, stage, stageAfter, startStep]
  · simp only [nextStep, stage, stageAfter, startStep]
  · simp only [nextStep, stage, stageAfter, startStep]
  · have empty : (startStep4 s).conv.loadV.value = none := by
      rw [show (startStep4 s).conv = Converter.startUp from conv]
      rfl
    simp only [nextStep, stage, stageAfter, startStep]
    exact tryReverify_waits (.inl empty)

theorem nextStep_startedTo (s : State) {k : Nat} (more : k < 4) : nextStep (startedTo s k) = startedTo s (k + 1) :=
  nextStep_startStep more (startedTo_stage s k) (startedTo_conv s (k + 1))

theorem stepsTo_startedTo (s : State) {k : Nat} (small : k ≤ 4) (fuel j : Nat) (done : j ≤ k) (enough : k ≤ j + fuel) :
    stepsTo fuel k (startedTo s j) = startedTo s k := by
  induction fuel generalizing j with
  | zero => rw [Nat.le_antisymm done enough]; rfl
  | succ fuel ih =>
    unfold stepsTo
    rw [startedTo_stage, stageAfter_num (Nat.le_trans done small)]
    split
    · next more =>
      rw [nextStep_startedTo s (Nat.lt_of_lt_of_le more small)]
      exact ih (j + 1) more (by omega)
    · next last => rw [Nat.le_antisymm done (Nat.not_lt.mp last)]

theorem startUp_startedTo (k : Fin 5) (s : State) : startUp k.val s = startedTo s k.val :=
  stepsTo_startedTo s (Nat.le_of_lt_succ k.isLt) 4 0 (Nat.zero_le _) (by omega)

end Sys2Proof.Machine
end

section
/-! SUPPORT. A start-up over what it finds: retained memory, or factory state (R18, R164, R170). -/

namespace Sys2Proof.Machine

/-- A command that begins a start-up in its state, by the table of R164. -/
def StartUpBegins (c : Instr) (k : Fin 5) (s : State) : Prop :=
  c = .mainsReturn k ∧ (s.power.state = .watch ∨ s.power.state = .dark) ∧ s.pins.resetnHigh = true ∨
  c = .resetnRelease k ∧ s.power.state = .holdup ∧ s.power.holdupDone = true ∧ s.pins.mains = true ∧
    s.pins.resetnHigh = false ∨
  c = .holdupCompletion k ∧ s.power.state = .holdup ∧ s.power.holdupDone = false ∧ s.pins.mains = true ∧
    s.pins.resetnHigh = true ∧ s.supply.coil = none

/-- The state a start-up begins in: the pins moved, and the clock restarted at a return of mains where it had stood
(R40, R164). -/
structure BeginsIn (c : Instr) (k : Fin 5) (s u : State) : Prop where
  touches : OnlyTouches [.pins, .clock, .power] s u
  power : u.power = { s.power with holdupDone := u.power.holdupDone }
  clock : u.clock = if c = .mainsReturn k ∧ (s.power.state = .dark ∨ s.clock.running = false)
    then s.clock.restart else s.clock

theorem exec_startUp {c : Instr} {k : Fin 5} {s : State} (begins : StartUpBegins c k s) :
    ∃ u, exec c s = .next (startedTo u k.val) ∧ BeginsIn c k s u := by
  simp only [← startUp_startedTo]
  rcases begins with ⟨rfl, away, high⟩ | ⟨rfl, holdup, done, present, low⟩ | ⟨rfl, holdup, due, present, high, coil⟩
  · refine ⟨powerClock (s.withPins { s.pins with mains := true }), ?_, by simp, ?_, ?_⟩
    · simp [exec, execMainsReturn, away, high]
    · rw [(powerClock_touches _).power_eq (by decide)]
      rfl
    · rw [powerClock_clock]
      simp
      rfl
  · refine ⟨s.withPins { s.pins with resetnHigh := true }, ?_, by simp, rfl, by simp⟩
    simp [exec, execResetnRelease, holdup, done, present, low]
  · have reached : holdupReached s = overPower (fun p => { p with holdupDone := true }) s := by
      rw [holdupReached, holdupPulsed_of_none coil]
    refine ⟨holdupReached s, ?_, by simp [reached], by rw [reached]; rfl, by rw [reached]; simp [overPower]⟩
    rw [exec_holdupCompletion k holdup due, holdupEnds_eq, holdupReached_pins holdup, if_neg (by simp [present]),
      if_pos high]

/-! ### What the start-up finds -/

/-- What a start-up that begins in `s` works on: the volatile items reset, and retained memory or factory state. -/
def startFound (s : State) : State := startJudged (beginStartUp s)

theorem startFound_valid {s : State} (valid : retainedValid s.power = true) : startFound s = beginStartUp s :=
  startJudged_valid valid

theorem startFound_factory {s : State} (broken : retainedValid s.power = false) :
    startFound s = factoryState (beginStartUp s) := startJudged_factory broken

theorem factoryState_settings (s : State) : (factoryState s).settings = Settings.default := rfl

theorem factoryState_credit (s : State) : (factoryState s).credit = Credit.factory := rfl

theorem factoryState_supply (s : State) : (factoryState s).supply = Supply.factory := rfl

theorem factoryState_tamper (s : State) :
    (factoryState s).tamper = { s.tamper with records := TamperRecords.factory } := rfl

theorem startFound_front (s : State) : (startFound s).front = FrontEnd.startUp := by
  unfold startFound startJudged
  split
  · rfl
  · rw [(factoryState_touches _ .front (by decide) : (factoryState _).front = _)]
    rfl

theorem startFound_windows (s : State) : (startFound s).tamper.windows = Windows.empty := by
  unfold startFound startJudged
  split <;> rfl

theorem startFound_overCount (s : State) : (startFound s).supply.overCount = 0 := by
  unfold startFound startJudged
  split <;> rfl

/-- The clock as step 1 finds it: running on, the announced day forgotten with retained memory (R42, R170). -/
theorem startFound_clock (s : State) : (startFound s).clock =
    { s.clock with announced := (startFound s).clock.announced } := by
  unfold startFound startJudged
  split
  · rfl
  · rw [factoryState_clock]
    rfl

/-! ### What the steps leave -/

/-- The cause set once step 4 has rebuilt it. -/
def Causes.started (c : Causes) (credit : Credit) (r : TamperRecords) : Causes :=
  { c with credit := decide (credit.state = .exhausted), tamper := disconnects r }

/-- From what the start-up found to its state with `k` steps done. -/
structure StartedOver (f t : State) (k : Nat) : Prop where
  beside : OnlyTouches [.tamper, .store, .credit, .supply, .link, .strip, .profile, .power] f t
  records : t.tamper.records = f.tamper.records
  windows : t.tamper.windows = f.tamper.windows
  credit : t.credit = if k < 4 then f.credit else f.credit.evaluated f.settings f.clock
  supply : t.supply = { f.supply with causes :=
    if k < 4 then f.supply.causes else f.supply.causes.started t.credit f.tamper.records }
  profile : k < 3 → t.profile = f.profile

theorem StartedOver.step {f t : State} {k : Nat} (h : StartedOver f t k) (checked : 1 ≤ k) (more : k < 4)
    (stopped : isRunning t = false) : StartedOver f (startStep k t) (k + 1) := by
  have later := startStep_later checked stopped
  have tamper : (startStep k t).tamper = t.tamper := later .tamper (by decide)
  have credit : t.credit = f.credit := h.credit.trans (if_pos more)
  have supply : t.supply = f.supply := h.supply.trans (by rw [if_pos more])
  refine ⟨h.beside.trans (later.mono (by decide)), by rw [tamper, h.records], by rw [tamper, h.windows], ?_, ?_, ?_⟩
  all_goals obtain rfl | rfl | rfl : k = 1 ∨ k = 2 ∨ k = 3 := by omega
  · exact ((startStep2_touches t).credit_eq (by decide)).trans credit
  · exact ((startStep3_touches t).credit_eq (by decide)).trans credit
  · have settings : t.settings = f.settings := h.beside .settings (by decide)
    exact (startStep4_credit (s := t)).trans (by
      rw [credit, settings, h.beside.clock_eq (by decide)]
      rfl)
  · exact ((startStep2_touches t).supply_eq (by decide)).trans supply
  · exact ((startStep3_touches t).supply_eq (by decide)).trans supply
  · refine (startStep4_supply stopped).trans ?_
    have settings : t.settings = f.settings := h.beside .settings (by decide)
    have found : (startStep 3 t).credit = f.credit.evaluated f.settings f.clock :=
      (startStep4_credit (s := t)).trans (by rw [credit, settings, h.beside.clock_eq (by decide)])
    rw [supply, h.records, credit, settings, h.beside.clock_eq (by decide), found]
    rfl
  · have profile : (startStep 1 t).profile = t.profile := startStep2_touches t .profile (by decide)
    exact fun _ => profile.trans (h.profile (by decide))
  · exact fun small => absurd small (by decide)
  · exact fun small => absurd small (by decide)

theorem startedTo_over {s : State} {k : Nat} (small : k ≤ 4) (judged : 1 ≤ k ∨ retainedValid s.power = true) :
    StartedOver (startFound s) (startedTo s k) k := by
  induction k with
  | zero =>
    have valid := judged.resolve_left (by decide)
    rw [startFound_valid valid]
    exact ⟨.refl _ _, rfl, rfl, (if_pos (by decide)).symm, by rw [if_pos (by decide)]; rfl, fun _ => rfl⟩
  | succ k ih =>
    rcases Nat.eq_zero_or_pos k with rfl | checked
    · have beside := startStep1_beside (beginStartUp s)
      have settled : (startStep1 (beginStartUp s)).tamper = (startSettled (beginStartUp s)).tamper :=
        startStep1_rest (beginStartUp s) .tamper (by decide)
      obtain ⟨records, windows⟩ := startSettled_tamper (beginStartUp s)
      exact ⟨beside.mono (by decide), by rw [startedTo, startStep, startedTo, settled, records]; rfl,
        by rw [startedTo, startStep, startedTo, settled, windows]; rfl, beside.credit_eq (by decide),
        beside.supply_eq (by decide), fun _ => beside .profile (by decide)⟩
    · exact (ih (by omega) (.inl checked)).step checked (by omega) (startedTo_stopped s k)

theorem startStep_power {k : Nat} (checked : 1 ≤ k) (s : State) : (startStep k s).power = { s.power with
    stage := stageAfter (k + 1)
    events := if k = 2 then [] else s.power.events
    overflow := if k = 2 then 0 else s.power.overflow } := by
  match k, checked with
  | 1, _ => exact startStep2_power s
  | 2, _ => exact startStep3_power s
  | _ + 3, _ =>
    rw [if_neg (by omega), if_neg (by omega)]
    exact startStep4_power s

/-- The power record with the first steps done. -/
theorem startedTo_power (s : State) {k : Nat} (checked : 1 ≤ k) :
    (startedTo s k).power = { (startedTo s 1).power with
      stage := stageAfter k
      events := if k < 3 then (startedTo s 1).power.events else []
      overflow := if k < 3 then (startedTo s 1).power.overflow else 0 } := by
  induction k, checked using Nat.le_induction with
  | base =>
    rw [← startedTo_stage s 1]
    rfl
  | succ k checked ih =>
    have kept : ∀ {α : Type} (x y : α), (if k = 2 then y else if k < 3 then x else y) = if k + 1 < 3 then x else y :=
      fun x y => by split_ifs <;> first | rfl | omega
    have next : (startedTo s (k + 1)).power = _ := startStep_power checked (startedTo s k)
    rw [next, ih, kept, kept]

end Sys2Proof.Machine
end

section
/-! PROOF. A start-up keeps valid retained memory, and otherwise takes factory state (R18, R40, R130, R146, R164,
R170). -/

namespace Sys2Proof.Machine

/-! ### Whatever retained memory holds -/

section
variable (s : State) {k : Nat} (small : k ≤ 4)
include small

theorem startedTo_front : (startedTo s k).front = FrontEnd.startUp := by
  cases k with
  | zero => rfl
  | succ k =>
    exact Eq.trans ((startedTo_over small (.inl (Nat.succ_pos k))).beside .front (by decide)) (startFound_front s)

theorem startedTo_windows : (startedTo s k).tamper.windows = Windows.empty := by
  cases k with
  | zero => rfl
  | succ k => exact (startedTo_over small (.inl (Nat.succ_pos k))).windows.trans (startFound_windows s)

theorem startedTo_overCount : (startedTo s k).supply.overCount = 0 := by
  cases k with
  | zero => rfl
  | succ k =>
    rw [(startedTo_over small (.inl (Nat.succ_pos k))).supply]
    exact startFound_overCount s

theorem startedTo_clock :
    (startedTo s k).clock = { s.clock with announced := (startedTo s k).clock.announced } := by
  cases k with
  | zero => rfl
  | succ k =>
    have clock := (startedTo_over (s := s) small (.inl (Nat.succ_pos k))).beside.clock_eq (by decide)
    have found := startFound_clock s
    rw [← clock] at found
    exact found

end

theorem startedTo_one_power (s : State) :
    (startedTo s 1).power.spent = false ∧ retainedValid (startedTo s 1).power = true ∧
    (startedTo s 1).power.loss = (beginStartUp s).power.retained.loss ∧
    (startedTo s 1).power.dark = (beginStartUp s).power.retained.dark ∧
    (startedTo s 1).power.events = (beginStartUp s).power.retained.events ∧
    (startedTo s 1).power.overflow = (beginStartUp s).power.retained.overflow := by
  have spent : (beginStartUp s).power.retained.spent = false := by
    unfold Power.retained
    split <;> rfl
  have power : (startedTo s 1).power = _ := startStep1_power (beginStartUp s)
  rw [power]
  exact ⟨spent, rfl, rfl, rfl, rfl, rfl⟩

theorem startedTo_spent (s : State) (k : Nat) : (startedTo s k).power.spent = false := by
  cases k with
  | zero => rfl
  | succ k =>
    rw [startedTo_power s (Nat.succ_pos k)]
    exact (startedTo_one_power s).1

/-! ### Over valid retained memory, and over factory state -/

theorem retained_valid {p : Power} (valid : retainedValid p = true) : p.retained = p := if_pos valid

theorem retained_factory {p : Power} (broken : retainedValid p = false) :
    p.retained = { p with loss := none, dark := none, events := [], overflow := 0 } :=
  if_neg (by rw [broken]; decide)

/-- On first start the credit is exhausted, and no friendly window applies (R71, R75, R82). -/
theorem Credit.factory_evaluated (c : Clock) : (Credit.factory.evaluated Settings.default c).state = .exhausted := by
  simp [Credit.evaluated, creditStateFor, friendlyApplies, inDailyWindow, Settings.default, Credit.factory,
    Credit.level]

/-- A start-up over valid retained memory (R170). -/
structure StartKeeps (s t : State) (k : Nat) : Prop where
  energy : t.energy.billed = s.energy.billed ∧ t.energy.phaseFwd = s.energy.phaseFwd ∧
    t.energy.phaseRev = s.energy.phaseRev ∧ t.energy.neutral = s.energy.neutral
  tariff : t.tariff = s.tariff
  account : t.credit.balance = s.credit.balance ∧ t.credit.debitRem = s.credit.debitRem ∧
    t.credit.writtenOff = s.credit.writtenOff ∧ t.credit.emergencyAmount = s.credit.emergencyAmount
  code : t.code = s.code.volatileReset
  supply : t.supply.machine = s.supply.machine ∧ t.supply.unverified = s.supply.unverified ∧
    t.supply.limit = s.supply.limit ∧ t.supply.causes.order = s.supply.causes.order ∧
    t.supply.overload = s.supply.overload ∧ t.supply.trips = s.supply.trips
  records : t.tamper.records = s.tamper.records
  settings : t.settings = s.settings
  announced : t.clock.announced = s.clock.announced
  power : t.power.loss = s.power.loss ∧ t.power.dark = s.power.dark
  credit : k < 4 → t.credit = s.credit
  early : k < 3 → t.profile = { s.profile with period := none } ∧ t.power.events = s.power.events ∧
    t.power.overflow = s.power.overflow

theorem startedTo_keeps {s : State} (valid : retainedValid s.power = true) {k : Nat} (small : k ≤ 4) :
    StartKeeps s (startedTo s k) k := by
  have found := startedTo_over small (.inr valid)
  rw [startFound_valid valid] at found
  have energy : (startedTo s k).energy = (beginStartUp s).energy := found.beside .energy (by decide)
  have code : (startedTo s k).code = (beginStartUp s).code := found.beside .code (by decide)
  have settings : (startedTo s k).settings = s.settings := found.beside .settings (by decide)
  have tariff : (startedTo s k).tariff = s.tariff := found.beside.tariff_eq (by decide)
  have clock : (startedTo s k).clock = s.clock := found.beside.clock_eq (by decide)
  have supply := found.supply
  have credit := found.credit
  have order : (startedTo s k).supply.causes.order = s.supply.causes.order := by
    rw [supply]
    exact (apply_ite Causes.order _ _ _).trans (ite_self _)
  have account : ∀ {α : Type} (item : Credit → α), item ((beginStartUp s).credit.evaluated s.settings s.clock) =
      item s.credit → item (startedTo s k).credit = item s.credit := fun item same => by
    rw [credit, apply_ite item]
    exact (ite_congr rfl (fun _ => rfl) fun _ => same).trans (ite_self _)
  have power : (startedTo s k).power.loss = s.power.loss ∧ (startedTo s k).power.dark = s.power.dark ∧
      (k < 3 → (startedTo s k).power.events = s.power.events ∧ (startedTo s k).power.overflow = s.power.overflow) := by
    cases k with
    | zero => exact ⟨rfl, rfl, fun _ => ⟨rfl, rfl⟩⟩
    | succ k =>
      obtain ⟨-, -, loss, dark, events, overflow⟩ := startedTo_one_power s
      have kept : (beginStartUp s).power.retained = (beginStartUp s).power := retained_valid valid
      rw [kept] at loss dark events overflow
      rw [startedTo_power s (Nat.succ_pos k)]
      exact ⟨loss, dark, fun early => ⟨(if_pos early).trans events, (if_pos early).trans overflow⟩⟩
  obtain ⟨loss, dark, early⟩ := power
  refine ⟨by rw [energy]; exact ⟨rfl, rfl, rfl, rfl⟩, tariff, ⟨account Credit.balance rfl, account Credit.debitRem rfl,
    account Credit.writtenOff rfl, account Credit.emergencyAmount rfl⟩, code, ?_, found.records, settings,
    congrArg Clock.announced clock, ⟨loss, dark⟩, fun more => credit.trans (if_pos more),
    fun more => ⟨found.profile more, early more⟩⟩
  refine ⟨?_, ?_, ?_, order, ?_, ?_⟩
  all_goals
    rw [supply]
    rfl

/-- A start-up that takes factory state (R170). -/
structure StartTakesFactory (t : State) : Prop where
  billed : t.energy.billed = ⟨0, 0⟩
  tariff : t.tariff.active = none ∧ t.tariff.pending = none
  balance : t.credit.balance = 0
  code : t.code = CodeUnit.factory
  machine : t.supply.machine = .opened
  causes : t.supply.causes = ⟨false, false, true, false⟩
  records : t.tamper.records = TamperRecords.factory
  settings : t.settings = Settings.default
  desc : t.profile.desc = none
  announced : t.clock.announced = none
  power : t.power.loss = none ∧ t.power.dark = none ∧ t.power.events = []
  valid : retainedValid t.power = true

theorem startTold_touches (s : State) : OnlyTouches [.store, .link, .strip, .power] s (startTold s) := by
  have emptied : OnlyTouches [.store, .link, .strip, .power] s (startEmptied s) :=
    ((startReplayed_touches s).mono (by decide)).trans (by simp [startEmptied])
  unfold startTold
  split
  · exact emptied.trans ((watchLostNotice_touches _).mono (by decide))
  · exact emptied

theorem resumePeriods_unset {s : State} (unset : s.profile.desc = none) : (resumePeriods s).profile.desc = none := by
  unfold resumePeriods
  dsimp only
  split
  · simp [openPeriod, recordPeriod_profile, Profile.closed, unset]
  · exact unset

/-- No step of a start-up sets a descriptor (R195, R199). -/
theorem startStep_desc {k : Nat} (checked : 1 ≤ k) {s : State} (stopped : isRunning s = false)
    (unset : s.profile.desc = none) : (startStep k s).profile.desc = none := by
  have same : ∀ {t : State}, t.profile = s.profile → t.profile.desc = none := fun {t} profile => by
    rw [profile, unset]
  match k, checked with
  | 1, _ => exact same (startStep2_touches s .profile (by decide))
  | 2, _ =>
    have told : (startTold s).profile = s.profile := startTold_touches s .profile (by decide)
    exact resumePeriods_unset (s := startTold s) (by rw [told, unset])
  | _ + 3, _ => exact same (startStep4_stopped stopped .profile (by decide))

theorem startedTo_desc {s : State} (broken : retainedValid s.power = false) (k : Nat) :
    (startedTo s (k + 1)).profile.desc = none := by
  induction k with
  | zero =>
    have found : (startedTo s 1).profile = (startFound s).profile := startStep1_beside _ .profile (by decide)
    rw [found, startFound_factory broken, factoryState_profile]
    rfl
  | succ k ih => exact startStep_desc (Nat.succ_pos k) (startedTo_stopped s _) ih

theorem startedTo_factory {s : State} (broken : retainedValid s.power = false) {k : Nat} (small : k ≤ 4)
    (judged : 1 ≤ k) : StartTakesFactory (startedTo s k) := by
  have found := startedTo_over (s := s) small (.inl judged)
  rw [startFound_factory broken] at found
  have energy : (startedTo s k).energy = (factoryState (beginStartUp s)).energy := found.beside .energy (by decide)
  have tariff := found.beside.tariff_eq (by decide)
  have code : (startedTo s k).code = (factoryState (beginStartUp s)).code := found.beside .code (by decide)
  have settings : (startedTo s k).settings = (factoryState (beginStartUp s)).settings :=
    found.beside .settings (by decide)
  have clock := found.beside.clock_eq (by decide)
  have credit := found.credit
  have supply := found.supply
  have records := found.records
  rw [factoryState_settings, factoryState_credit] at credit
  rw [factoryState_supply, factoryState_tamper] at supply
  rw [factoryState_tamper] at records
  have exhausted : (startedTo s k).credit.balance = 0 ∧ (startedTo s k).credit.state = .exhausted := by
    rw [credit]
    split
    · exact ⟨rfl, rfl⟩
    · exact ⟨rfl, Credit.factory_evaluated _⟩
  obtain ⟨balance, state⟩ := exhausted
  obtain ⟨-, valid, loss, dark, events, -⟩ := startedTo_one_power s
  have power : (beginStartUp s).power.retained = _ := retained_factory broken
  rw [power] at loss dark events
  have later := startedTo_power s judged
  refine ⟨by rw [energy, factoryState_energy]; rfl, by rw [tariff, factoryState_tariff]; exact ⟨rfl, rfl⟩, balance,
    by rw [code, factoryState_code], by rw [supply]; rfl, ?_, records, settings, ?_, ?_, ?_, ?_⟩
  · rw [supply]
    dsimp only
    split
    · rfl
    · rw [Causes.started, state]
      rfl
  · obtain ⟨k, rfl⟩ := Nat.exists_eq_succ_of_ne_zero (Nat.ne_of_gt judged)
    exact startedTo_desc broken k
  · rw [clock, factoryState_clock]
  · rw [later]
    exact ⟨loss, dark, by simp [events]⟩
  · rw [later]
    exact valid

/-- Settles O47: the start-up's steps over what it finds, in the state that the command's row leaves. -/
theorem startUpKeepsRetainedOrTakesFactoryState : Obligations.StartUpKeepsRetainedOrTakesFactoryState := by
  unfold Obligations.StartUpKeepsRetainedOrTakesFactoryState
  intro c k s begins
  obtain ⟨u, run, began⟩ := exec_startUp begins
  have small : k.val ≤ 4 := Nat.le_of_lt_succ k.isLt
  have marks : retainedValid u.power = retainedValid s.power := by rw [began.power]; rfl
  refine ⟨_, run, startedTo_state u _, by rw [startedTo_stage, stageAfter_num small], startedTo_front u small,
    fun ch => ?_, by rw [startedTo_conv]; rfl, fun x => ?_, startedTo_overCount u small, startedTo_spent u _, ?_,
    fun valid => ?_, fun broken judged => ?_⟩
  · rw [startedTo_conv]
    cases ch <;> rfl
  · rw [startedTo_windows u small]
    cases x <;> rfl
  · rw [startedTo_clock u small, began.clock]
    split
    · exact ⟨rfl, rfl, rfl⟩
    · exact ⟨rfl, rfl, rfl⟩
  · have keeps := startedTo_keeps (marks.trans valid) small
    have energy : u.energy = s.energy := began.touches .energy (by decide)
    have code : u.code = s.code := began.touches .code (by decide)
    have tamper : u.tamper = s.tamper := began.touches .tamper (by decide)
    have settings : u.settings = s.settings := began.touches .settings (by decide)
    have profile : u.profile = s.profile := began.touches .profile (by decide)
    have credit := began.touches.credit_eq (by decide)
    have supply := began.touches.supply_eq (by decide)
    have announced : u.clock.announced = s.clock.announced := by
      rw [began.clock]
      split <;> rfl
    obtain ⟨loss, dark⟩ := keeps.power
    obtain ⟨billed, fwd, rev, neutral⟩ := energy ▸ keeps.energy
    obtain ⟨balance, debitRem, writtenOff, amount⟩ := credit ▸ keeps.account
    obtain ⟨machine, unverified, limit, order, overload, trips⟩ := supply ▸ keeps.supply
    have lost : u.power.loss = s.power.loss ∧ u.power.dark = s.power.dark ∧ u.power.events = s.power.events ∧
        u.power.overflow = s.power.overflow := by
      rw [began.power]
      exact ⟨rfl, rfl, rfl, rfl⟩
    obtain ⟨lossSame, darkSame, eventsSame, overflowSame⟩ := lost
    exact ⟨billed, fwd, rev, neutral, keeps.tariff.trans (began.touches.tariff_eq (by decide)), balance, debitRem,
      writtenOff, amount, code ▸ keeps.code, machine, unverified, limit, order, overload, trips, tamper ▸ keeps.records,
      settings ▸ keeps.settings, keeps.announced.trans announced, loss.trans lossSame, dark.trans darkSame,
      fun more => (keeps.credit more).trans credit, fun more => by
        obtain ⟨before, events, overflow⟩ := keeps.early more
        exact ⟨profile ▸ before, events.trans eventsSame, overflow.trans overflowSame⟩⟩
  · have takes := startedTo_factory (marks.trans broken) small judged
    obtain ⟨active, pending⟩ := takes.tariff
    obtain ⟨loss, dark, events⟩ := takes.power
    exact ⟨takes.billed, active, pending, takes.balance, takes.code, takes.machine, takes.causes, takes.records,
      takes.settings, takes.desc, takes.announced, loss, dark, events, takes.valid⟩

end Sys2Proof.Machine
end

section
/-! SUPPORT. The notices of a start-up on a strip that begins empty, and what later works leave of them (R171, R191). -/

namespace Sys2Proof.Machine

/-! ### A strip that nobody has read and that has dropped nothing -/

/-- The strip holds its first `n` notices, the host's read index at its start, and none was dropped. -/
structure StripAt (n : Nat) (s : State) : Prop where
  up : linkUp s = true
  strip : s.strip = ⟨n, 0⟩
  read : readIndex s = 0

/-- From `s` to `t` at most `j` notices are written, none dropped. -/
def AddsNotices (j : Nat) (s t : State) : Prop :=
  ∀ n, StripAt n s → n + j ≤ 30 → ∃ m, n ≤ m ∧ m ≤ n + j ∧ StripAt m t

theorem StripAt.unread {n : Nat} {s : State} (h : StripAt n s) (fits : n ≤ 30) : unread s = n := by
  rw [Machine.unread, h.strip, h.read]
  dsimp only
  omega

theorem AddsNotices.trans {i j : Nat} {s t u : State} (h : AddsNotices i s t) (g : AddsNotices j t u) :
    AddsNotices (i + j) s u := fun n at_n fits => by
  obtain ⟨m, low, high, at_m⟩ := h n at_n (by omega)
  obtain ⟨k, above, below, at_k⟩ := g m at_m (by omega)
  exact ⟨k, by omega, by omega, at_k⟩

theorem AddsNotices.refl (s : State) : AddsNotices 0 s s := fun n at_n _ => ⟨n, le_rfl, le_rfl, at_n⟩

/-- A work that moves neither the strip nor the read index. -/
theorem AddsNotices.of {s t : State} (up : linkUp t = linkUp s) (strip : t.strip = s.strip)
    (stands : StoreStands s t) : AddsNotices 0 s t := fun n at_n fits =>
  ⟨n, le_rfl, le_rfl, up.trans at_n.up, strip.trans at_n.strip,
    (stands (by rw [at_n.strip]; exact Nat.le_succ_of_le fits)).2.1.trans at_n.read⟩

theorem OnlyTouches.addsNotices {bs : List Block} {s t : State} (h : OnlyTouches bs s t) (stands : StoreStands s t)
    (strip : Block.strip ∉ bs) (power : Block.power ∉ bs) : AddsNotices 0 s t :=
  .of (h.linkUp_eq power) (h .strip strip) stands

theorem StripAt.writeNotice {n : Nat} {s : State} (h : StripAt n s) (fits : n < 30) (k : NoticeKind) (head : Nat)
    (x : Stamp) (d : List Byte) : StripAt (n + 1) (writeNotice k head x d s) := by
  have index : s.strip.writeIndex = n := by rw [h.strip]
  obtain ⟨strip, -⟩ := writeNotice_room k head x d h.up (by rw [h.unread (by omega)]; omega)
  refine ⟨((writeNotice_touches s k head x d).linkUp_eq (by decide)).trans h.up, ?_, ?_⟩
  · rw [strip, h.strip]
    dsimp only
    rw [Nat.mod_eq_of_lt (by omega)]
  · exact (writeNotice_storeStands k head x d s (by omega)).2.1.trans h.read

theorem writeNotice_adds (k : NoticeKind) (head : Nat) (x : Stamp) (d : List Byte) (s : State) :
    AddsNotices 1 s (writeNotice k head x d s) := fun n at_n fits =>
  ⟨n + 1, Nat.le_succ n, le_rfl, at_n.writeNotice (by omega) k head x d⟩

/-! ### Entries as they are shown from then on -/

/-- Entry `i` of the strip holds these bytes, unread, and so keeps them (R191). -/
structure EntryShows (s : State) (i : Nat) (l : List Byte) : Prop where
  index : s.strip.writeIndex ≤ 31
  bytes : peekBytes s (0x600 + 16 * i) 16 = l
  held : ∀ b, 0x600 + 16 * i ≤ b → b < 0x600 + 16 * i + 16 → Held s b

theorem EntryShows.later {s t : State} {i : Nat} {l : List Byte} (h : EntryShows s i l) (stands : StoreStands s t) :
    EntryShows t i l := by
  obtain ⟨index, read, unread, bytes⟩ := stands h.index
  exact ⟨index, (bytes.peekBytes_eq h.held).trans h.bytes, fun b low high => (h.held b low high).later read unread⟩

/-- A field of an entry. -/
theorem EntryShows.field {s : State} {i : Nat} {l : List Byte} (h : EntryShows s i l) (j n : Nat) (fits : j + n ≤ 16) :
    peekBytes s (0x600 + 16 * i + j) n = (l.drop j).take n := by
  have whole : j + (n + (16 - (j + n))) = 16 := by omega
  rw [← h.bytes, peekBytes_take s _ n (16 - (j + n)), peekBytes_drop, whole]

theorem EntryShows.byte {s : State} {i : Nat} {l : List Byte} (h : EntryShows s i l) (j : Nat) (fits : j < 16) :
    [peek s (0x600 + 16 * i + j)] = (l.drop j).take 1 := h.field j 1 fits

theorem StripAt.shows {n : Nat} {s : State} (h : StripAt n s) (fits : n < 30) (k : NoticeKind) (head : Nat)
    (x : Stamp) (d : List Byte) : EntryShows (Machine.writeNotice k head x d s) n (noticeBytes k head x d) := by
  have index : s.strip.writeIndex = n := by rw [h.strip]
  obtain ⟨bytes, held⟩ := writeNotice_shows k head x d h.up (by omega) (by rw [h.unread (by omega)]; omega)
  rw [index] at bytes held
  exact ⟨(writeNotice_storeStands k head x d s (by omega)).1, bytes, held⟩

/-! ### Step 3's notices -/

/-- The kind of a replayed battery event's notice (R171). -/
def BatteryEvent.noticeKind (e : BatteryEvent) : NoticeKind :=
  match e.position with
  | .opened => .tamperOn
  | .closed => .tamperOff

/-- Its subject and notice flags (R158, R171). -/
def BatteryEvent.noticeHead (e : BatteryEvent) : Nat :=
  match e.position with
  | .opened => (switchKind e.switch).code + 16
  | .closed => (switchKind e.switch).code + 16 + 32 * (stampValid e.first).toNat + 64 * (stampValid (some e.time)).toNat

/-- Its detail (R158, R171). -/
def BatteryEvent.noticeDetail (e : BatteryEvent) : List Byte :=
  match e.position with
  | .opened => [byteOf e.before.code, byteOf TamperStatus.active.code] ++ leBytes 2 e.count ++ []
  | .closed => leBytes 2 e.count ++ stampBytes e.first ++ stampBytes (some e.time)

/-- The 16 bytes of a replayed battery event. -/
def BatteryEvent.bytes (e : BatteryEvent) : List Byte := noticeBytes e.noticeKind e.noticeHead e.time e.noticeDetail

theorem replayEvent_eq (e : BatteryEvent) (s : State) :
    replayEvent e s = writeNotice e.noticeKind e.noticeHead e.time e.noticeDetail s := by
  unfold replayEvent BatteryEvent.noticeKind BatteryEvent.noticeHead BatteryEvent.noticeDetail
  cases e.position <;> rfl

/-- Events replayed one after another: each has its entry, oldest first (R171). -/
theorem replayed_shows (l : List BatteryEvent) {n : Nat} {s : State} (h : StripAt n s) (fits : n + l.length ≤ 30) :
    StripAt (n + l.length) (l.foldl (fun s e => replayEvent e s) s) ∧
    StoreStands s (l.foldl (fun s e => replayEvent e s) s) ∧
    ∀ i e, l[i]? = some e → EntryShows (l.foldl (fun s e => replayEvent e s) s) (n + i) e.bytes := by
  induction l generalizing n s with
  | nil => exact ⟨h, storeStands_holds.refl s, fun i e found => by simp at found⟩
  | cons x l ih =>
    rw [List.length_cons] at fits
    rw [List.foldl_cons, List.length_cons, replayEvent_eq, Nat.add_comm l.length, ← Nat.add_assoc]
    have written := h.writeNotice (by omega) x.noticeKind x.noticeHead x.time x.noticeDetail
    obtain ⟨strip, stands, shows⟩ := ih written (by omega)
    refine ⟨strip, (writeNotice_storeStands _ _ _ _ s).trans stands, fun i e found => ?_⟩
    cases i with
    | zero =>
      obtain rfl : x = e := by simpa using found
      exact (h.shows (by omega) _ _ _ _).later stands
    | succ i =>
      rw [Nat.add_comm i 1, ← Nat.add_assoc]
      exact shows i e (by simpa using found)

theorem BatteryEvent.noticeHead_subject (e : BatteryEvent) :
    (e.noticeHead + 128 * e.time.valid.toNat) % 32 = (switchKind e.switch).code + 16 ∧
    (e.noticeHead + 128 * e.time.valid.toNat) / 128 = e.time.valid.toNat ∧
    e.noticeHead + 128 * e.time.valid.toNat < 256 := by
  have small : (switchKind e.switch).code ≤ 1 := by cases e.switch <;> decide
  have first := (stampValid e.first).toNat_le
  have last := (stampValid (some e.time)).toNat_le
  have valid := e.time.valid.toNat_le
  unfold BatteryEvent.noticeHead
  cases e.position <;> dsimp only <;> omega

/-- What an entry shows of its battery event: kind, subject, and time (R171). -/
theorem EntryShows.event {s : State} {i : Nat} {e : BatteryEvent} (h : EntryShows s i e.bytes) :
    peek s (0x600 + 16 * i) = byteOf e.noticeKind.code ∧
    (peek s (0x600 + 16 * i + 1)).toNat % 32 = (switchKind e.switch).code + 16 ∧
    (peek s (0x600 + 16 * i + 1)).toNat / 128 = e.time.valid.toNat ∧
    peekBytes s (0x600 + 16 * i + 2) 4 = leBytes 4 e.time.count := by
  obtain ⟨subject, valid, small⟩ := e.noticeHead_subject
  have kind : peek s (0x600 + 16 * i) = byteOf e.noticeKind.code := (List.cons.inj (h.byte 0 (by decide))).1
  have head : peek s (0x600 + 16 * i + 1) = byteOf (e.noticeHead + 128 * e.time.valid.toNat) :=
    (List.cons.inj (h.byte 1 (by decide))).1
  have number : (peek s (0x600 + 16 * i + 1)).toNat = e.noticeHead + 128 * e.time.valid.toNat := by
    rw [head, byteOf, BitVec.toNat_ofNat, Nat.mod_eq_of_lt small]
  rw [number]
  exact ⟨kind, subject, valid, h.field 2 4 (by decide)⟩

end Sys2Proof.Machine
end

section
/-! SUPPORT. POWER_BACK and WATCH_LOST on the strip, the saved period closed, and steps 3 and 4 after them (R171, R173,
R200). -/

namespace Sys2Proof.Machine

/-! ### POWER_BACK and WATCH_LOST -/

/-- The start reason of POWER_BACK (R171). -/
def powerBackReason (p : Power) : Nat :=
  match p.loss with
  | some l => if l.reason = .resetn then 1 else 0
  | none => 0

/-- The outage POWER_BACK reports (R171). -/
def outageOf (p : Power) (c : Clock) : Nat :=
  match p.loss with
  | some l =>
    if p.startMarkAbsent then 0
    else if l.time.count ≤ c.count then c.count - l.time.count
    else Config.outageBelow l.time.count c.count
  | none => 0

/-- The validity of the loss record's time (R171). -/
def lossValid (p : Power) : Bool :=
  match p.loss with
  | some l => l.time.valid
  | none => false

theorem lossValid_eq (p : Power) : lossValid p = (p.loss.map fun l => l.time.valid).getD false := by
  unfold lossValid
  cases p.loss <;> rfl

/-- The absence marks of POWER_BACK and the validities of the two times (R171; assumption log 50). -/
def powerBackFlags (p : Power) (c : Clock) : Byte :=
  flagsByte [p.startFactory, p.loss.isSome && p.startMarkAbsent, p.loss.isNone, lossValid p, c.valid]

/-- The 16 bytes of POWER_BACK with `n` events replayed before it. -/
def powerBackBytes (n : Nat) (p : Power) (c : Clock) : List Byte :=
  noticeBytes .powerBack (powerBackReason p) ⟨c.count, c.valid⟩
    ([powerBackFlags p c] ++ leBytes 4 (outageOf p c) ++ [byteOf n, byteOf p.overflow])

/-- The detail of WATCH_LOST (R171). -/
def watchLostDetail (dark : Option DarkRecord) : List Byte :=
  match dark with
  | some d => leBytes 4 d.time.count ++ [flagsByte [d.time.valid, false]] ++ leBytes 2 d.battery
  | none => leBytes 4 0 ++ [flagsByte [false, true]] ++ leBytes 2 0

theorem powerBackNotice_eq (n : Nat) (s : State) :
    powerBackNotice n s = writeNotice .powerBack (powerBackReason s.power) (now s)
      ([powerBackFlags s.power s.clock] ++ leBytes 4 (outageOf s.power s.clock) ++
        [byteOf n, byteOf s.power.overflow]) s := rfl

theorem watchLostNotice_eq (s : State) :
    watchLostNotice s = writeNotice .watchLost 0 (now s) (watchLostDetail s.power.startDark) s := by
  unfold watchLostNotice watchLostDetail
  cases s.power.startDark <;> rfl

/-- What step 3's notices show, from the strip's start on (R171). -/
structure StartTold (w t : State) : Prop where
  events : ∀ i e, w.power.events[i]? = some e → EntryShows t i e.bytes
  back : EntryShows t w.power.events.length (powerBackBytes w.power.events.length w.power w.clock)
  lost : w.power.startMarkAbsent = true → EntryShows t (w.power.events.length + 1)
    (noticeBytes .watchLost 0 ⟨w.clock.count, w.clock.valid⟩ (watchLostDetail w.power.startDark))

theorem StartTold.later {w s t : State} (h : StartTold w s) (stands : StoreStands s t) : StartTold w t :=
  ⟨fun i e found => (h.events i e found).later stands, h.back.later stands, fun absent => (h.lost absent).later stands⟩

/-- Step 3 to the emptied list of battery events: the events and POWER_BACK are on the strip. -/
theorem startEmptied_told {w : State} (empty : StripAt 0 w) (few : w.power.events.length ≤ 8) :
    StripAt (w.power.events.length + 1) (startEmptied w) ∧
    (∀ i e, w.power.events[i]? = some e → EntryShows (startEmptied w) i e.bytes) ∧
    EntryShows (startEmptied w) w.power.events.length (powerBackBytes w.power.events.length w.power w.clock) := by
  obtain ⟨strip, -, shows⟩ := replayed_shows w.power.events empty (by omega)
  simp only [Nat.zero_add] at strip shows
  have rest := startReplayed_touches w
  change StripAt w.power.events.length (startReplayed w) at strip
  change ∀ i e, w.power.events[i]? = some e → EntryShows (startReplayed w) i e.bytes at shows
  have back := powerBackNotice_eq w.power.events.length (startReplayed w)
  rw [now, rest.clock_eq (by decide), rest.power_eq (by decide)] at back
  rw [startEmptied, back]
  generalize startReplayed w = r at strip shows
  have backed := strip.writeNotice (by omega) .powerBack (powerBackReason w.power) ⟨w.clock.count, w.clock.valid⟩
    ([powerBackFlags w.power w.clock] ++ leBytes 4 (outageOf w.power w.clock) ++
      [byteOf w.power.events.length, byteOf w.power.overflow])
  have shown := strip.shows (by omega) .powerBack (powerBackReason w.power) ⟨w.clock.count, w.clock.valid⟩
    ([powerBackFlags w.power w.clock] ++ leBytes 4 (outageOf w.power w.clock) ++
      [byteOf w.power.events.length, byteOf w.power.overflow])
  have stands := writeNotice_storeStands .powerBack (powerBackReason w.power) ⟨w.clock.count, w.clock.valid⟩
    ([powerBackFlags w.power w.clock] ++ leBytes 4 (outageOf w.power w.clock) ++
      [byteOf w.power.events.length, byteOf w.power.overflow]) r
  generalize writeNotice _ _ _ _ r = b at backed shown stands
  have emptied : StoreStands b (overPower (fun p => { p with events := [], overflow := 0 }) b) :=
    (overPower_touches _ _).storeStands (by decide) (by decide)
  exact ⟨⟨(linkUp_withPower (by rfl) (by rfl)).trans backed.up, backed.strip, backed.read⟩,
    fun i e found => (shows i e found).later (stands.trans emptied), shown.later emptied⟩

/-- How many notices step 3 writes. -/
def startNotices (p : Power) : Nat := p.events.length + if p.startMarkAbsent then 2 else 1

theorem startTold_told {w : State} (empty : StripAt 0 w) (few : w.power.events.length ≤ 8) :
    StripAt (startNotices w.power) (startTold w) ∧ StartTold w (startTold w) := by
  obtain ⟨strip, shows, back⟩ := startEmptied_told empty few
  have rest : OnlyTouches [.store, .link, .strip, .power] w (startEmptied w) :=
    ((startReplayed_touches w).mono (by decide)).trans (by simp [startEmptied])
  have told : (powerBackNotice w.power.events.length (startReplayed w)).power = w.power :=
    ((startReplayed_touches w).trans (powerBackNotice_touches _ _)).power_eq (by decide)
  have dark : (startEmptied w).power.startDark = w.power.startDark := by
    change (powerBackNotice w.power.events.length (startReplayed w)).power.startDark = _
    rw [told]
  unfold startTold startNotices
  generalize startEmptied w = e at strip shows back rest dark
  split
  · have lost := watchLostNotice_eq e
    rw [now, rest.clock_eq (by decide), dark] at lost
    rw [lost]
    have stands := writeNotice_storeStands .watchLost 0 ⟨w.clock.count, w.clock.valid⟩
      (watchLostDetail w.power.startDark) e
    exact ⟨strip.writeNotice (by omega) _ _ _ _, fun i x found => (shows i x found).later stands, back.later stands,
      fun _ => strip.shows (by omega) _ _ _ _⟩
  · next present => exact ⟨strip, shows, back, fun absent => absurd absent present⟩

end Sys2Proof.Machine
end

section
/-! SUPPORT. The saved period closed at step 3, and what step 4 leaves of the strip, the records and the channel (R83,
R127, R173, R200). -/

namespace Sys2Proof.Machine

/-! ### The saved period (R200) -/

theorem recordWritten_storeStands {s : State} (layout : layoutWell s) {d : Descriptor} (desc : s.profile.desc = some d)
    (p : Period) (endTime : Nat) (m : Bool) : StoreStands s (recordWritten d p endTime m s) := by
  obtain ⟨-, area⟩ := layout
  obtain ⟨low, -, -⟩ := area d desc
  have stored : StoreStands s (poke (d.offset + 16 * d.nextSlot) (profileRecordBytes p endTime m) s) :=
    poke_storeStands s fun b above _ => by omega
  exact (stored.trans ((withProfile_touches _ _).storeStands (by decide) (by decide))).trans (pageProfile_storeStands _)

theorem AddsNotices.mono {i j : Nat} {s t : State} (h : AddsNotices i s t) (le : i ≤ j) : AddsNotices j s t :=
  fun n at_n fits => by
    obtain ⟨m, low, high, at_m⟩ := h n at_n (by omega)
    exact ⟨m, low, by omega, at_m⟩

/-- A close writes at most the notice of a full channel (R199). -/
theorem recordPeriod_adds {s : State} (layout : layoutWell s) (p : Period) (endTime : Nat) (m : Bool) :
    AddsNotices 1 s (recordPeriod p endTime m s) := by
  cases desc : s.profile.desc with
  | none =>
    have same : recordPeriod p endTime m s = s := by simp [recordPeriod, desc]
    rw [same]
    exact (AddsNotices.refl s).mono (by decide)
  | some d =>
    rcases Nat.eq_zero_or_pos d.remaining with none_left | left
    · have stands := recordPeriod_storeStands layout p endTime m
      have touches : OnlyTouches [.store, .profile] s (recordPeriod p endTime m s) := by
        simp [recordPeriod_unrecorded desc none_left]
      exact (touches.addsNotices stands (by decide) (by decide)).mono (by decide)
    · have touches : OnlyTouches [.store, .profile] s (recordWritten d p endTime m s) := by simp [recordWritten]
      have written := touches.addsNotices (recordWritten_storeStands layout desc p endTime m) (by decide) (by decide)
      rw [recordPeriod_recorded desc left]
      split
      · have raised := (raise_touches (recordWritten d p endTime m s) .profile).addsNotices
          (storeStands_holds.raise _ _) (by decide) (by decide)
        exact (written.trans raised).trans (writeNotice_adds _ _ _ _ _)
      · exact written.mono (by decide)

/-- The profile channel once the saved period has closed, before a period opens (R200). -/
def Profile.resumed (f : Profile) : Profile :=
  match f.saved with
  | some _ => { f with saved := none }.closed
  | none => f

/-- The saved period's record (R200). -/
def SavedPeriod.bytes (v : SavedPeriod) : List Byte :=
  profileRecordBytes { v.period with clockInvalid := v.period.clockInvalid || !v.endTime.valid } v.endTime.count true

/-- Step 3's work on the saved period. -/
def savedClosed (s : State) : State :=
  match s.profile.saved with
  | some v => recordPeriod { v.period with clockInvalid := v.period.clockInvalid || !v.endTime.valid }
      v.endTime.count true (s.withProfile { s.profile with saved := none })
  | none => s

theorem resumePeriods_eq (s : State) : resumePeriods s = openPeriod (savedClosed s) := rfl

theorem savedClosed_profile (s : State) : (savedClosed s).profile = s.profile.resumed := by
  unfold savedClosed Profile.resumed
  cases s.profile.saved with
  | some v => exact recordPeriod_profile _ _ _ _
  | none => rfl

theorem openPeriod_fresh (s : State) : ∃ q, (openPeriod s).profile =
    { s.profile with period := s.profile.desc.map fun _ => q } ∧ q.wh = 0 ∧ q.minV = none ∧ q.minutes = 0 := by
  cases desc : s.profile.desc with
  | none => exact ⟨⟨0, none, none, false, false, false, false, none, 0⟩, by simp [openPeriod, desc], rfl, rfl, rfl⟩
  | some d => exact ⟨newPeriod d s, by simp [openPeriod, desc], rfl, rfl, rfl⟩

section
variable {s : State} (layout : layoutWell s)
include layout

theorem layoutWell_unsaved : layoutWell (s.withProfile { s.profile with saved := none }) :=
  layoutWell_of layout layout.1 (by rfl)

theorem savedClosed_stands : StoreStands s (savedClosed s) := by
  unfold savedClosed
  split
  · exact ((withProfile_touches s _).storeStands (by decide) (by decide)).trans
      (recordPeriod_storeStands (layoutWell_unsaved layout) _ _ _)
  · exact storeStands_holds.refl s

theorem savedClosed_adds : AddsNotices 1 s (savedClosed s) := by
  unfold savedClosed
  split
  · have unsaved := (withProfile_touches s { s.profile with saved := none }).addsNotices
      ((withProfile_touches s _).storeStands (by decide) (by decide)) (by decide) (by decide)
    exact unsaved.trans (recordPeriod_adds (layoutWell_unsaved layout) _ _ _)
  · exact (AddsNotices.refl s).mono (by decide)

theorem savedClosed_shows (up : linkUp s = true) {d : Descriptor} (desc : s.profile.desc = some d)
    (left : 0 < d.remaining) {v : SavedPeriod} (saved : s.profile.saved = some v) :
    peekBytes (savedClosed s) (d.offset + 16 * d.nextSlot) 16 = v.bytes := by
  unfold savedClosed
  rw [saved]
  exact recordPeriod_shows (s := s.withProfile { s.profile with saved := none }) up
    (layoutWell_unsaved layout) desc left _ _ _

end

/-! ### Step 4 -/

theorem evaluateCredit_adds (x : CreditTrigger) {s : State} (stopped : isRunning s = false) :
    AddsNotices 1 s (evaluateCredit x s) := by
  have found : AddsNotices 0 s (pageCredit (s.withCredit (s.credit.evaluated s.settings s.clock))) :=
    OnlyTouches.addsNotices (bs := [.store, .credit]) (by simp) (storeStands_holds.withCredit _ _) (by decide)
      (by decide)
  have still : isRunning (pageCredit (s.withCredit (s.credit.evaluated s.settings s.clock))) = false :=
    (OnlyTouches.isRunning_eq (bs := [.store, .credit]) (by simp) (by decide)).trans stopped
  unfold evaluateCredit
  dsimp only
  generalize pageCredit (s.withCredit (s.credit.evaluated s.settings s.clock)) = u at found still
  have told : AddsNotices 1 s (raise .credit (creditStateNotice s.credit.state x u)) :=
    (found.trans (writeNotice_adds _ _ _ _ u)).trans ((raise_touches _ .credit).addsNotices
      (storeStands_holds.raise _ _) (by decide) (by decide))
  have quiet : isRunning (raise .credit (creditStateNotice s.credit.state x u)) = false :=
    (OnlyTouches.isRunning_eq (bs := [.store, .link, .strip]) (by simp) (by decide)).trans still
  have caused : ∀ b, AddsNotices 1 s (setCause .credit b (raise .credit (creditStateNotice s.credit.state x u))) :=
    fun b => told.trans ((setCause_stopped_touches .credit b quiet).addsNotices (storeStands_holds.setCause _ _ _)
      (by decide) (by decide))
  split
  · exact found.mono (by decide)
  · split
    · exact caused _
    · split
      · exact caused _
      · exact told

theorem startRebuilt_adds {s : State} (stopped : isRunning s = false) : AddsNotices 1 s (startRebuilt s) := by
  have credited := (evaluateCredit_touches s .start).isRunning_eq (by decide)
  have still := credited.trans stopped
  have caused := (setCause_stopped_touches .credit (decide ((evaluateCredit .start s).credit.state = .exhausted)) still)
  have quiet := (caused.isRunning_eq (by decide)).trans still
  exact ((evaluateCredit_adds .start stopped).trans (caused.addsNotices (storeStands_holds.setCause _ _ _) (by decide)
    (by decide))).trans ((setCause_stopped_touches .tamper (disconnects s.tamper.records) quiet).addsNotices
      (storeStands_holds.setCause _ _ _) (by decide) (by decide))

theorem startRebuilt_stands (s : State) : StoreStands s (startRebuilt s) :=
  ((storeStands_holds.evaluateCredit _ s).trans (storeStands_holds.setCause _ _ _)).trans
    (storeStands_holds.setCause _ _ _)

theorem pageSwitches_storeStands (s : State) : StoreStands s (pageSwitches s) :=
  poke_storeStands s fun b low high => by
    simp at high
    omega

theorem startStep4_storeStands (s : State) : StoreStands s (startStep4 s) := by
  rw [startStep4_eq]
  exact ((startRebuilt_stands s).trans ((overPower_touches _ _).storeStands (by decide) (by decide))).trans
    (pageSwitches_storeStands _)

theorem startStep4_adds {s : State} (stopped : isRunning s = false) (up : linkUp s = true)
    (after : linkUp (startStep4 s) = true) : AddsNotices 1 s (startStep4 s) := by
  have rebuilt := startRebuilt_adds stopped
  have same : linkUp (startRebuilt s) = true := ((startRebuilt_touches s).linkUp_eq (by decide)).trans up
  refine rebuilt.trans (.of (after.trans same.symm) (startStep4_rest s .strip (by decide)) ?_)
  rw [startStep4_eq]
  exact ((overPower_touches _ _).storeStands (by decide) (by decide)).trans (pageSwitches_storeStands _)

end Sys2Proof.Machine
end

section
/-! PROOF. Steps 3 and 4 of a start-up: the notices, the saved period and the rebuilt cause set (R83, R127, R171, R173,
R200). -/

namespace Sys2Proof.Machine

/-! ### The state that step 3 works on -/

theorem linkUp_startedTo (s : State) {k : Nat} (cleared : 2 ≤ k) (small : k ≤ 4) : linkUp (startedTo s k) = true := by
  simp [linkUp, startedTo_state, startedTo_stage, stageAfter_num small, cleared]

theorem startStep2_paged (s : State) : ∃ r, startStep2 s = pageAll r ∧ r.store = [] ∧ r.strip = ⟨0, 0⟩ :=
  ⟨_, rfl, rfl, rfl⟩

/-- Step 2 leaves an empty strip (R171, R190). -/
theorem startedTo_two_strip (s : State) : StripAt 0 (startedTo s 2) := by
  obtain ⟨r, paged, empty, start⟩ := startStep2_paged (startedTo s 1)
  have strip : (pageAll r).strip = r.strip := pageAll_touches r .strip (by decide)
  have kept := ((pageAll_keeps r).2 (by rw [start]; decide)).2 0x100 (by decide)
  refine ⟨linkUp_startedTo s le_rfl (by decide), ?_, ?_⟩
  · rw [startedTo, startStep, paged, strip, start]
  · rw [startedTo, startStep, paged, readIndex, kept, peek, empty]
    rfl

theorem startedTo_two_profile (s : State) : (startedTo s 2).profile = (startFound s).profile :=
  (startedTo_over (by decide) (.inl (by decide))).profile (by decide)

/-- The saved period and the descriptor are as retained, or gone (R170). -/
theorem startFound_profile (s : State) : (startFound s).profile =
    if retainedValid s.power then { s.profile with period := none } else Profile.factory := by
  split
  · next valid => rw [startFound_valid valid]; rfl
  · next broken => rw [startFound_factory (Bool.eq_false_iff.mpr broken), factoryState_profile]

theorem startedTo_two_layout {s : State} (layout : layoutWell s) : layoutWell (startedTo s 2) := by
  obtain ⟨-, area⟩ := layout
  refine ⟨by rw [(startedTo_two_strip s).strip]; decide, fun d desc => ?_⟩
  rw [startedTo_two_profile, startFound_profile] at desc
  split at desc
  · exact area d desc
  · exact absurd desc (by simp [Profile.factory])

theorem beginStartUp_power (s : State) : (beginStartUp s).power =
    { s.power with state := .mains, stage := .begun, holdupDone := false, watch := .awake, holdTimer := 0,
                   wakeTimer := 0, spent := false } := rfl

/-- What step 3 reads of the power logic (R170, R171). -/
structure StartReads (s : State) (p : Power) : Prop where
  events : p.events = if retainedValid s.power = true then s.power.events else []
  overflow : p.overflow = if retainedValid s.power = true then s.power.overflow else 0
  loss : p.loss = if retainedValid s.power = true then s.power.loss else none
  dark : p.startDark = if retainedValid s.power = true ∧ s.power.darkSinceMark = true then s.power.dark else none
  factory : p.startFactory = !retainedValid s.power
  absent : p.startMarkAbsent = !s.power.continuity

theorem startedTo_two_power (s : State) : StartReads s (startedTo s 2).power := by
  have checked : (startedTo s 1).power = _ := startStep1_power (beginStartUp s)
  rw [startedTo_power s (by decide : 1 ≤ 2), checked]
  have marks : retainedValid (beginStartUp s).power = retainedValid s.power := rfl
  have since : (beginStartUp s).power.darkSinceMark = s.power.darkSinceMark := rfl
  by_cases valid : retainedValid s.power = true
  · have kept : (beginStartUp s).power.retained = _ := retained_valid (marks.trans valid)
    rw [kept, since, marks, beginStartUp_power]
    constructor <;> simp [valid]
  · have gone : (beginStartUp s).power.retained = _ := retained_factory (marks.trans (Bool.eq_false_iff.mpr valid))
    rw [gone, since, marks, beginStartUp_power]
    constructor <;> simp [valid]

/-! ### The state that steps 3 and 4 leave -/

/-- The notices, the channel and the record that step 3 leaves, over the state `w` that step 2 left (R171, R200). -/
structure StartReplays (w t : State) : Prop where
  strip : ∃ n, startNotices w.power ≤ n ∧ StripAt n t
  told : StartTold w t
  profile : ∃ q, t.profile = { w.profile.resumed with period := w.profile.resumed.desc.map fun _ => q } ∧
    q.wh = 0 ∧ q.minV = none ∧ q.minutes = 0
  record : ∀ d v, w.profile.desc = some d → 0 < d.remaining → w.profile.saved = some v →
    peekBytes t (d.offset + 16 * d.nextSlot) 16 = v.bytes

theorem startNotices_le {p : Power} (few : p.events.length ≤ 8) : startNotices p ≤ 10 := by
  unfold startNotices
  split <;> omega

theorem startStep3_replays {w : State} (layout : layoutWell w) (empty : StripAt 0 w) (few : w.power.events.length ≤ 8)
    (after : linkUp (startStep3 w) = true) :
    StartReplays w (startStep3 w) ∧ ∃ n, n ≤ 11 ∧ StripAt n (startStep3 w) := by
  obtain ⟨strip, told⟩ := startTold_told empty few
  have notices := startNotices_le few
  have profile : (startTold w).profile = w.profile := startTold_touches w .profile (by decide)
  have index : (startTold w).strip.writeIndex ≤ 31 := by
    rw [strip.strip]
    dsimp only
    omega
  have toldLayout : layoutWell (startTold w) := layoutWell_of layout index (by rw [profile])
  rw [startStep3_eq, resumePeriods_eq] at after ⊢
  have closed := savedClosed_profile (startTold w)
  have shows := fun d desc left v saved =>
    savedClosed_shows toldLayout strip.up (d := d) (v := v) desc left saved
  have stands := savedClosed_stands toldLayout
  obtain ⟨n, low, high, closedStrip⟩ := savedClosed_adds toldLayout _ strip (by omega)
  generalize savedClosed (startTold w) = c at after closed shows stands closedStrip
  rw [profile] at closed shows
  obtain ⟨q, opened, fresh⟩ := openPeriod_fresh c
  rw [closed] at opened
  have rest : OnlyTouches [.profile, .power] c (overPower (fun p => { p with stage := .replayed }) (openPeriod c)) := by
    simp
  have kept := rest.storeStands (by decide) (by decide)
  have ends : StripAt n (overPower (fun p => { p with stage := .replayed }) (openPeriod c)) :=
    ⟨after, closedStrip.strip, closedStrip.read⟩
  exact ⟨⟨⟨n, low, ends⟩, (told.later stands).later kept, ⟨q, opened, fresh⟩,
    fun d v desc left saved => shows d desc left v saved⟩, n, by omega, ends⟩

theorem startStep4_keepsOpen {s : State} (index : s.strip.writeIndex ≤ 31) {a n : Nat} (area : 0x800 ≤ a) :
    peekBytes (startStep4 s) a n = peekBytes s a n := by
  have keeps : Keeps [.page, .slips, .strip] s (startStep4 s) := (startStep4_keeps s).mono (by decide)
  exact keeps.peekBytes_open index area

theorem startedTo_replays {s : State} (layout : layoutWell s) (few : s.power.events.length ≤ 8) {k : Nat}
    (replayed : 3 ≤ k) (small : k ≤ 4) : StartReplays (startedTo s 2) (startedTo s k) := by
  have reads := startedTo_two_power s
  have fewer : (startedTo s 2).power.events.length ≤ 8 := by
    rw [reads.events]
    split
    · exact few
    · decide
  have layoutTwo := startedTo_two_layout layout
  obtain ⟨replays, n, notices, strip⟩ := startStep3_replays layoutTwo (startedTo_two_strip s) fewer
    (linkUp_startedTo s (k := 3) (by decide) (by decide))
  change StartReplays (startedTo s 2) (startedTo s 3) at replays
  change StripAt n (startedTo s 3) at strip
  obtain rfl | rfl : k = 3 ∨ k = 4 := by omega
  · exact replays
  · have stopped := startedTo_stopped s 3
    have up := linkUp_startedTo s (k := 3) (by decide) (by decide)
    have after : linkUp (startStep4 (startedTo s 3)) = true := linkUp_startedTo s (k := 4) (by decide) le_rfl
    have profile : (startStep4 (startedTo s 3)).profile = (startedTo s 3).profile :=
      startStep4_stopped stopped .profile (by decide)
    change StartReplays _ (startStep4 (startedTo s 3))
    generalize startedTo s 3 = r at *
    obtain ⟨⟨m, low, stripped⟩, told, channel, record⟩ := replays
    have index : r.strip.writeIndex = n := by rw [strip.strip]
    have same : r.strip.writeIndex = m := by rw [stripped.strip]
    obtain ⟨j, above, -, ends⟩ := startStep4_adds stopped up after m stripped (by omega)
    refine ⟨⟨j, by omega, ends⟩, told.later (startStep4_storeStands r), ?_, fun d v desc left saved => ?_⟩
    · rw [profile]
      exact channel
    · obtain ⟨area, -⟩ := layoutTwo.2 d desc
      rw [startStep4_keepsOpen (by omega) (by omega)]
      exact record d v desc left saved

end Sys2Proof.Machine
end

section
/-! PROOF. What the obligation reads of the state that steps 3 and 4 leave (R83, R127, R171, R173, R200). -/

namespace Sys2Proof.Machine

/-! ### The fields of POWER_BACK and WATCH_LOST -/

theorem EntryShows.powerBack {t : State} {i n : Nat} {p : Power} {c : Clock}
    (h : EntryShows t i (powerBackBytes n p c)) :
    peekBytes t (0x600 + 16 * i) 7 =
      [byteOf NoticeKind.powerBack.code, byteOf (powerBackReason p + 128 * c.valid.toNat)] ++ leBytes 4 c.count ++
        [powerBackFlags p c] ∧
    peekBytes t (0x600 + 16 * i + 7) 4 = leBytes 4 (outageOf p c) ∧
    peekBytes t (0x600 + 16 * i + 11) 2 = [byteOf n, byteOf p.overflow] :=
  ⟨h.field 0 7 (by decide), h.field 7 4 (by decide), h.field 11 2 (by decide)⟩

theorem EntryShows.watchLost {t : State} {i : Nat} {x : Stamp} {dark : Option DarkRecord}
    (h : EntryShows t i (noticeBytes .watchLost 0 x (watchLostDetail dark))) :
    peek t (0x600 + 16 * i) = byteOf NoticeKind.watchLost.code ∧
    peekBytes t (0x600 + 16 * i + 6) 7 = watchLostDetail dark := by
  refine ⟨(List.cons.inj (h.byte 0 (by decide))).1, (h.field 6 7 (by decide)).trans ?_⟩
  cases dark <;> rfl

theorem outageOf_absent {p : Power} {c : Clock} (h : p.loss = none ∨ p.startMarkAbsent = true) : outageOf p c = 0 := by
  unfold outageOf
  rcases h with none | absent
  · rw [none]
  · split
    · exact if_pos absent
    · rfl

theorem outageOf_after {p : Power} {c : Clock} {l : LossRecord} (loss : p.loss = some l)
    (present : p.startMarkAbsent = false) (later : l.time.count ≤ c.count) : outageOf p c = c.count - l.time.count := by
  simp [outageOf, loss, present, later]

/-! ### The profile channel -/

theorem Profile.resumed_saved (f : Profile) : f.resumed.saved = none := by
  unfold Profile.resumed Profile.closed
  cases saved : f.saved with
  | none => exact saved
  | some v =>
    dsimp only
    split
    · split <;> rfl
    · rfl

theorem Profile.resumed_of_none {f : Profile} (saved : f.saved = none) : f.resumed = f := by
  simp [Profile.resumed, saved]

theorem Profile.resumed_of_full {f : Profile} {v : SavedPeriod} {d : Descriptor} (saved : f.saved = some v)
    (desc : f.desc = some d) (none_left : d.remaining = 0) :
    f.resumed.desc = some d ∧ f.resumed.unrecorded = min (f.unrecorded + 1) 65535 := by
  simp [Profile.resumed, Profile.closed, saved, desc, none_left]

theorem Profile.resumed_of_left {f : Profile} {v : SavedPeriod} {d : Descriptor} (saved : f.saved = some v)
    (desc : f.desc = some d) (left : 0 < d.remaining) :
    f.resumed.desc = some d.advanced ∧ f.resumed.unrecorded = f.unrecorded := by
  simp [Profile.resumed, Profile.closed, saved, desc, Nat.ne_of_gt left]

theorem SavedPeriod.bytes_take (v : SavedPeriod) : v.bytes.take 11 =
    leBytes 4 v.endTime.count ++ leBytes 2 v.period.wh ++ leBytes 2 (v.period.minV.getD 0) ++
    leBytes 2 (v.period.maxV.getD 0) ++
    [flagsByte [v.period.tamper, v.period.supplyOpen, v.period.clockInvalid || !v.endTime.valid, v.period.step,
      true]] :=
  profileRecordBytes_take _ _ _

/-! ### The causes before step 4, and rebuilt by it -/

theorem startedTo_three_causes {s : State} (valid : retainedValid s.power = true) :
    (startedTo s 3).supply.causes = s.supply.causes := by
  rw [(startedTo_over (s := s) (by decide) (.inl (by decide))).supply, startFound_valid valid]
  rfl

theorem startedTo_four_causes (s : State) : (startedTo s 4).supply.causes =
    (startFound s).supply.causes.started (startedTo s 4).credit (startFound s).tamper.records := by
  rw [(startedTo_over (s := s) (k := 4) le_rfl (.inl (by decide))).supply]
  rfl

theorem startedTo_four_kept {s : State} (valid : retainedValid s.power = true) :
    (startedTo s 4).supply.causes.order = s.supply.causes.order ∧
    (startedTo s 4).supply.causes.overload = s.supply.causes.overload := by
  rw [startedTo_four_causes, startFound_valid valid]
  exact ⟨rfl, rfl⟩

theorem startedTo_four_rebuilt (s : State) :
    ((startedTo s 4).supply.causes.credit = true ↔ (startedTo s 4).credit.state = .exhausted) ∧
    ((startedTo s 4).supply.causes.tamper = true ↔ (startedTo s 4).tamper.records.caseOpen.status ≠ .clear ∨
      (startedTo s 4).tamper.records.bypass.status ≠ .clear) := by
  have found := startedTo_over (s := s) (k := 4) le_rfl (.inl (by decide))
  rw [startedTo_four_causes, found.records]
  generalize startedTo s 4 = t
  exact ⟨decide_eq_true_iff, disconnects_iff _⟩

theorem startedTo_four_credit {s : State} (valid : retainedValid s.power = true) :
    (startedTo s 4).credit = s.credit.evaluated s.settings (startedTo s 4).clock := by
  have found := startedTo_over (s := s) (k := 4) le_rfl (.inl (by decide))
  rw [found.beside.clock_eq (by decide), found.credit, startFound_valid valid]
  rfl

/-- Settles O48: step 3's notices from the strip's start, the saved period's close, and step 4's cause set. -/
theorem startUpReplaysAndRebuilds : Obligations.StartUpReplaysAndRebuilds := by
  unfold Obligations.StartUpReplaysAndRebuilds
  intro c k s begins replayed layout few
  obtain ⟨u, run, began⟩ := exec_startUp begins
  have small : k.val ≤ 4 := Nat.le_of_lt_succ k.isLt
  have profile : u.profile = s.profile := began.touches .profile (by decide)
  have layoutU : layoutWell u := by
    refine layoutWell_of layout ?_ (by rw [profile])
    have strip : u.strip = s.strip := began.touches .strip (by decide)
    exact strip ▸ layout.1
  have same : retainedValid u.power = retainedValid s.power ∧ u.power.events = s.power.events ∧
      u.power.overflow = s.power.overflow ∧ u.power.loss = s.power.loss ∧ u.power.dark = s.power.dark ∧
      u.power.darkSinceMark = s.power.darkSinceMark ∧ u.power.continuity = s.power.continuity := by
    rw [began.power]
    exact ⟨rfl, rfl, rfl, rfl, rfl, rfl, rfl⟩
  obtain ⟨marks, sameEvents, sameOverflow, sameLoss, sameDark, sameSince, sameMark⟩ := same
  obtain ⟨⟨m, low, strip⟩, told, ⟨q, channel, fresh⟩, record⟩ :=
    startedTo_replays layoutU (sameEvents ▸ few) replayed small
  obtain ⟨events, overflow, loss, dark, factory, absent⟩ := startedTo_two_power u
  rw [marks, sameEvents] at events
  rw [marks, sameOverflow] at overflow
  rw [marks, sameLoss] at loss
  rw [marks, sameDark, sameSince] at dark
  rw [marks] at factory
  rw [sameMark] at absent
  have clock : (startedTo u 2).clock = (startedTo u k.val).clock :=
    ((startedTo_over (by decide) (.inl (by decide))).beside.clock_eq (by decide)).trans
      ((startedTo_over small (.inl (by omega))).beside.clock_eq (by decide)).symm
  have before : (startedTo u 2).profile =
      if retainedValid s.power = true then { s.profile with period := none } else Profile.factory := by
    rw [startedTo_two_profile, startFound_profile, marks, profile]
  have emptied : (startedTo u k.val).power.events = [] ∧ (startedTo u k.val).power.overflow = 0 := by
    rw [startedTo_power u (show 1 ≤ k.val by omega)]
    exact ⟨if_neg (by omega), if_neg (by omega)⟩
  have keeps : retainedValid s.power = true → StartKeeps u (startedTo u k.val) k.val := fun valid =>
    startedTo_keeps (marks.trans valid) small
  have causes : k.val = 3 → retainedValid s.power = true → (startedTo u k.val).supply.causes = s.supply.causes :=
    fun three valid => by
      rw [three, startedTo_three_causes (marks.trans valid), began.touches.supply_eq (by decide)]
  have rebuilt : k.val = 4 → _ := fun four => four ▸ startedTo_four_rebuilt u
  have kept : k.val = 4 → retainedValid s.power = true →
      (startedTo u k.val).supply.causes.order = s.supply.causes.order ∧
      (startedTo u k.val).supply.causes.overload = s.supply.causes.overload := fun four valid => by
    rw [four, ← began.touches.supply_eq (by decide)]
    exact startedTo_four_kept (marks.trans valid)
  have credited : k.val = 4 → retainedValid s.power = true → (startedTo u k.val).credit =
      s.credit.evaluated s.settings (startedTo u k.val).clock := fun four valid => by
    have settings : u.settings = s.settings := began.touches .settings (by decide)
    have credit : u.credit = s.credit := began.touches.credit_eq (by decide)
    rw [four, startedTo_four_credit (marks.trans valid), settings, credit]
  refine ⟨_, run, ?_⟩
  generalize startedTo u k.val = t at *
  generalize startedTo u 2 = w at *
  dsimp only
  rw [← events, ← overflow, ← loss, ← dark]
  have mark : w.power.startMarkAbsent = true ↔ s.power.continuity = false := by simp [absent]
  have noted : (w.power.events.length + if s.power.continuity = false then 2 else 1) = startNotices w.power := by
    simp only [startNotices, mark]
  obtain ⟨backHead, backOutage, backCounts⟩ := told.back.powerBack
  rw [powerBackFlags, lossValid_eq, factory, absent] at backHead
  rw [clock] at backHead backOutage
  obtain ⟨noEvents, noOverflow⟩ := emptied
  refine ⟨noEvents, noOverflow, ?_, ?_, strip.read, ?_, fun i e found => ?_, backHead, fun gone => ?_,
    fun l some_loss present later => ?_, backCounts, fun gone => ?_, fun valid none_saved => ?_,
    fun v d valid saved desc => ?_, ?_, causes, fun four => ?_⟩
  · rw [channel]
    exact Profile.resumed_saved _
  · rw [noted, strip.strip]
    exact low
  · rw [strip.strip]
  · obtain ⟨kind, fields⟩ := (told.events i e found).event
    refine ⟨kind.trans ?_, fields⟩
    unfold BatteryEvent.noticeKind
    cases e.position <;> rfl
  · rw [backOutage, outageOf_absent (gone.imp_right mark.mpr)]
    rfl
  · have there : w.power.startMarkAbsent = false := Bool.eq_false_iff.mpr fun gone => present (mark.mp gone)
    rw [backOutage, outageOf_after some_loss there later]
  · obtain ⟨kind, detail⟩ := (told.lost (mark.mpr gone)).watchLost
    refine ⟨kind, detail.trans ?_⟩
    unfold watchLostDetail
    cases w.power.startDark <;> rfl
  · rw [if_pos valid] at before
    have unsaved : w.profile.saved = none := by rw [before]; exact none_saved
    rw [channel, Profile.resumed_of_none unsaved, before]
    exact ⟨rfl, rfl⟩
  · rw [if_pos valid] at before
    have desc' : w.profile.desc = some d := by rw [before]; exact desc
    have saved' : w.profile.saved = some v := by rw [before]; exact saved
    have unrecorded : w.profile.unrecorded = s.profile.unrecorded := by rw [before]
    rw [channel, ← unrecorded]
    refine ⟨fun none_left => Profile.resumed_of_full saved' desc' none_left, fun left => ?_⟩
    obtain ⟨advanced, count⟩ := Profile.resumed_of_left saved' desc' left
    refine ⟨count, advanced, ?_⟩
    rw [peekBytes_take _ _ 11 5, record d v desc' left saved', SavedPeriod.bytes_take]
  · exact ⟨q, by rw [channel], fresh⟩
  · obtain ⟨credit, tamper⟩ := rebuilt four
    refine ⟨credit, tamper, fun valid => ?_⟩
    obtain ⟨machine, -⟩ := (keeps valid).supply
    obtain ⟨order, overload⟩ := kept four valid
    have supply : u.supply = s.supply := began.touches.supply_eq (by decide)
    have records : u.tamper = s.tamper := began.touches .tamper (by decide)
    rw [supply] at machine
    exact ⟨credited four valid, order, overload, machine, records ▸ (keeps valid).records⟩

end Sys2Proof.Machine
end

section
/-! SUPPORT. The final frame in HOLDUP: the link port and the store stand, the supply controller rests, and the period
in progress takes the frame (R7, R126, R165, R191, R197). -/

namespace Sys2Proof.Machine

/-! ### While the link port does not answer (R164, R191) -/

/-- With the link port down, it stays so, and neither the store nor the link port nor the strip moves. -/
def DownStands (s t : State) : Prop :=
  linkUp s = false → linkUp t = false ∧ t.store = s.store ∧ t.link = s.link ∧ t.strip = s.strip

theorem DownStands.trans {s t u : State} (h : DownStands s t) (g : DownStands t u) : DownStands s u := fun down => by
  obtain ⟨tdown, tstore, tlink, tstrip⟩ := h down
  obtain ⟨udown, ustore, ulink, ustrip⟩ := g tdown
  exact ⟨udown, ustore.trans tstore, ulink.trans tlink, ustrip.trans tstrip⟩

theorem DownStands.refl (s : State) : DownStands s s := fun down => ⟨down, rfl, rfl, rfl⟩

theorem OnlyTouches.downStands {bs : List Block} {s t : State} (h : OnlyTouches bs s t)
    (m : ∀ b ∈ [Block.store, .link, .strip, .power], b ∉ bs) : DownStands s t := fun down =>
  ⟨(h.linkUp_eq (m _ (by decide))).trans down, h .store (m _ (by decide)), h .link (m _ (by decide)),
    h .strip (m _ (by decide))⟩

theorem poke_down (a : Nat) (l : List Byte) {s : State} (down : linkUp s = false) : poke a l s = s :=
  if_neg (by rw [down]; decide)

theorem writeNotice_down (k : NoticeKind) (head : Nat) (x : Stamp) (d : List Byte) {s : State}
    (down : linkUp s = false) : writeNotice k head x d s = s := if_neg (by rw [down]; decide)

theorem raise_down (c : AttnCause) {s : State} (down : linkUp s = false) : raise c s = s :=
  if_neg (by rw [down]; decide)

theorem DownStands.of_same {f : State → State} (same : ∀ {s}, linkUp s = false → f s = s) (s : State) :
    DownStands s (f s) := fun down => by
  rw [same down]
  exact DownStands.refl s down

theorem downStands_works : HoldsOfWorks DownStands where
  refl := .refl
  trans := .trans
  own h := h.downStands (by decide)
  page s _ _ := .of_same (poke_down _ _) s
  writeNotice k head x d s := .of_same (writeNotice_down k head x d) s
  raise c s := .of_same (raise_down c) s
  supplyOpen s := (profileSupplyOpen_touches s).downStands (by decide)

theorem recordPeriod_downStands (p : Period) (endTime : Nat) (m : Bool) (s : State) :
    DownStands s (recordPeriod p endTime m s) := by
  have paged : ∀ x u, DownStands s u → DownStands s (pageProfile (u.withProfile x)) := fun x u before =>
    (before.trans ((withProfile_touches u x).downStands (by decide))).trans (.of_same (poke_down _ _) _)
  cases desc : s.profile.desc with
  | none =>
    have same : recordPeriod p endTime m s = s := by simp [recordPeriod, desc]
    rw [same]
    exact .refl s
  | some d =>
    rcases Nat.eq_zero_or_pos d.remaining with none_left | left
    · rw [recordPeriod_unrecorded desc none_left]
      exact paged _ s (.refl s)
    · exact (paged _ _ (.of_same (poke_down _ _) s)).trans (recordPeriod_after downStands_works desc left p endTime m)

theorem downStands_holds : HoldsOfBlocks DownStands where
  refl := .refl
  trans := .trans
  works each _ := each _ downStands_works
  beside h := h.downStands (by decide)
  page s _ := .of_same (poke_down _ _) s
  tariff _ := (withTariff_touches _ _).downStands (by decide)
  code _ := (withCode_touches _ _).downStands (by decide)
  power same := fun down => ⟨same.trans down, rfl, rfl, rfl⟩
  profile _ := (withProfile_touches _ _).downStands (by decide)
  record := recordPeriod_downStands

/-! ### The supply controller rests -/

theorem kindOn_rests (k : TamperKind) (more : List Byte) (s : State) : SupplyRests s (kindOn k more s) := by
  have told := (kindTold_touches k more s).supplyRests (by decide) (by decide)
  rw [kindOn_eq]
  split
  · exact told.trans (setCause_rests (.inr rfl) _ _)
  · exact told

theorem judgeKind_rests (f : Frame) (k : FrameKind) (s : State) : SupplyRests s (judgeKind f k s) := by
  have held := (resultHeld_touches k f s).supplyRests (by decide) (by decide)
  rw [judgeKind_eq]
  split
  · exact held.trans (kindOn_rests _ _ _)
  · split
    · exact held.trans ((kindOff_touches _ _).supplyRests (by decide) (by decide))
    · exact held

theorem tamperFrame_rests (f : Frame) (s : State) : SupplyRests s (tamperFrame f s) := by
  have judged : SupplyRests s (FrameKind.all.foldl (fun s k => judgeKind f k s) s) :=
    List.foldlRecOn _ _ ((OnlyTouches.refl [] s).supplyRests (by simp) (by simp)) fun u h k _ =>
      h.trans (judgeKind_rests f k u)
  exact judged.trans ((pageWindows_touches _).supplyRests (by decide) (by decide))

/-- The debit and its evaluation, before the period counts the watt-hour. -/
def handPaid (s : State) : State :=
  energyDebit (unitRate s.tariff s.clock) (countWattHour
    (s.withEnergy { s.energy with billed.wh := (s.energy.billed.wh + 1) % 1000000000 }))

theorem carry_handPaid (s : State) : carry s = owePulse (profileWattHour (handPaid s)) := rfl

/-- The account debited, before it is evaluated. -/
def handDebited (s : State) : State :=
  pageCredit ((countWattHour (s.withEnergy { s.energy with
    billed.wh := (s.energy.billed.wh + 1) % 1000000000 })).withCredit
      (s.credit.energyDebit (unitRate s.tariff s.clock)))

theorem handPaid_eq (s : State) : handPaid s = evaluateCredit .energy (handDebited s) := rfl

theorem handDebited_touches (s : State) : OnlyTouches [.store, .energy, .tariff, .credit] s (handDebited s) := by
  simp [handDebited]

theorem carry_rests (s : State) : SupplyRests s (carry s) := by
  have paid : SupplyRests s (handPaid s) :=
    ((handDebited_touches s).supplyRests (by decide) (by decide)).trans (evaluateCredit_rests _ _)
  have later : OnlyTouches [.store, .energy, .profile] (handPaid s) (carry s) := by simp [carry_handPaid]
  exact paid.trans (later.supplyRests (by decide) (by decide))

theorem carries_rests (n : Nat) (s : State) : SupplyRests s (carries n s) := by
  induction n generalizing s with
  | zero => exact (OnlyTouches.refl [] s).supplyRests (by simp) (by simp)
  | succ n ih => exact (carry_rests s).trans (ih _)

theorem energyFrame_rests (f : Frame) (s : State) : SupplyRests s (energyFrame f s) :=
  (((withEnergy_touches s _).supplyRests (by decide) (by decide)).trans (carries_rests _ _)).trans
    ((energyFrame_carries f s).supplyRests (by decide) (by decide))

end Sys2Proof.Machine
end

section
/-! SUPPORT. The period in progress under the final frame (R7, R197). -/

namespace Sys2Proof.Machine

/-! ### The tamper mark -/

/-- The period with TAMPER set, or as it stands. -/
def Period.marked (b : Bool) (p : Period) : Period := { p with tamper := p.tamper || b }

theorem Period.marked_false : Period.marked false = id := by
  funext p
  simp [Period.marked]

theorem Period.marked_true : Period.marked true = fun p => { p with tamper := true } := by
  funext p
  simp [Period.marked]

theorem Period.marked_marked (b c : Bool) : Period.marked c ∘ Period.marked b = Period.marked (b || c) := by
  funext p
  simp [Period.marked, Bool.or_assoc]

/-- From `s` to `t` kind `k` has entered ACTIVE. -/
def Entered (k : TamperKind) (s t : State) : Prop :=
  (s.tamper.records.get k).status ≠ .active ∧ (t.tamper.records.get k).status = .active

/-- From `s` to `t` only records of these kinds move, and the period is marked where one entered ACTIVE (R197). -/
structure MarksTamper (kinds : List TamperKind) (s t : State) : Prop where
  others : ∀ k ∉ kinds, t.tamper.records.get k = s.tamper.records.get k
  marked : ∃ b, t.profile = { s.profile with period := s.profile.period.map (Period.marked b) } ∧
    (b = true ↔ ∃ k, Entered k s t)

theorem MarksTamper.of_same {kinds : List TamperKind} {s t : State}
    (same : ∀ k ∈ kinds, ¬ Entered k s t) (others : ∀ k ∉ kinds, t.tamper.records.get k = s.tamper.records.get k)
    (profile : t.profile = s.profile) : MarksTamper kinds s t := by
  refine ⟨others, false, by rw [profile, Period.marked_false, Option.map_id]; rfl, ?_⟩
  refine iff_of_false (by decide) fun ⟨k, entered⟩ => ?_
  by_cases mem : k ∈ kinds
  · exact same k mem entered
  · exact entered.1 (by rw [← others k mem]; exact entered.2)

theorem MarksTamper.trans {l j : List TamperKind} {s t u : State} (h : MarksTamper l s t) (g : MarksTamper j t u)
    (apart : ∀ k ∈ l, k ∉ j) : MarksTamper (l ++ j) s u := by
  obtain ⟨first, b, tperiod, entersT⟩ := h
  obtain ⟨second, c, uperiod, entersU⟩ := g
  refine ⟨fun k out => ?_, b || c, ?_, ?_⟩
  · rw [List.mem_append, not_or] at out
    rw [second k out.2, first k out.1]
  · rw [uperiod, tperiod]
    simp only [Option.map_map, Period.marked_marked]
  · have moved : ∀ k, Entered k s t → k ∈ l := fun k entered => by
      by_contra out
      exact entered.1 (by rw [← first k out]; exact entered.2)
    have movedLater : ∀ k, Entered k t u → k ∈ j := fun k entered => by
      by_contra out
      exact entered.1 (by rw [← second k out]; exact entered.2)
    rw [Bool.or_eq_true, entersT, entersU]
    constructor
    · rintro (⟨k, entered⟩ | ⟨k, entered⟩)
      · exact ⟨k, entered.1, by rw [second k (apart k (moved k entered))]; exact entered.2⟩
      · have out : k ∉ l := fun mem => apart k mem (movedLater k entered)
        exact ⟨k, by rw [← first k out]; exact entered.1, entered.2⟩
    · rintro ⟨k, entered⟩
      by_cases mem : k ∈ l
      · exact .inl ⟨k, entered.1, by rw [← second k (apart k mem)]; exact entered.2⟩
      · exact .inr ⟨k, by rw [first k mem]; exact entered.1, entered.2⟩

theorem kindOn_profile (k : TamperKind) (more : List Byte) {s : State} (stopped : isRunning s = false) :
    (kindOn k more s).profile = { s.profile with period := s.profile.period.map (Period.marked true) } := by
  have told : (kindTold k more s).profile =
      { s.profile with period := s.profile.period.map (Period.marked true) } := by
    have before : ∀ u, OnlyTouches [.store, .tamper, .link, .strip] s u → (profileTamper u).profile =
        { s.profile with period := s.profile.period.map (Period.marked true) } := fun u only => by
      have same : u.profile = s.profile := only .profile (by decide)
      rw [profileTamper, overPeriod, State.withProfile_profile, same, Period.marked_true]
    exact before _ (by simp)
  have still : isRunning (kindTold k more s) = false :=
    ((kindTold_touches k more s).isRunning_eq (by decide)).trans stopped
  rw [kindOn_eq, ← told]
  split
  · exact setCause_stopped_touches .tamper true still .profile (by decide)
  · rfl

/-- A frame kind judged while the part does not run. -/
theorem judgeKind_marks (f : Frame) (k : FrameKind) {s : State} (stopped : isRunning s = false) :
    MarksTamper [k.kind] s (judgeKind f k s) := by
  have others : ∀ j ∉ [k.kind], (judgeKind f k s).tamper.records.get j = s.tamper.records.get j := fun j out => by
    rw [judgeKind_tamper, TamperRecords.get_set, if_neg (by simpa using out)]
  have own : (judgeKind f k s).tamper.records.get k.kind = judgedRecord k f s := by
    rw [judgeKind_tamper, TamperRecords.get_set_same]
  have held : isRunning (resultHeld k f s) = false :=
    ((resultHeld_touches k f s).isRunning_eq (by decide)).trans stopped
  by_cases enters : (s.tamper.records.get k.kind).status ≠ .active ∧
      s.settings.windowK ≤ (judgedWindow k f s).count true
  · have active : (judgedRecord k f s).status = .active := by
      rw [judgedRecord, if_pos enters]
      exact activated_status _ _ _
    refine ⟨others, true, ?_, iff_of_true rfl ⟨k.kind, enters.1, by rw [own, active]⟩⟩
    rw [judgeKind_eq, if_pos enters]
    exact kindOn_profile _ _ held
  · refine .of_same (fun j mem entered => ?_) others ?_
    · rw [List.mem_singleton] at mem
      subst mem
      obtain ⟨before, after⟩ := entered
      rw [own, judgedRecord_few before (Nat.lt_of_not_le fun enough => enters ⟨before, enough⟩)] at after
      exact before after
    · rw [judgeKind_eq, if_neg enters]
      split
      · exact kindOff_touches _ _ .profile (by decide)
      · rfl

theorem judgeKind_stopped (f : Frame) (k : FrameKind) {s : State} (stopped : isRunning s = false) :
    isRunning (judgeKind f k s) = false := ((judgeKind_touches s f k).isRunning_eq (by decide)).trans stopped

theorem judgeKinds_marks (f : Frame) (l : List FrameKind) (distinct : (l.map FrameKind.kind).Nodup) {s : State}
    (stopped : isRunning s = false) :
    MarksTamper (l.map FrameKind.kind) s (l.foldl (fun s k => judgeKind f k s) s) := by
  induction l generalizing s with
  | nil => exact .of_same nofun (fun _ _ => rfl) rfl
  | cons k l ih =>
    rw [List.map_cons, List.nodup_cons] at distinct
    obtain ⟨fresh, rest⟩ := distinct
    refine (judgeKind_marks f k stopped).trans (ih rest (judgeKind_stopped f k stopped)) fun j mem => ?_
    rw [List.mem_singleton.mp mem]
    exact fresh

/-- The tamper watch takes a frame while the part does not run: the period is marked where a kind enters ACTIVE
(R147, R197). -/
theorem tamperFrame_marks (f : Frame) {s : State} (stopped : isRunning s = false) :
    ∃ b, (tamperFrame f s).profile = { s.profile with period := s.profile.period.map (Period.marked b) } ∧
      (b = true ↔ ∃ k, Entered k s (tamperFrame f s)) := by
  obtain ⟨-, b, period, enters⟩ := judgeKinds_marks f FrameKind.all (by decide) stopped
  have profile : (tamperFrame f s).profile = (FrameKind.all.foldl (fun s k => judgeKind f k s) s).profile :=
    pageWindows_touches _ .profile (by decide)
  have tamper : (tamperFrame f s).tamper = (FrameKind.all.foldl (fun s k => judgeKind f k s) s).tamper :=
    pageWindows_touches _ .tamper (by decide)
  refine ⟨b, profile.trans period, ?_⟩
  simp only [Entered, tamper]
  exact enters

/-! ### The watt-hours -/

/-- The period with one watt-hour more (R197). -/
def Period.counted (p : Period) : Period := { p with wh := min (p.wh + 1) 65535 }

theorem Period.counted_iterate (n : Nat) {p : Period} (range : p.wh ≤ 65535) :
    Period.counted^[n] p = { p with wh := min (p.wh + n) 65535 } := by
  induction n generalizing p with
  | zero => rw [Nat.add_zero, Nat.min_eq_left range]; rfl
  | succ n ih =>
    have sum : min (min (p.wh + 1) 65535 + n) 65535 = min (p.wh + (n + 1)) 65535 := by omega
    rw [Function.iterate_succ_apply, ih (Nat.min_le_right _ _), Period.counted, ← sum]

theorem carry_profile {s : State} (stopped : isRunning s = false) :
    (carry s).profile = { s.profile with period := s.profile.period.map Period.counted } := by
  have still : isRunning (handDebited s) = false := ((handDebited_touches s).isRunning_eq (by decide)).trans stopped
  have debited : (handDebited s).profile = s.profile := handDebited_touches s .profile (by decide)
  have paid : (handPaid s).profile = (handDebited s).profile :=
    handPaid_eq s ▸ evaluateCredit_stopped .energy still .profile (by decide)
  have owed : (carry s).profile = (profileWattHour (handPaid s)).profile := owePulse_touches _ .profile (by decide)
  rw [owed, profileWattHour, overPeriod, State.withProfile_profile, paid, debited]
  rfl

theorem carries_profile (n : Nat) {s : State} (stopped : isRunning s = false) :
    (carries n s).profile = { s.profile with period := s.profile.period.map Period.counted^[n] } := by
  induction n generalizing s with
  | zero =>
    rw [Function.iterate_zero, Option.map_id]
    rfl
  | succ n ih =>
    have still : isRunning (carry s) = false := ((carry_touches s).isRunning_eq (by decide)).trans stopped
    rw [carries, ih still, carry_profile stopped, Function.iterate_succ]
    simp only [Option.map_map]

theorem carries_rem (n : Nat) (s : State) : (carries n s).energy.billed.rem = s.energy.billed.rem := by
  induction n generalizing s with
  | zero => rfl
  | succ n ih =>
    rw [carries, ih, carry_energy]
    dsimp only
    split <;> rfl

/-- A frame in the energy register block while the part does not run: its power, the remainder, and the period's
watt-hours (R27, R28, R197). -/
theorem energyFrame_counts (f : Frame) {s : State} (stopped : isRunning s = false) :
    (energyFrame f s).energy.billed.rem =
      (s.energy.billed.rem + frameEnergy (energyFrame f s).energy.power f.duration) % wattHour ∧
    (energyFrame f s).profile = { s.profile with
      period := s.profile.period.map Period.counted^[
        (s.energy.billed.rem + frameEnergy (energyFrame f s).energy.power f.duration) / wattHour] } := by
  have page := energyFrame_carries f s
  have profile : (energyFrame f s).profile = _ := page .profile (by decide)
  have billed := withEnergy_touches s (s.energy.billedBy s.settings f (basePower s f))
  have still := (billed.isRunning_eq (by decide)).trans stopped
  have power : (energyFrame f s).energy.power = min (basePower s f).power powerClamp := by
    rw [page.energy_eq (by decide), carries_power]
    rfl
  rw [power]
  exact ⟨by rw [page.energy_eq (by decide), carries_rem]; rfl, profile.trans (carries_profile _ still)⟩

end Sys2Proof.Machine
end

section
/-! SUPPORT. The final frame as a whole: what it leaves, and the period that takes it (R7, R126, R165, R197, R200). -/

namespace Sys2Proof.Machine

/-! ### The final frame -/

/-- The frame that a loss of mains closes (R7). -/
def finalFrame (elapsed : Nat) (m : Means) (s : State) : Frame := makeFrame (gather elapsed m s)

/-- The period with a frame's V taken (R197). -/
def Period.framed (v : Nat) (p : Period) : Period :=
  { p with minV := some (match p.minV with | some m => min m v | none => v),
           maxV := some (match p.maxV with | some m => max m v | none => v) }

/-- The watt-hours that the final frame hands off, by the remainder before it and its billed power (R27 to R29). -/
def finalCarries (elapsed : Nat) (s t : State) : Nat :=
  (s.energy.billed.rem + t.energy.power * elapsed / 1000) / 3600000

/-- From `s` to `t` the final frame `f` has closed in HOLDUP. -/
structure FinalFrame (elapsed : Nat) (f : Frame) (s t : State) : Prop where
  duration : f.duration = elapsed
  last : t.front.last = some f
  power : t.power = s.power.taken f
  down : t.store = s.store ∧ t.link = s.link ∧ t.strip = s.strip
  code : t.code = s.code
  clock : t.clock = s.clock
  pins : t.pins = s.pins
  supply : t.supply = { s.supply with causes := t.supply.causes }
  rem : t.energy.billed.rem = (s.energy.billed.rem + t.energy.power * elapsed / 1000) % 3600000
  period : ∃ b, (b = true ↔ ∃ k, Entered k s t) ∧ t.profile = { s.profile with
    period := s.profile.period.map fun p => (Period.counted^[finalCarries elapsed s t] (p.marked b)).framed f.v }

theorem closeFinalFrame_closes (elapsed : Nat) (m : Means) {s : State} (holdup : s.power.state = .holdup) :
    FinalFrame elapsed (finalFrame elapsed m s) s (closeFinalFrame elapsed m s) := by
  have stopped : isRunning s = false := by simp [isRunning, holdup]
  have down : linkUp s = false := linkUp_false_of_state (by rw [holdup]; decide)
  have whole := closeFinalFrame_touches s elapsed m
  obtain ⟨-, store, link, strip⟩ := downStands_holds.closeFinalFrame elapsed m s down
  have seconds : (finalFrame elapsed m s).duration = elapsed := rfl
  have begun : OnlyTouches [.front, .conv] s (putFrame (finalFrame elapsed m s) (gather elapsed m s)) := by
    simp
  have last : (putFrame (finalFrame elapsed m s) (gather elapsed m s)).front.last = some (finalFrame elapsed m s) := rfl
  have shape : closeFinalFrame elapsed m s = profileFrame (finalFrame elapsed m s).v
    (batteryFrame (finalFrame elapsed m s) (energyFrame (finalFrame elapsed m s) (tamperFrame (finalFrame elapsed m s)
      (putFrame (finalFrame elapsed m s) (gather elapsed m s))))) := rfl
  rw [shape] at whole store link strip ⊢
  generalize finalFrame elapsed m s = f at *
  generalize putFrame f (gather elapsed m s) = p at *
  have beganStopped := (begun.isRunning_eq (by decide)).trans stopped
  obtain ⟨b, marked, enters⟩ := tamperFrame_marks f beganStopped
  obtain ⟨stillStopped, rests⟩ := tamperFrame_rests f p beganStopped
  obtain ⟨rem, counted⟩ := energyFrame_counts f stillStopped
  obtain ⟨-, billedRests⟩ := energyFrame_rests f (tamperFrame f p) stillStopped
  have judged := tamperFrame_touches p f
  have billed := energyFrame_touches (tamperFrame f p) f
  have told := batteryFrame_touches (energyFrame f (tamperFrame f p)) f
  have power := batteryFrame_power f (energyFrame f (tamperFrame f p))
  generalize tamperFrame f p = a at *
  generalize energyFrame f a = e at *
  generalize batteryFrame f e = c at *
  have taken := profileFrame_touches c f.v
  have period : (profileFrame f.v c).profile = { c.profile with
    period := c.profile.period.map (Period.framed f.v) } := rfl
  generalize profileFrame f.v c = t at *
  have later : OnlyTouches [.store, .conv, .energy, .tariff, .credit, .supply, .tamper, .link, .strip, .profile, .power]
      p t := (((judged.mono (by decide)).trans (billed.mono (by decide))).trans (told.mono (by decide))).trans
    (taken.mono (by decide))
  have ends : OnlyTouches [.store, .link, .strip, .profile, .power] e t :=
    (told.mono (by decide)).trans (taken.mono (by decide))
  have front : t.front = p.front := later .front (by decide)
  have energy : t.energy = e.energy := ends.energy_eq (by decide)
  have before : a.energy = s.energy := (judged.energy_eq (by decide)).trans (begun.energy_eq (by decide))
  have beganProfile : p.profile = s.profile := begun .profile (by decide)
  have toldProfile : c.profile = e.profile := told .profile (by decide)
  have beganTamper : p.tamper = s.tamper := begun .tamper (by decide)
  have endTamper : t.tamper = a.tamper := ((billed.mono (by decide)).trans (bs := [.store, .conv, .energy, .tariff,
    .credit, .supply, .link, .strip, .profile, .power]) (ends.mono (by decide))) .tamper (by decide)
  rw [before, ← energy, seconds] at rem counted
  refine ⟨seconds, by rw [front, last], ?_, ⟨store, link, strip⟩, whole .code (by decide), whole.clock_eq (by decide),
    whole .pins (by decide), ?_, rem, b, ?_, ?_⟩
  · rw [taken.power_eq (by decide), power, billed.power_eq (by decide), judged.power_eq (by decide),
      begun.power_eq (by decide)]
  · rw [ends.supply_eq (by decide), billedRests, rests, begun.supply_eq (by decide)]
  · simp only [Entered, endTamper, ← beganTamper]
    exact enters
  · rw [period, toldProfile, counted, marked, beganProfile]
    simp only [Option.map_map]
    rfl

end Sys2Proof.Machine
end

section
/-! PROOF. The hold-up work and what the entry to HOLDUP loses (R37, R53, R108, R110, R126, R165, R166, R200). -/

namespace Sys2Proof.Machine

/-! ### The hold-up work, part by part (R165) -/

section
variable (s : State)

theorem holdupStopped_rest : OnlyTouches [.code, .supply, .profile, .freeCount] (holdupStopped s) (holdupWork s) := by
  simp [holdupWork_eq, holdupReset]

theorem holdupWork_front :
    (holdupWork s).front = { s.front with running := false, progress := Progress.empty } :=
  holdupStopped_rest s .front (by decide)

theorem holdupWork_conv : (holdupWork s).conv = s.conv.abandon :=
  holdupStopped_rest s .conv (by decide)

theorem holdupWork_load : (holdupWork s).tariff.load = none := by
  rw [(holdupStopped_rest s).tariff_eq (by decide)]
  rfl

theorem holdupReset_supply : (holdupReset s).supply = s.supply :=
  (holdupReset_touches s).supply_eq (by decide)

theorem holdupWork_supply : (holdupWork s).supply = (supplyHoldup (holdupReset s)).supply :=
  (savePeriod_touches _).supply_eq (by decide)

theorem supplyHoldup_supply : (supplyHoldup s).supply =
    if s.supply.coil.isSome then { s.supply with retry := 0 }
    else { s.supply with
      retry := 0
      attempt := none
      unverified := decide (s.supply.machine = .opening ∨ s.supply.machine = .closing) } := by
  unfold supplyHoldup
  dsimp only
  split
  · next busy => rw [if_pos (show s.supply.coil.isSome from busy)]; rfl
  · next free => rw [if_neg (show ¬ s.supply.coil.isSome from free)]; rfl

/-- The code unit with a KEY_SET in flight cut short: its retained update whole, or not begun (R108). -/
theorem cutKeySet_code : (cutKeySet s).code = s.code ∨
    ∃ n live, s.code.decoder = .keying n live false ∧
      (cutKeySet s).code = { s.code with key := 0, keySet := false } := by
  unfold cutKeySet
  split
  · next n live keying =>
    refine freePick_of (P := fun t => t.code = s.code ∨ ∃ n live, s.code.decoder = .keying n live false ∧
      t.code = { s.code with key := 0, keySet := false }) (fun _ _ h => h) (.inl rfl) fun r mem => ?_
    rcases List.mem_cons.mp mem with rfl | mem
    · exact .inl rfl
    · obtain rfl := List.mem_singleton.mp mem
      exact .inr ⟨n, live, keying, rfl⟩
  · exact .inl rfl

theorem holdupWork_code : (holdupWork s).code = s.code.volatileReset ∨
    ∃ n live, s.code.decoder = .keying n live false ∧
      (holdupWork s).code = { s.code.volatileReset with key := 0, keySet := false } := by
  have rest : OnlyTouches [.supply, .profile] (holdupReset s) (holdupWork s) := by simp [holdupWork_eq]
  have code : (holdupWork s).code = (cutKeySet (holdupStopped s)).code.volatileReset := rest .code (by decide)
  rw [code]
  rcases cutKeySet_code (holdupStopped s) with kept | ⟨n, live, keying, cut⟩
  · exact .inl (by rw [kept]; rfl)
  · exact .inr ⟨n, live, keying, by rw [cut]; rfl⟩

/-- The period in progress is saved with the clock's count and validity, or an earlier saved one is kept (R200). -/
theorem holdupWork_profile : (holdupWork s).profile = { s.profile with
    period := none
    saved := match s.profile.period with
      | some p => some ⟨p, now s⟩
      | none => s.profile.saved } := by
  have begun : OnlyTouches [.front, .conv, .energy, .tariff, .code, .freeCount, .supply] s
      (supplyHoldup (holdupReset s)) :=
    ((holdupReset_touches s).mono (by decide)).trans ((supplyHoldup_touches _).mono (by decide))
  have profile : (supplyHoldup (holdupReset s)).profile = s.profile := begun .profile (by decide)
  have stamp : now (supplyHoldup (holdupReset s)) = now s := by rw [now, now, begun.clock_eq (by decide)]
  rw [holdupWork_eq]
  generalize supplyHoldup (holdupReset s) = u at profile stamp
  rw [← profile, ← stamp]
  unfold savePeriod
  cases period : u.profile.period with
  | some p => rfl
  | none =>
    have whole : u.profile = { u.profile with period := u.profile.period } := rfl
    rw [period] at whole
    exact whole

end

/-! ### What the entry to HOLDUP leaves before the hold-up work -/

/-- From `s` the part has entered HOLDUP, and a final frame may have closed. -/
structure HoldupEntered (r : EntryReason) (s u : State) : Prop where
  power : u.power.state = .holdup ∧ u.power.holdupDone = false ∧
    u.power.loss = if isRunning s = true then some ⟨now s, r⟩ else s.power.loss
  gone : u.store = [] ∧ u.strip = ⟨0, 0⟩ ∧ u.link = Link.empty
  code : u.code = s.code
  clock : u.clock = s.clock
  supply : u.supply = { s.supply with causes := u.supply.causes }
  profile : ∃ g, u.profile = { s.profile with period := s.profile.period.map g }

theorem beginHoldup_entered (r : EntryReason) (x : Pins) (s : State) :
    HoldupEntered r s (beginHoldup r (s.withPins x)) :=
  ⟨⟨rfl, rfl, rfl⟩, ⟨rfl, rfl, rfl⟩, rfl, rfl, rfl, id, by rw [Option.map_id]; rfl⟩

theorem Power.taken_spent (p : Power) (f : Frame) :
    p.taken f = { p with spent := (p.taken f).spent } := by
  unfold Power.taken
  split
  · unfold Power.judged
    split_ifs <;> rfl
  · rfl

theorem HoldupEntered.framed {r : EntryReason} {s u t : State} {elapsed : Nat} {f : Frame} (h : HoldupEntered r s u)
    (frame : FinalFrame elapsed f u t) : HoldupEntered r s t := by
  obtain ⟨store, link, strip⟩ := frame.down
  obtain ⟨emptied, cleared, reset⟩ := h.gone
  obtain ⟨b, -, period⟩ := frame.period
  obtain ⟨g, profile⟩ := h.profile
  refine ⟨?_, ⟨store.trans emptied, strip.trans cleared, link.trans reset⟩, frame.code.trans h.code,
    frame.clock.trans h.clock, ?_,
    fun p => (Period.counted^[finalCarries elapsed u t] ((g p).marked b)).framed f.v, ?_⟩
  · rw [frame.power, Power.taken_spent]
    exact h.power
  · rw [frame.supply, h.supply]
  · rw [period, profile]
    simp only [Option.map_map]
    rfl

/-- What the entry to HOLDUP loses and keeps, as the obligation says it. -/
def HoldupLost (s : State) (r : EntryReason) (t : State) : Prop :=
  t.power.state = .holdup ∧ t.power.holdupDone = false ∧ t.front.running = false ∧
  t.front.progress = ⟨0, ⟨0, 0, 0, 0, 0⟩⟩ ∧ t.store = [] ∧
  t.strip = ⟨0, 0⟩ ∧ t.link = Link.empty ∧ t.energy.backlog = 0 ∧ t.energy.pulse = .idle ∧
  t.conv.inFlight = none ∧ t.tariff.load = none ∧ t.supply.retry = 0 ∧
  (t.code = s.code.volatileReset ∨
    ∃ n live, s.code.decoder = .keying n live false ∧
      t.code = { s.code.volatileReset with key := 0, keySet := false }) ∧
  t.profile = { s.profile with period := none, saved := t.profile.saved } ∧
  (s.profile.period = none → t.profile.saved = s.profile.saved) ∧
  t.power.loss = (if isRunning s = true then some ⟨now s, r⟩ else s.power.loss) ∧
  t.supply.machine = s.supply.machine ∧ t.supply.coil = s.supply.coil ∧
  (s.supply.coil = none → t.supply.attempt = none ∧
    t.supply.unverified = decide (s.supply.machine = .opening ∨ s.supply.machine = .closing))

/-- What the hold-up work leaves of the supply controller (R126). -/
theorem HoldupEntered.rested {r : EntryReason} {s u : State} (h : HoldupEntered r s u) :
    (holdupWork u).supply.retry = 0 ∧ (holdupWork u).supply.machine = s.supply.machine ∧
    (holdupWork u).supply.coil = s.supply.coil ∧
    (s.supply.coil = none → (holdupWork u).supply.attempt = none ∧
      (holdupWork u).supply.unverified = decide (s.supply.machine = .opening ∨ s.supply.machine = .closing)) := by
  rw [holdupWork_supply, supplyHoldup_supply, holdupReset_supply, h.supply]
  dsimp only
  split
  · next busy => exact ⟨rfl, rfl, rfl, fun idle => by rw [idle] at busy; cases busy⟩
  · exact ⟨rfl, rfl, rfl, fun _ => ⟨rfl, rfl⟩⟩

theorem HoldupEntered.lost {r : EntryReason} {s u : State} (h : HoldupEntered r s u) :
    HoldupLost s r (holdupWork u) := by
  have touches := holdupWork_touches u
  obtain ⟨state, undone, loss⟩ := h.power
  obtain ⟨emptied, cleared, reset⟩ := h.gone
  obtain ⟨g, profile⟩ := h.profile
  obtain ⟨retry, machine, coil, attempt⟩ := h.rested
  have power : (holdupWork u).power = u.power := touches.power_eq (by decide)
  have store : (holdupWork u).store = u.store := touches .store (by decide)
  have strip : (holdupWork u).strip = u.strip := touches .strip (by decide)
  have link : (holdupWork u).link = u.link := touches .link (by decide)
  have code := holdupWork_code u
  rw [h.code] at code
  refine ⟨by rw [power, state], by rw [power, undone], by rw [holdupWork_front], by rw [holdupWork_front]; rfl,
    store.trans emptied, strip.trans cleared, link.trans reset, by rw [holdupWork_energy], by rw [holdupWork_energy],
    by rw [holdupWork_conv]; rfl, holdupWork_load u, retry, code, ?_, fun idle => ?_, by rw [power, loss], machine,
    coil, attempt⟩
  · rw [holdupWork_profile, profile]
  · rw [holdupWork_profile, profile]
    simp only [idle, Option.map_none]

/-- The period in progress as it is saved. -/
theorem HoldupEntered.saved {r : EntryReason} {s u : State} (h : HoldupEntered r s u) {p : Period}
    (period : u.profile.period = some p) : (holdupWork u).profile.saved = some ⟨p, now s⟩ := by
  rw [holdupWork_profile, period, now, h.clock]
  rfl

/-! ### The three entries -/

theorem exec_mainsLoss {s : State} (mains : s.power.state = .mains) (elapsed : Nat) (m : Means) :
    exec (.mainsLoss elapsed m) s = .next (loseMains elapsed m (s.withPins { s.pins with mains := false })) := by
  simp [exec, execMainsLoss, mains]

theorem exec_resetnLow {s : State} (mains : s.power.state = .mains) :
    exec .resetnLow s = .next (pullReset (s.withPins { s.pins with resetnHigh := false })) := by
  simp [exec, execResetnLow, mains]

/-- An entry that closes no frame: what the front end and the meters hold, and the period as it is saved (R8, R200). -/
theorem holdupWork_unframed (r : EntryReason) (x : Pins) (s : State) :
    HoldupLost s r (holdupWork (beginHoldup r (s.withPins x))) ∧
    (holdupWork (beginHoldup r (s.withPins x))).pins = x ∧
    (holdupWork (beginHoldup r (s.withPins x))).front.last = s.front.last ∧
    (holdupWork (beginHoldup r (s.withPins x))).energy.billed = s.energy.billed ∧
    (holdupWork (beginHoldup r (s.withPins x))).credit = s.credit ∧
    ∀ p, s.profile.period = some p →
      (holdupWork (beginHoldup r (s.withPins x))).profile.saved = some ⟨p, now s⟩ := by
  have entered := beginHoldup_entered r x s
  have touches := holdupWork_touches (beginHoldup r (s.withPins x))
  refine ⟨entered.lost, touches .pins (by decide), by rw [holdupWork_front]; rfl, by rw [holdupWork_energy]; rfl,
    touches.credit_eq (by decide), fun p period => entered.saved period⟩

/-- An entry with a frame of at least 1 ms in progress (R7). -/
theorem loseMains_framed {elapsed : Nat} (m : Means) {s : State} (some_ms : 1 ≤ elapsed) (short : elapsed ≤ 999)
    (running : s.front.running = true) :
    ∃ u f, loseMains elapsed m s = holdupWork u ∧ FinalFrame elapsed f (beginHoldup .mainsLoss s) u := by
  refine ⟨_, _, ?_, closeFinalFrame_closes elapsed m (s := beginHoldup .mainsLoss s) rfl⟩
  have whole : min elapsed 999 = elapsed := Nat.min_eq_left short
  rw [loseMains]
  rw [whole, if_pos ⟨running, some_ms⟩]

theorem loseMains_unframed {elapsed : Nat} (m : Means) {s : State}
    (unframed : elapsed = 0 ∨ s.front.running = false) :
    loseMains elapsed m s = holdupWork (beginHoldup .mainsLoss s) := by
  rw [loseMains]
  rw [if_neg]
  rintro ⟨running, some_ms⟩
  rcases unframed with rfl | off
  · exact absurd some_ms (by decide)
  · exact absurd (running.symm.trans off) (by decide)

/-- The period saved with the final frame in it (R197, R200). -/
theorem framed_saved {elapsed : Nat} {f : Frame} {x : Pins} {s u : State}
    (frame : FinalFrame elapsed f (beginHoldup .mainsLoss (s.withPins x)) u) {p : Period}
    (period : s.profile.period = some p) (range : p.wh ≤ 65535) :
    ∃ q, (holdupWork u).profile.saved = some ⟨q, now s⟩ ∧
      q.wh = min (p.wh + finalCarries elapsed s u) 65535 ∧
      q.minV = some (match p.minV with | some x => min x f.v | none => f.v) ∧
      q.maxV = some (match p.maxV with | some x => max x f.v | none => f.v) ∧
      (q.tamper = true ↔ p.tamper = true ∨ ∃ k, Entered k s u) ∧
      q.supplyOpen = p.supplyOpen ∧ q.clockInvalid = p.clockInvalid ∧ q.step = p.step ∧ q.slot = p.slot ∧
      q.minutes = p.minutes := by
  obtain ⟨b, enters, profile⟩ := frame.period
  have entered := (beginHoldup_entered .mainsLoss x s).framed frame
  have carried : finalCarries elapsed (beginHoldup .mainsLoss (s.withPins x)) u = finalCarries elapsed s u := rfl
  have before : (beginHoldup .mainsLoss (s.withPins x)).profile.period = some p := period
  rw [carried] at profile
  have saves : u.profile.period =
      some ((Period.counted^[finalCarries elapsed s u] (p.marked b)).framed f.v) := by
    rw [profile]
    exact congrArg (Option.map _) before
  rw [Period.counted_iterate _ (show (p.marked b).wh ≤ 65535 from range)] at saves
  refine ⟨_, entered.saved saves, rfl, rfl, rfl, ?_, rfl, rfl, rfl, rfl, rfl⟩
  change (p.tamper || b) = true ↔ _
  rw [Bool.or_eq_true, enters]
  rfl

/-- Settles O45: the final frame over the state just entered, then the hold-up work over both. -/
theorem lossOfMainsAndResetnEnterHoldup : Obligations.LossOfMainsAndResetnEnterHoldup := by
  unfold Obligations.LossOfMainsAndResetnEnterHoldup
  intro s mains
  refine ⟨fun elapsed m some_ms short running => ?_, fun elapsed m unframed => ?_, ?_⟩
  · obtain ⟨u, f, closes, frame⟩ := loseMains_framed m (s := s.withPins { s.pins with mains := false }) some_ms short
      running
    have entered := (beginHoldup_entered .mainsLoss { s.pins with mains := false } s).framed frame
    have touches := holdupWork_touches u
    have pins : (holdupWork u).pins = u.pins := touches .pins (by decide)
    have tamper : (holdupWork u).tamper = u.tamper := touches .tamper (by decide)
    refine ⟨_, f, (exec_mainsLoss mains elapsed m).trans (by rw [closes]), entered.lost, ?_, ?_, frame.duration, ?_,
      fun p period range => ?_⟩
    · rw [pins, frame.pins]
      rfl
    · rw [holdupWork_front]
      exact frame.last
    · rw [holdupWork_energy]
      exact frame.rem
    · rw [tamper, holdupWork_energy]
      exact framed_saved frame period range
  · rw [exec_mainsLoss mains, loseMains_unframed m (s := s.withPins { s.pins with mains := false }) unframed]
    obtain ⟨lost, pins, rest⟩ := holdupWork_unframed .mainsLoss { s.pins with mains := false } s
    exact ⟨_, rfl, lost, by rw [pins], rest⟩
  · rw [exec_resetnLow mains, pullReset]
    obtain ⟨lost, pins, rest⟩ := holdupWork_unframed .resetn { s.pins with resetnHigh := false } s
    exact ⟨_, rfl, lost, by rw [pins], rest⟩

end Sys2Proof.Machine
end
